-- ==== Sys2Proof/Word.lean ====
section
/-! DEFINITION. The byte of the serial ports and the plainest arithmetic of the data book's conventions (0.7 Arithmetic):
saturating and wrapping sums and the quotient truncated toward zero. -/

namespace Sys2Proof

/-- One byte of a frame or a message. -/
abbrev Byte := BitVec 8

/-- A sum that saturates at `cap`. -/
abbrev satAdd (cap a b : Nat) : Nat := min cap (a + b)

/-- A sum that wraps to 0 past `modulus − 1`. -/
abbrev wrapAdd (modulus a b : Nat) : Nat := (a + b) % modulus

/-- 2^32 − 1, the ceiling of the counts of frames and of the internal seconds. -/
abbrev max32 : Nat := 4294967295

/-- 2^40 − 1, the ceiling of the totals. -/
abbrev max40 : Nat := 1099511627775

/-- 2^40, the modulus of the wrapping totals. -/
abbrev mod40 : Nat := 1099511627776

/-- The quotient of a signed difference, truncated toward zero (0.7). -/
abbrev truncDiv (d : Int) (k : Nat) : Int := Int.tdiv d (k : Int)

end Sys2Proof
end

