-- ==== Sys2Proof/Syntax.lean ====
section
/-! DEFINITION. The commands of the block: one constructor of Instr for each row of spec/opcode_table.json, with the
row's operands. The table's rows give no operand fields, so the operands are those the row's rule names: the bytes of a
frame, the channel or the actuator an event concerns, the tag, index and contents of a request. The loaded records of
the tables (R8 to R160) stand here too, because a write carries one as its contents. -/

namespace Sys2Proof

/-- The two input ports (R1). -/
inductive Port where
  | frx | grx
deriving DecidableEq, Repr

/-- The two output ports (R6). -/
inductive OutPort where
  | gtx | ftx
deriving DecidableEq, Repr

/-- Lane kinds, in the order of the table of 1.2.1. -/
inductive LaneKind where
  | level | count | value | mark
deriving DecidableEq, Repr

/-- A lane descriptor (table of 1.2.1). Numbers are as written; R8 checks their ranges. -/
structure LaneDesc where
  enabled : Bool
  slot : Nat
  start : Nat
  width : Nat
  invert : Bool
  kind : LaneKind
  w : Nat
  mark : Option Nat
  moisture : Bool
deriving DecidableEq, Repr

/-- Indicator sources of the report slots, in the order of the table of 1.3. -/
inductive Indicator where
  | chgLo | chgHi | mainState | leakLatch | serviceTank | rgsState | saltReminder | filterDue | locks | fieldStale
  | faultValid | testState | flowHi | flowLo
deriving DecidableEq, Repr

/-- A report-field descriptor (R16). -/
structure ReportField where
  enabled : Bool
  slot : Nat
  start : Nat
  width : Nat
  source : Indicator
deriving DecidableEq, Repr

/-- Channel modes, in the order of the table of 2.1. -/
inductive ChannelMode where
  | off | edgeCount | countDelta | gatedCount | period | highTime | valueMean
deriving DecidableEq, Repr

/-- A channel record (table of 2.1). -/
structure ChannelRec where
  mode : ChannelMode
  inA : Nat
  inB : Option Nat
  preset : Option Nat
  x : Nat
  y : Nat
deriving DecidableEq, Repr

/-- Time-constant modes (R39). -/
inductive TimeConst where
  | slow | normal | fast | auto
deriving DecidableEq, Repr

/-- A tracker record (R39). -/
structure TrackerRec where
  enabled : Bool
  source : Nat
  offset : Nat
  gain : Nat
  lo : Nat
  hi : Nat
  tc : TimeConst
  bw : Nat
  bn : Nat
  mLock : Nat
  kLose : Nat
  j : Nat
  nHi : Nat
  nLo : Nat
deriving DecidableEq, Repr

/-- How an actuator recognises its position (R56). -/
inductive FeedbackKind where
  | switches | encoder
deriving DecidableEq, Repr

/-- An actuator record (R56). A field given per position holds six entries (R169). -/
structure ActuatorRec where
  enabled : Bool
  slot : Nat
  start : Nat
  width : Nat
  stopCode : Nat
  codes : Vector Nat 6
  kind : FeedbackKind
  switchLanes : Vector Nat 6
  encoderLane : Nat
  encoderValues : Vector Nat 6
  preset : Option Nat
  stallLane : Option Nat
  travel : Nat
  retry : Nat
  pause : Nat
deriving DecidableEq, Repr

/-- How the hardness in use is found (R79). -/
inductive HardnessMode where
  | auto | forced
deriving DecidableEq, Repr

/-- The softener settings (R79). -/
structure Softener where
  k : Nat
  kb : Nat
  mode : HardnessMode
  hf : Nat
  fe : Nat
  kFe : Nat
  reserve : Nat
  regenHour : Option Nat
  maxDays : Option Nat
  holdLimit : Nat
  resin : Nat
  cNom : Nat
  inlet : Option Nat
  brine : Option Nat
deriving DecidableEq, Repr

/-- The three curves (5.4.1). -/
inductive CurveId where
  | hardness | brine | efficiency
deriving DecidableEq, Repr

/-- What a write of a tank gives: a nominal, and perhaps a remaining and a seconds since regeneration (R99). -/
structure TankContents where
  nominal : Nat
  remaining : Option Nat
  seconds : Option Nat
deriving DecidableEq, Repr

/-- The REGEN_ROTOR positions a program step may name (R104). -/
inductive RegenPos where
  | backwash | brineDraw | slowRinse | fastRinse | refill
deriving DecidableEq, Repr

/-- How a regeneration step ends (R104). -/
inductive EndKind where
  | duration | volume
deriving DecidableEq, Repr

/-- A step of the regeneration program (R104). -/
structure RegenStep where
  enabled : Bool
  pos : RegenPos
  endKind : EndKind
  duration : Nat
  volume : Nat
  timeout : Nat
  allowance : Nat
deriving DecidableEq, Repr

/-- The salt settings (R119). -/
structure SaltSettings where
  capacity : Nat
  reminder : Nat
  bridgeConc : Nat
  presentHeight : Nat
  emptyHeight : Nat
  minRise : Nat
deriving DecidableEq, Repr

/-- Kinds of filter stage (R133). -/
inductive StageKind where
  | cartridge | media
deriving DecidableEq, Repr

/-- The pressure trackers a stage may name (R133). -/
inductive PressureId where
  | supply | mid | house
deriving DecidableEq, Repr

/-- A filter stage record (R133). -/
structure StageRec where
  enabled : Bool
  kind : StageKind
  up : Option PressureId
  down : Option PressureId
  volumeLimit : Option Nat
  dayLimit : Option Nat
  dpLimit : Option Nat
  persistence : Nat
  qRef : Nat
  qMin : Nat
  bwVolume : Option Nat
  bwDays : Option Nat
deriving DecidableEq, Repr

/-- What a write of a stage gives: the record, and perhaps its four volume and seconds counters (R134). -/
structure StageContents where
  record : StageRec
  volRep : Option Nat
  secRep : Option Nat
  volBw : Option Nat
  secBw : Option Nat
deriving DecidableEq, Repr

/-- The FILTER_ROTOR positions a backwash step may name (R139). -/
inductive BackwashPos where
  | backwash | rinse
deriving DecidableEq, Repr

/-- A step of the backwash program (R139). -/
structure BackwashStep where
  enabled : Bool
  pos : BackwashPos
  duration : Nat
  allowance : Nat
deriving DecidableEq, Repr

/-- Kinds of leak rule (R154). -/
inductive RuleKind where
  | continuous | trickle | eventVolume | moisture | silence
deriving DecidableEq, Repr

/-- What a leak rule's trip does (R154). -/
inductive RuleAction where
  | notify | shut
deriving DecidableEq, Repr

/-- A leak rule record (R154). A zone of `none` is ANY; bit h of `hours` is the flag of hour h. -/
structure LeakRule where
  enabled : Bool
  kind : RuleKind
  rateLo : Nat
  rateHi : Nat
  duration : Nat
  volume : Nat
  zone : Option Nat
  hours : BitVec 24
  action : RuleAction
deriving DecidableEq, Repr

/-- A zone window (R158). -/
structure ZoneWindow where
  enabled : Bool
  base : Nat
  mask : Nat
  zone : Nat
deriving DecidableEq, Repr

/-- The leak configuration (R160). -/
structure LeakConfig where
  gap : Nat
  staleShut : Nat
  silence : Option Nat
  testEnabled : Bool
  testHour : Nat
  testWindow : Nat
  settle : Nat
  measure : Nat
  demand : Nat
  decay : Nat
  failToShut : Nat
deriving DecidableEq, Repr

/-- The contents of a WRITE_ENTRY to a table with no behaviour of its own (R169). `none` in place of a record stands
for contents one of whose fields holds no value of its type (an unknown enumeration position, a yes-or-no byte other
than 0 and 1). `unusable` stands for a table number above 19, or contents of the wrong length for a table. -/
inductive PlainContents where
  | reportConst (b : Byte)
  | driveMask (b : Byte)
  | regenStep (c : Option RegenStep)
  | backwashStep (c : Option BackwashStep)
  | zoneWindow (c : Option ZoneWindow)
  | leakConfig (c : Option LeakConfig)
  | unusable (table : Nat)
deriving DecidableEq, Repr

/-- The four actuators, in the order of the table of 4.1. -/
inductive Actr where
  | main | selector | regenRotor | filterRotor
deriving DecidableEq, Repr

/-- The commands: one constructor for each row of spec/opcode_table.json. A request carries its tag first. -/
inductive Instr where
  -- resets, frames and time
  | powerOnReset
  | goodFieldFrame (slots : Vector Byte 20)
  | discardedRun (port : Port) (bytes : List Byte) (framingError : Bool)
  | goodControlFrame (drive : Vector Byte 6) (first second : Byte)
  | frameTimerExpiry
  | fieldLinkStale
  | gatewayStale
  | transmitterFrameEnd (port : OutPort)
  -- channels
  | channelResult (ch : Fin 8)
  | periodTimeout (ch : Fin 8)
  | windowAbandoned (ch : Fin 8)
  -- actuators and the drain line
  | arrival (a : Actr)
  | travelTimeout (a : Actr)
  | pauseExpiry (a : Actr)
  | stall (a : Actr)
  | displacement (a : Actr)
  | adoption (a : Actr)
  | drainGrant
  -- regeneration and salt
  | calendarRegenTrigger
  | regenStepEnd
  | settlingExpiry
  | regenHoldLimit
  | internalSecond
  -- filter stages
  | stageDue (st : Fin 4)
  | backwashDemand
  | backwashQueue
  | backwashStepEnd
  | backwashHoldLimit
  -- leak guard
  | ruleTimerTrip (r : Fin 16)
  | drawEventEnd
  | zoneSilent (z : Fin 8)
  | fieldLost
  | latchedCloseRetry
  | testCalendarTrigger
  | testWindowExpiry
  | testSettleExpiry
  | testMeasureExpiry
  -- table requests
  | readEntry (tag : Byte) (table index : Nat)
  | writeEntry (tag : Byte) (index : Nat) (c : PlainContents)
  | writeEntryLane (tag : Byte) (index : Nat) (c : Option LaneDesc)
  | writeEntryReportField (tag : Byte) (index : Nat) (c : Option ReportField)
  | writeEntryChannel (tag : Byte) (index : Nat) (c : Option ChannelRec)
  | writeEntryPreset (tag : Byte) (index : Nat) (r : Nat)
  | writeEntryTracker (tag : Byte) (index : Nat) (c : Option TrackerRec)
  | writeEntryCurve (tag : Byte) (curve : CurveId) (index : Nat) (points : List (Nat × Nat))
  | writeEntrySoftener (tag : Byte) (index : Nat) (c : Option Softener)
  | writeEntryTank (tag : Byte) (index : Nat) (c : TankContents)
  | writeEntrySalt (tag : Byte) (index : Nat) (c : SaltSettings)
  | writeEntryStage (tag : Byte) (index : Nat) (c : Option StageContents)
  | writeEntryLeakRule (tag : Byte) (index : Nat) (c : Option LeakRule)
  | writeEntryActuator (tag : Byte) (index : Nat) (c : Option ActuatorRec)
  -- state requests
  | readResult (tag : Byte) (channel mode : Nat)
  | readState (tag : Byte) (object index part mode : Nat)
  | readStateLane (tag : Byte) (index part mode : Nat)
  | readStateTracker (tag : Byte) (index part mode : Nat)
  | readStateActuator (tag : Byte) (index part mode : Nat)
  | readStateTank (tag : Byte) (index part mode : Nat)
  | readStateLeakGuard (tag : Byte) (index part mode : Nat)
  | ackChanges (tag : Byte) (maskLo maskHi : Byte)
  -- commands
  | openMain (tag : Byte)
  | closeMain (tag : Byte)
  | clearLeakLatch (tag : Byte)
  | startRegen (tag : Byte) (tank : Nat)
  | cancelRegen (tag : Byte)
  | bypassOn (tag : Byte)
  | bypassOff (tag : Byte)
  | startBackwash (tag : Byte)
  | startLeakTest (tag : Byte)
  | abortLeakTest (tag : Byte)
  | saltRefilled (tag : Byte) (mass : Nat)
  | filterReplaced (tag : Byte) (stage : Nat)
  | clearFault (tag : Byte) (arg : Nat)
  | clearFaultRecord (tag : Byte)
  | clearSlip (tag : Byte)
  | setTime (tag : Byte) (day second : Nat)
  | restart (tag : Byte)
deriving DecidableEq, Repr

end Sys2Proof
end

