-- ==== Sys2Proof/Decode.lean ====
section
/-! DEFINITION. The decoder over the rows of spec/opcode_table.json that give bits. No row gives bits: a command of this
block is a frame, an event or a message, and a message is read by its own receiver (Machine/Messages.lean). -/

namespace Sys2Proof

/-- The command that a word of the table's bits spells: none, since no row of the table has bits (assumption 2). -/
def decodeTableWord (_nbits _w : Nat) : Option Instr := none

end Sys2Proof
end

