-- ==== Sys2Proof/Config.lean ====
section
/-! DEFINITION. What the data book leaves to the part. One free value: the order in which two judgements that fall in
one internal second are taken, where R162 gives both orders and says of neither which the part takes. -/

namespace Sys2Proof

/-- Free choice number n (assumption 3): true when, at the last second of the decay test's measurement, the demand
check is taken before the measure timer's expiry (R162). It has no body, so no proof can rest on a value of it. -/
opaque Config.checkBeforeExpiry : Nat → Bool

end Sys2Proof
end

