-- ==== Sys2Proof/Machine/Bits.lean ====
section
/-! DEFINITION. Bit fields of slots, byte order of numbers and the two cyclic redundancy checks (R7, R17, R169, R176, R177). -/

namespace Sys2Proof.Machine

/-- The `width` bits of `v` from bit `start`, as a number. -/
def bitField (v start width : Nat) : Nat := v / 2 ^ start % 2 ^ width

/-- `v` with its `width` bits from bit `start` replaced by the low-order bits of `x` (R17, R19). -/
def overlay (v start width x : Nat) : Nat :=
  v / 2 ^ (start + width) * 2 ^ (start + width) + x % 2 ^ width * 2 ^ start + v % 2 ^ start

/-- Two bit fields of one slot share a bit position. -/
def fieldsMeet (s1 w1 s2 w2 : Nat) : Bool := decide (s1 < s2 + w2 ∧ s2 < s1 + w1)

/-- The byte of a number's low eight bits. -/
def toByte (n : Nat) : Byte := BitVec.ofNat 8 n

/-- A number as `w` bytes, most significant byte first (R169). -/
def num : (w n : Nat) → List Byte
  | 0, _ => []
  | w + 1, n => num w (n / 256) ++ [toByte n]

/-- The number that bytes spell, most significant byte first (R169). -/
def ofBytes (bs : List Byte) : Nat := bs.foldl (fun acc b => acc * 256 + b.toNat) 0

/-- The number spelled by `w` bytes from offset `off`. -/
def numAt (bs : List Byte) (off w : Nat) : Nat := ofBytes ((bs.drop off).take w)

/-- `k` shifts of a check register, most significant bit first, with the polynomial `poly`. -/
def crcShift {w : Nat} (poly : BitVec w) : Nat → BitVec w → BitVec w
  | 0, c => c
  | k + 1, c => crcShift poly k (if c.msb then (c <<< 1) ^^^ poly else c <<< 1)

/-- The CRC-8 of a run of bytes: polynomial 0x31, register from 0x00 (R176). -/
def crc8 (bs : List Byte) : Byte := bs.foldl (fun c b => crcShift 0x31 8 (c ^^^ b)) 0

/-- The CRC-16 of a run of bytes: polynomial 0x1021, register from 0xFFFF (R177). -/
def crc16 (bs : List Byte) : BitVec 16 :=
  bs.foldl (fun c b => crcShift 0x1021 8 (c ^^^ (BitVec.zeroExtend 16 b <<< (8 : Nat)))) 0xFFFF

/-- A CRC-16 as two bytes, high byte first (R177). -/
def crc16Bytes (bs : List Byte) : List Byte := num 2 (crc16 bs).toNat

/-- The sync byte that opens every frame (1.1). -/
def syncByte : Byte := 0xB6

/-- A frame: the sync byte, the contents and the CRC-8 over the contents (R7, R176). -/
def frameOf (contents : List Byte) : List Byte := syncByte :: (contents ++ [crc8 contents])

end Sys2Proof.Machine
end

