-- ==== Sys2Proof/Machine/State.lean ====
section
/-! DEFINITION. The state of the block, chapter by chapter: every table, counter, timer, flag, queue and mark the data
book gives the BZ-4460, as plain data, and its value after a power-on reset (`State.reset`). Fields that are the
model's own and not the data book's say so. -/

namespace Sys2Proof.Machine

/-- No command of this block ends in a fault: every row of the table has an effect, perhaps none. The type is empty. -/
inductive Fault where
deriving DecidableEq, Repr

/-- Reasons a command is refused by the model. -/
inductive Refusal where
  /-- Raised by exec's arm of a row that has no meaning yet; safe. No arm raises it. -/
  | notModelled (mnemonic : String)
deriving DecidableEq, Repr

/-! ### Chapter 1: link, lanes and slot tables -/

/-- A receiver (R1): the bytes of the run kept so far, how many were counted and whether one had a framing error. -/
structure Receiver where
  kept : List Byte
  count : Nat
  framing : Bool
deriving DecidableEq, Repr

/-- A transmitter (R6): the frame being sent, or none when idle, and whether one frame is pending. -/
structure Transmitter where
  sending : Option (List Byte)
  waiting : Bool
deriving DecidableEq, Repr

/-- LNK's state (1.1) and the slot tables it composes with (1.3, 1.4). `fieldSeen` and `gwSeen` say whether a good
frame was taken on that port since the previous expiry of the frame timer (R3). -/
structure Link where
  frx : Receiver
  grx : Receiver
  lastField : Option (Vector Byte 20)
  driveBytes : Vector Byte 6
  fieldMissing : Nat
  gwMissing : Nat
  fieldFresh : Bool
  gwFresh : Bool
  fieldSeen : Bool
  gwSeen : Bool
  gtx : Transmitter
  ftx : Transmitter
  reportFields : Vector ReportField 24
  reportConst : Vector Byte 6
  driveMask : Vector Byte 6
deriving DecidableEq, Repr

/-- A lane's run state (R9 to R12). `waiting` is the alignment condition "waiting for mark". -/
structure LaneRun where
  level : Bool
  reference : Nat
  refValid : Bool
  assembler : Nat
  h : Nat
  waiting : Bool
  lastSample : Option Nat
  misalign : Bool
deriving DecidableEq, Repr

/-- A lane: its descriptor and its run state. -/
structure Lane where
  desc : LaneDesc
  run : LaneRun
deriving DecidableEq, Repr

/-! ### Chapter 2: meter channels -/

/-- A channel's condition (2.1). -/
inductive ChanCond where
  | off | unstarted | opened | suspended
deriving DecidableEq, Repr

/-- A filter state (R24, R60): the filtered level, `none` while unadopted, and the run count. -/
structure Filter where
  level : Option Bool
  count : Nat
deriving DecidableEq, Repr

/-- A published result (R35). -/
structure ChanResult where
  z : Nat
  e : Nat
  timeout : Bool
deriving DecidableEq, Repr

/-- A channel's run state (2.1). `timing` is the PERIOD phase TIMING. -/
structure ChannelRun where
  cond : ChanCond
  fa : Filter
  fb : Filter
  g : Nat
  n : Nat
  k : Nat
  acc : Nat
  e : Nat
  missing : Nat
  timing : Bool
  f : Nat
  s : Nat
  last : Option ChanResult
  ready : Bool
  overrun : Bool
  timeout : Bool
  glitch : Bool
deriving DecidableEq, Repr

/-- A meter channel: its record and its run state. -/
structure Channel where
  conf : ChannelRec
  run : ChannelRun
deriving DecidableEq, Repr

/-! ### Chapter 3: trackers -/

/-- A tracker's state (3.1). -/
inductive TrackState where
  | idle | search | locked | hold
deriving DecidableEq, Repr

/-- A tracker's run state (R41). `awaiting` holds in SEARCH before the first input; `sign` is the sign of the last
out-of-band difference, `some true` for a negative one. -/
structure TrackerRun where
  st : TrackState
  awaiting : Bool
  est : Option Nat
  lastIn : Option Nat
  m : Nat
  nIn : Nat
  nOut : Nat
  nStep : Nat
  sign : Option Bool
  noise : Bool
  step : Bool
  range : Bool
deriving DecidableEq, Repr

/-- A tracker: its record and its run state. -/
structure Tracker where
  conf : TrackerRec
  run : TrackerRun
deriving DecidableEq, Repr

/-! ### Chapter 4: actuators and the drain line -/

/-- The positions of the four actuators (table of 4.1). -/
inductive Pos where
  | mainOpen | mainClosed
  | tankA | tankB | bypass
  | service | backwash | brineDraw | slowRinse | fastRinse | refill
  | rinse
deriving DecidableEq, Repr

/-- An actuator's state (4.1). -/
inductive ActState where
  | unknown
  | at (p : Pos)
  | moving (t : Pos) (n : Nat)
  | paused (t : Pos) (n : Nat)
  | faultNoResponse
  | faultStall
deriving DecidableEq, Repr

/-- Fault kinds of the first-fault record, in the order of R173. -/
inductive FaultKind where
  | actNoResponse | actStall | actDisplaced | rgsAbandoned | rgsFaulted | fltAbandoned | fieldLost
deriving DecidableEq, Repr

/-- The recognition filter of an ENCODER actuator (R61). `filtered` is `none` while unadopted, and then a recognition:
a position or none. -/
structure EncFilter where
  filtered : Option (Option Pos)
  count : Nat
  raw : Option Pos
deriving DecidableEq, Repr

/-- An actuator's run state (4.1). `stallSeen` and `adoptSeen` are the model's marks (assumption 1): a good frame's
update has left the stall level at 1 in a move (R66), or has recognised a position in UNKNOWN (R68), and the event has
not been taken yet. -/
structure ActuatorRun where
  st : ActState
  switches : Vector Filter 6
  stall : Filter
  enc : EncFilter
  recognised : Option Pos
  travel : Option Nat
  pause : Option Nat
  displace : Option Nat
  lastConfirmed : Option Pos
  lastFault : Option FaultKind
  stallSeen : Bool
  adoptSeen : Bool
deriving DecidableEq, Repr

/-- An actuator: its record and its run state. -/
structure Actuator where
  conf : ActuatorRec
  run : ActuatorRun
deriving DecidableEq, Repr

/-- The requesters of the drain line (4.6). -/
inductive Requester where
  | regen | backwash | test
deriving DecidableEq, Repr

/-- DRA's state (4.6): the holder, the waiting list (one entry at most for each requester) and the allowance in force
with its holder kind. -/
structure Drain where
  holder : Option Requester
  waitRegen : Bool
  waitBackwash : Bool
  waitTest : Bool
  allowance : Nat
  kind : Option Requester
deriving DecidableEq, Repr

/-! ### Chapter 5: volume and hardness accounting -/

/-- Which kind of brine step is RUNNING (5.6.1). -/
inductive BrinePhase where
  | none | draw | refill
deriving DecidableEq, Repr

/-- The draw accumulator (5.6.2). -/
structure DrawAcc where
  isOpen : Bool
  saltDg : Nat
  volume : Nat
  lastConc : Option Nat
  measured : Bool
deriving DecidableEq, Repr

/-- ACC's state (5.1). -/
structure Account where
  settings : Softener
  hardnessCurve : List (Nat × Nat)
  brineCurve : List (Nat × Nat)
  efficiencyCurve : List (Nat × Nat)
  pulseCarry : Nat
  allowCarry : Nat
  brineCarry : Nat
  held : Option Nat
  h : Nat
  hc : Nat
  totalInlet : Nat
  totalTreated : Nat
  slip : Nat
  bypassVolume : Nat
  clamp : Bool
  slipSet : Bool
  phase : BrinePhase
  draw : DrawAcc
deriving DecidableEq, Repr

/-! ### Chapter 6: tank service and regeneration -/

/-- The two tanks (6.1). -/
inductive TankId where
  | a | b
deriving DecidableEq, Repr

/-- A tank's state (R98). -/
inductive TankState where
  | unconfigured | standby | service | exhausted | regenerating
deriving DecidableEq, Repr

/-- Outcomes of a regeneration or a backwash (R98, R145). -/
inductive RunOutcome where
  | complete | cancelled | abandoned | faulted
deriving DecidableEq, Repr

/-- A tank record (R98). -/
structure Tank where
  nominal : Nat
  remaining : Nat
  st : TankState
  seconds : Nat
  lastOutcome : Option RunOutcome
deriving DecidableEq, Repr

/-- States of the sequencer (6.1) and of the backwash (8.1). -/
inductive SeqState where
  | idle | queued | positioning | running | held | parking
deriving DecidableEq, Repr

/-- What started a regeneration (R117). -/
inductive RegenTrigger where
  | reserve | calendar | command
deriving DecidableEq, Repr

/-- The selector move in flight (6.1). -/
inductive SelMove where
  | none
  | swap (t : TankId)
  | bypassOn
  | bypassOff (t : TankId)
deriving DecidableEq, Repr

/-- The run in progress (6.1). `interrupted` is the phase a hold interrupted; `fromStart` (the model's mark) holds
until the current step has first become RUNNING, the "entered from its start" of R109. -/
structure RegenRun where
  tank : Option TankId
  prior : Option TankState
  trigger : Option RegenTrigger
  step : Option (Fin 8)
  elapsed : Nat
  brine : Nat
  hold : Nat
  drawBegun : Bool
  interrupted : Option SeqState
  fromStart : Bool
deriving DecidableEq, Repr

/-- The values formed when the draw accumulator is closed (R95). -/
structure DrawValues where
  saltG : Nat
  mean : Option Nat
  volume : Nat
  measured : Bool
deriving DecidableEq, Repr

/-- The restoration of a completed regeneration (R95). -/
structure Restoration where
  dose : Nat
  efficiency : Nat
  restored : Nat
deriving DecidableEq, Repr

/-- The regeneration record (R117). -/
structure RegenRecord where
  tank : TankId
  trigger : RegenTrigger
  queuedAt : Nat
  startedAt : Option Nat
  endedAt : Option Nat
  outcome : Option RunOutcome
  stepsDone : Nat
  short : Vector Bool 8
  brine : Option DrawValues
  restoration : Option Restoration
deriving DecidableEq, Repr

/-- RGS's state (6.1). `calendarDue` and `holdDue` are the model's marks (assumption 1): the calendar has reached the
regeneration hour, the hold has reached its limit, and the event has not been taken yet. -/
structure Rgs where
  tankA : Tank
  tankB : Tank
  program : Vector RegenStep 8
  snapshot : Vector RegenStep 8
  seq : SeqState
  run : RegenRun
  move : SelMove
  remembered : Option TankId
  record : Option RegenRecord
  calendarDue : Bool
  holdDue : Bool
deriving DecidableEq, Repr

/-! ### Chapter 7: brine and salt -/

/-- Phases of the refill check (7.5). -/
inductive RefillPhase where
  | none | inRefill | settling
deriving DecidableEq, Repr

/-- Results of the refill check (7.5). -/
inductive RefillResult where
  | pass | lowRise | short | unchecked
deriving DecidableEq, Repr

/-- The refill check (7.5). -/
structure RefillCheck where
  phase : RefillPhase
  startSample : Option Nat
  endSample : Option Nat
  volume : Nat
  timer : Option Nat
  result : Option RefillResult
deriving DecidableEq, Repr

/-- Results of the bridge check (R124). -/
inductive BridgeResult where
  | weak | normal | notChecked
deriving DecidableEq, Repr

/-- The last draw seen (R122). -/
structure LastDraw where
  values : DrawValues
  bridge : BridgeResult
deriving DecidableEq, Repr

/-- SLT's state (7.1). `levelState` and `levelEst` are BRINE_LEVEL as SLT last judged it (R131). -/
structure Salt where
  settings : SaltSettings
  store : Nat
  saltLow : Bool
  storeCause : Bool
  levelCause : Bool
  bridgeCount : Nat
  bridge : Bool
  refillShort : Bool
  refill : RefillCheck
  lastDraw : Option LastDraw
  levelState : TrackState
  levelEst : Option Nat
deriving DecidableEq, Repr

/-! ### Chapter 8: filter stages -/

/-- A filter stage (R133): its record, its counters, DUE and the last dp_norm evaluated. -/
structure Stage where
  conf : StageRec
  volRep : Nat
  secRep : Nat
  volBw : Nat
  secBw : Nat
  dpCount : Nat
  due : Bool
  lastDp : Option Nat
deriving DecidableEq, Repr

/-- What started a backwash; the first three are the causes of the demand (R140, R145). -/
inductive BwTrigger where
  | volume | days | pressure | command
deriving DecidableEq, Repr

/-- The backwash run in progress (8.1). -/
structure BwRun where
  stage : Option (Fin 4)
  trigger : Option BwTrigger
  step : Option (Fin 4)
  elapsed : Nat
  hold : Nat
  interrupted : Option SeqState
  decided : Bool
deriving DecidableEq, Repr

/-- The backwash record (R145). -/
structure BwRecord where
  stage : Fin 4
  trigger : BwTrigger
  queuedAt : Nat
  startedAt : Option Nat
  endedAt : Option Nat
  outcome : Option RunOutcome
  stepsDone : Nat
deriving DecidableEq, Repr

/-- FLT's state (8.1). `queueDue` and `holdDue` are the model's marks (assumption 1): a judgement of R140 has found the
backwash to be queued, the hold has reached its limit, and the event has not been taken yet. -/
structure Flt where
  stages : Vector Stage 4
  demand : Option BwTrigger
  fouled : Bool
  watch : Bool
  program : Vector BackwashStep 4
  snapshot : Vector BackwashStep 4
  st : SeqState
  run : BwRun
  record : Option BwRecord
  queueDue : Bool
  holdDue : Bool
deriving DecidableEq, Repr

/-! ### Chapter 9: leak guard -/

/-- Why the main is closing or closed (9.2). -/
inductive CloseReason where
  | leak | test | manual
deriving DecidableEq, Repr

/-- The main valve state (9.2). -/
inductive MainState where
  | opened
  | closing (r : CloseReason)
  | closed (r : CloseReason)
  | opening
  | fault
  | unknown
deriving DecidableEq, Repr

/-- What set the leak latch (R151). -/
inductive LatchCause where
  | rule (r : Fin 16)
  | testFail
  | fieldLost
deriving DecidableEq, Repr

/-- The leak latch while set: its cause and the internal seconds of its setting (R151). -/
structure Latch where
  cause : LatchCause
  seconds : Nat
deriving DecidableEq, Repr

/-- A rule's state (R155). -/
inductive RuleState where
  | dormant | armed | timing | tripped
deriving DecidableEq, Repr

/-- A leak rule: its record and its run state (R154, R155). -/
structure Rule where
  conf : LeakRule
  st : RuleState
  timer : Nat
  trips : Nat
  lastTrip : Option Nat
deriving DecidableEq, Repr

/-- A zone record (R159). `silentDue` is the model's mark (assumption 1): the second's judgement has found the zone
silent and the event has not been taken yet. -/
structure Zone where
  wet : Bool
  lowBattery : Bool
  tamper : Bool
  lastReport : Nat
  reported : Bool
  silent : Bool
  silentDue : Bool
deriving DecidableEq, Repr

/-- An active draw event (R153). `idle` counts the seconds since its last net volume above 0. -/
structure DrawEvent where
  start : Nat
  volume : Nat
  idle : Nat
deriving DecidableEq, Repr

/-- The record of the last ended draw event (R153). -/
structure EndedEvent where
  start : Nat
  volume : Nat
  ended : Nat
deriving DecidableEq, Repr

/-- The decay test's state (9.8). -/
inductive TestState where
  | idle | waiting | closing | settle | measure | reopening
deriving DecidableEq, Repr

/-- What started a decay test (R161). -/
inductive TestTrigger where
  | calendar | command
deriving DecidableEq, Repr

/-- Results of a decay test (R161 to R164). -/
inductive TestResult where
  | pass | fail | skipped | abortedManual | abortedLeak | abortedUnstable | abortedDemand | abortedStale | abortedValve
deriving DecidableEq, Repr

/-- The decay test's result record (R165); `failCount` is the fail count that the decision has left (R163). -/
structure TestRecord where
  trigger : TestTrigger
  startedAt : Nat
  endedAt : Option Nat
  p0 : Option Nat
  p1 : Option Nat
  decay : Option Nat
  failCount : Option Nat
  result : Option TestResult
deriving DecidableEq, Repr

/-- The decay test (9.8). One timer runs at a time: the window, the settle or the measure timer. -/
structure DecayTest where
  st : TestState
  timer : Option Nat
  p0 : Option Nat
  previous : Option Nat
  failCount : Nat
  record : Option TestRecord
deriving DecidableEq, Repr

/-- LKG's state (9.1). `drawDue`, `lostDue`, `retryDue` and `calendarDue` are the model's marks (assumption 1): the
second's judgement has found the draw event's gap, the field-loss time, the retry of R152 and R179, or the test hour
reached, and the event has not been taken yet. `lostDone` says that the field-loss shutoff of this stale spell has been
made (R160). -/
structure Lkg where
  main : MainState
  latch : Option Latch
  config : LeakConfig
  rules : Vector Rule 16
  windows : Vector ZoneWindow 8
  zones : Vector Zone 8
  unknownSensor : Bool
  lastUnknown : Option Nat
  event : Option DrawEvent
  lastEvent : Option EndedEvent
  lossTimer : Nat
  lostDone : Bool
  test : DecayTest
  drawDue : Bool
  lostDue : Bool
  retryDue : Bool
  calendarDue : Bool
deriving DecidableEq, Repr

/-! ### Chapter 10: management -/

/-- The request receiver (R166): COLLECTING or HUNT, the escape mark, the bytes kept and their count. -/
structure ReqReceiver where
  collecting : Bool
  escape : Bool
  bytes : List Byte
  count : Nat
deriving DecidableEq, Repr

/-- A reply in the queue: the tag of its request and its body, status first (R177). -/
structure Reply where
  tag : Byte
  body : List Byte
deriving DecidableEq, Repr

/-- The first-fault record (R173). -/
structure FaultRecord where
  valid : Bool
  lost : Bool
  kind : FaultKind
  source : Nat
  seconds : Nat
  detail : Vector Byte 4
deriving DecidableEq, Repr

/-- MGU's state (10.1). `sent` is the reply transmitter's position in the encoded form of the oldest reply, `none`
while it is IDLE. -/
structure Mgu where
  rx : ReqReceiver
  replies : List Reply
  sent : Option Nat
  restartPending : Bool
  changes : BitVec 16
  fault : FaultRecord
  seconds : Nat
  timeValid : Bool
  day : Nat
  secondOfDay : Nat
deriving DecidableEq, Repr

/-- The state of the block. `pending` is the queue of the commands that wait, first in, first out; `choices` counts the
free choices already drawn from Config.checkBeforeExpiry (both the model's own). -/
structure State where
  link : Link
  lanes : Vector Lane 32
  channels : Vector Channel 8
  presets : Vector Nat 4
  trackers : Vector Tracker 7
  main : Actuator
  selector : Actuator
  regenRotor : Actuator
  filterRotor : Actuator
  drain : Drain
  acc : Account
  rgs : Rgs
  slt : Salt
  flt : Flt
  lkg : Lkg
  mgu : Mgu
  choices : Nat
  pending : List Instr
deriving DecidableEq, Repr

/-! ### Power-on values -/

/-- A receiver between runs (R1). -/
def Receiver.empty : Receiver := { kept := [], count := 0, framing := false }

/-- An idle transmitter (R6). -/
def Transmitter.idle : Transmitter := { sending := none, waiting := false }

/-- LNK at power-on (R3, R4, R5, R16, R18). -/
def Link.reset : Link :=
  { frx := Receiver.empty, grx := Receiver.empty, lastField := none, driveBytes := Vector.replicate 6 0
    fieldMissing := 250, gwMissing := 250, fieldFresh := false, gwFresh := false, fieldSeen := false, gwSeen := false
    gtx := Transmitter.idle, ftx := Transmitter.idle
    reportFields := Vector.replicate 24 { enabled := false, slot := 0, start := 0, width := 1, source := .chgLo }
    reportConst := Vector.replicate 6 0, driveMask := Vector.replicate 6 0 }

/-- A disabled lane descriptor with all other fields 0, invert off and no mark lane (R8). -/
def LaneDesc.reset : LaneDesc :=
  { enabled := false, slot := 0, start := 0, width := 0, invert := false, kind := .level, w := 0, mark := none
    moisture := false }

/-- A lane's run state after a reset (R9): a marked lane waits for its mark. R9 gives an invalid COUNT reference no value:
it is held as 0 here (DESIGN CHOICE, assumption 52). -/
def LaneRun.reset (d : LaneDesc) : LaneRun :=
  { level := false, reference := 0, refValid := false, assembler := 0, h := 0
    waiting := d.mark.isSome, lastSample := none, misalign := false }

/-- A lane at power-on (R8, R9). -/
def Lane.reset : Lane := { desc := LaneDesc.reset, run := LaneRun.reset LaneDesc.reset }

/-- An unadopted filter state (R24). -/
def Filter.unadopted : Filter := { level := none, count := 0 }

/-- A channel's run state after a reset, in the condition given (R20, R22). -/
def ChannelRun.reset (c : ChanCond) : ChannelRun :=
  { cond := c, fa := Filter.unadopted, fb := Filter.unadopted, g := 0, n := 0, k := 0, acc := 0, e := 0, missing := 0
    timing := false, f := 0, s := 0, last := none, ready := false, overrun := false, timeout := false, glitch := false }

/-- A channel at power-on (R20). -/
def Channel.reset : Channel :=
  { conf := { mode := .off, inA := 0, inB := none, preset := none, x := 1, y := 0 }, run := ChannelRun.reset .off }

/-- A tracker's run state in IDLE (R42, R55). -/
def TrackerRun.idle : TrackerRun :=
  { st := .idle, awaiting := false, est := none, lastIn := none, m := 0, nIn := 0, nOut := 0, nStep := 0, sign := none
    noise := false, step := false, range := false }

/-- A tracker at power-on (R39, R55). -/
def Tracker.reset : Tracker :=
  { conf := { enabled := false, source := 0, offset := 0, gain := 4096, lo := 0, hi := 0, tc := .normal, bw := 0, bn := 0
              mLock := 2, kLose := 2, j := 1, nHi := 1, nLo := 0 }
    run := TrackerRun.idle }

/-- An unadopted recognition filter (R61). -/
def EncFilter.unadopted : EncFilter := { filtered := none, count := 0, raw := none }

/-- An actuator record at power-on (R56). -/
def ActuatorRec.reset : ActuatorRec :=
  { enabled := false, slot := 0, start := 0, width := 2, stopCode := 0, codes := Vector.replicate 6 0, kind := .switches
    switchLanes := Vector.replicate 6 0, encoderLane := 0, encoderValues := Vector.replicate 6 0, preset := none
    stallLane := none, travel := 30, retry := 0, pause := 5 }

/-- An actuator at power-on (R56, R72). -/
def Actuator.reset : Actuator :=
  { conf := ActuatorRec.reset
    run := { st := .unknown, switches := Vector.replicate 6 Filter.unadopted, stall := Filter.unadopted
             enc := EncFilter.unadopted, recognised := none, travel := none, pause := none, displace := none
             lastConfirmed := none, lastFault := none, stallSeen := false, adoptSeen := false } }

/-- DRA at power-on (R78). -/
def Drain.reset : Drain :=
  { holder := none, waitRegen := false, waitBackwash := false, waitTest := false, allowance := 0, kind := none }

/-- The softener settings at power-on (R79). -/
def Softener.reset : Softener :=
  { k := 0, kb := 0, mode := .forced, hf := 0, fe := 0, kFe := 0, reserve := 0, regenHour := none, maxDays := none
    holdLimit := 3600, resin := 1, cNom := 0, inlet := none, brine := none }

/-- The draw accumulator at power-on: not open, every value 0, none or clear (R97). -/
def DrawAcc.reset : DrawAcc := { isOpen := false, saltDg := 0, volume := 0, lastConc := none, measured := false }

/-- ACC at power-on (R97). -/
def Account.reset : Account :=
  { settings := Softener.reset, hardnessCurve := [], brineCurve := [], efficiencyCurve := [], pulseCarry := 0
    allowCarry := 0, brineCarry := 0, held := none, h := 0, hc := 0, totalInlet := 0, totalTreated := 0, slip := 0
    bypassVolume := 0, clamp := false, slipSet := false, phase := .none, draw := DrawAcc.reset }

/-- A tank record at power-on (R98). -/
def Tank.reset : Tank := { nominal := 0, remaining := 0, st := .unconfigured, seconds := max32, lastOutcome := none }

/-- A regeneration step at power-on (R104). -/
def RegenStep.reset : RegenStep :=
  { enabled := false, pos := .backwash, endKind := .duration, duration := 1, volume := 1, timeout := 1, allowance := 0 }

/-- No run. -/
def RegenRun.empty : RegenRun :=
  { tank := none, prior := none, trigger := none, step := none, elapsed := 0, brine := 0
    hold := 0, drawBegun := false, interrupted := none, fromStart := false }

/-- RGS at power-on (R98, R104, R118). The snapshot, which the data book gives no power-on value, holds the power-on
program (assumption 8). -/
def Rgs.reset : Rgs :=
  { tankA := Tank.reset, tankB := Tank.reset, program := Vector.replicate 8 RegenStep.reset
    snapshot := Vector.replicate 8 RegenStep.reset, seq := .idle, run := RegenRun.empty, move := .none, remembered := none
    record := none, calendarDue := false, holdDue := false }

/-- SLT at power-on (R119, R132): SALT_LOW set by the store cause. -/
def Salt.reset : Salt :=
  { settings := { capacity := 0, reminder := 0, bridgeConc := 0, presentHeight := 0, emptyHeight := 0, minRise := 0 }
    store := 0, saltLow := true, storeCause := true, levelCause := false, bridgeCount := 0, bridge := false
    refillShort := false
    refill := { phase := .none, startSample := none, endSample := none, volume := 0, timer := none, result := none }
    lastDraw := none, levelState := .idle, levelEst := none }

/-- A stage record at power-on (R133). -/
def StageRec.reset : StageRec :=
  { enabled := false, kind := .cartridge, up := none, down := none, volumeLimit := none, dayLimit := none, dpLimit := none
    persistence := 1, qRef := 1, qMin := 1, bwVolume := none, bwDays := none }

/-- A stage at power-on (R133, R146). -/
def Stage.reset : Stage :=
  { conf := StageRec.reset, volRep := 0, secRep := 0, volBw := 0, secBw := 0, dpCount := 0, due := false, lastDp := none }

/-- A backwash step at power-on (R139). -/
def BackwashStep.reset : BackwashStep := { enabled := false, pos := .backwash, duration := 1, allowance := 0 }

/-- No backwash run. -/
def BwRun.empty : BwRun :=
  { stage := none, trigger := none, step := none, elapsed := 0, hold := 0
    interrupted := none, decided := false }

/-- FLT at power-on (R146). The snapshot, which the data book gives no power-on value, holds the power-on program
(assumption 8). -/
def Flt.reset : Flt :=
  { stages := Vector.replicate 4 Stage.reset, demand := none, fouled := false, watch := false
    program := Vector.replicate 4 BackwashStep.reset, snapshot := Vector.replicate 4 BackwashStep.reset, st := .idle
    run := BwRun.empty, record := none, queueDue := false, holdDue := false }

/-- A leak rule at power-on (R154). A disabled rule holds no state (R155); the model keeps it ARMED (assumption 8). -/
def Rule.reset : Rule :=
  { conf := { enabled := false, kind := .continuous, rateLo := 0, rateHi := 0, duration := 1, volume := 1, zone := none
              hours := 0xFFFFFF, action := .notify }
    st := .armed, timer := 0, trips := 0, lastTrip := none }

/-- A zone record at power-on (R159). -/
def Zone.reset : Zone :=
  { wet := false, lowBattery := false, tamper := false, lastReport := 0, reported := false, silent := false
    silentDue := false }

/-- The leak configuration at power-on (R160). -/
def LeakConfig.reset : LeakConfig :=
  { gap := 60, staleShut := 0, silence := none, testEnabled := false, testHour := 3, testWindow := 1800, settle := 60
    measure := 300, demand := 20, decay := 10, failToShut := 0 }

/-- LKG at power-on (R147, R151, R153 to R161, R165). -/
def Lkg.reset : Lkg :=
  { main := .unknown, latch := none, config := LeakConfig.reset, rules := Vector.replicate 16 Rule.reset
    windows := Vector.replicate 8 { enabled := false, base := 0, mask := 0, zone := 0 }
    zones := Vector.replicate 8 Zone.reset, unknownSensor := false, lastUnknown := none, event := none, lastEvent := none
    lossTimer := 0, lostDone := false
    test := { st := .idle, timer := none, p0 := none, previous := none, failCount := 0, record := none }
    drawDue := false, lostDue := false, retryDue := false, calendarDue := false }

/-- The first-fault record at power-on: not valid, every field 0 (R173). -/
def FaultRecord.reset : FaultRecord :=
  { valid := false, lost := false, kind := .actNoResponse, source := 0, seconds := 0, detail := Vector.replicate 4 0 }

/-- A receiver in HUNT (R166). -/
def ReqReceiver.hunt : ReqReceiver := { collecting := false, escape := false, bytes := [], count := 0 }

/-- MGU at power-on (R166, R168, R172 to R175). The day and second of day of an invalid calendar are held at 0
(assumption 8). -/
def Mgu.reset : Mgu :=
  { rx := ReqReceiver.hunt, replies := [], sent := none, restartPending := false, changes := 0, fault := FaultRecord.reset
    seconds := 0, timeValid := false, day := 0, secondOfDay := 0 }

/-- The block after a power-on reset, with no command waiting. -/
def State.reset : State :=
  { link := Link.reset, lanes := Vector.replicate 32 Lane.reset, channels := Vector.replicate 8 Channel.reset
    presets := Vector.replicate 4 1, trackers := Vector.replicate 7 Tracker.reset
    main := Actuator.reset, selector := Actuator.reset, regenRotor := Actuator.reset, filterRotor := Actuator.reset
    drain := Drain.reset, acc := Account.reset, rgs := Rgs.reset, slt := Salt.reset, flt := Flt.reset, lkg := Lkg.reset
    mgu := Mgu.reset, choices := 0, pending := [] }

end Sys2Proof.Machine
end

