-- ==== Sys2Proof/Machine/Flags.lean ====
section
/-! DEFINITION. The change summary (R172): its sixteen flags, raising one, and reading and clearing by a mask; and the
offer of a fault to the first-fault record (R173). -/

namespace Sys2Proof.Machine

/-- The change flags, in the order of R172. -/
inductive Flag where
  | leak | main | tank | regen | salt | filter | lock | track | actuator | fault | field | zone | test | lane | channel
  | backlog
deriving DecidableEq, Repr

/-- A flag's number in the change summary (R172). -/
def Flag.number : Flag → Nat
  | .leak => 0 | .main => 1 | .tank => 2 | .regen => 3 | .salt => 4 | .filter => 5 | .lock => 6 | .track => 7
  | .actuator => 8 | .fault => 9 | .field => 10 | .zone => 11 | .test => 12 | .lane => 13 | .channel => 14
  | .backlog => 15

/-- Whether a flag is set. -/
def State.flagSet (s : State) (f : Flag) : Bool := s.mgu.changes.getLsbD f.number

/-- Raises a change flag: sets it if clear, leaves it if set (R172). -/
def raise (f : Flag) (s : State) : State :=
  { s with mgu := { s.mgu with changes := s.mgu.changes ||| (1#16 <<< f.number) } }

/-- Raises a flag when a condition holds. -/
def raiseIf (b : Bool) (f : Flag) (s : State) : State := if b then raise f s else s

/-- CHG_LO and CHG_HI: flags 0 to 7 and 8 to 15 (R17, R172). -/
def State.changesLo (s : State) : Nat := s.mgu.changes.toNat % 256
/-- CHG_HI: flags 8 to 15 (R17, R172). -/
def State.changesHi (s : State) : Nat := s.mgu.changes.toNat / 256

/-- Clears each flag whose mask bit is 1 (R172): `lo` masks flags 0 to 7, `hi` flags 8 to 15. -/
def clearFlags (lo hi : Byte) (s : State) : State :=
  { s with mgu := { s.mgu with changes := s.mgu.changes &&& ~~~(hi ++ lo) } }

/-- Four detail bytes from the first bytes given, the rest 0 (R173). -/
def detailBytes (a b : Byte) : Vector Byte 4 := #v[a, b, 0, 0]

/-- An offer to the first-fault record (R173): it fills a record that is not valid and raises FAULT, and sets LOST in one
that is. -/
def offerFault (kind : FaultKind) (source : Nat) (detail : Vector Byte 4) (s : State) : State :=
  if s.mgu.fault.valid then { s with mgu := { s.mgu with fault := { s.mgu.fault with lost := true } } }
  else raise .fault { s with mgu := { s.mgu with fault :=
    { valid := true, lost := s.mgu.fault.lost, kind := kind, source := source, seconds := s.mgu.seconds, detail := detail } } }

end Sys2Proof.Machine
end

