-- ==== Sys2Proof/Machine/Ops.lean ====
section
/-! DEFINITION. The named operations over the state that every block uses: reading and replacing a table entry, an
actuator, a tank; the names of the trackers and positions. -/

namespace Sys2Proof

/-- The actuators' indices (table of 4.1). -/
def Actr.index : Actr → Nat
  | .main => 0 | .selector => 1 | .regenRotor => 2 | .filterRotor => 3

/-- The actuator of an index. -/
def Actr.ofIndex : Nat → Option Actr
  | 0 => some .main | 1 => some .selector | 2 => some .regenRotor | 3 => some .filterRotor | _ => none

end Sys2Proof

namespace Sys2Proof.Machine

/-! ### Numbers of things -/

/-- The four actuators, in order. -/
def allActrs : List Actr := [.main, .selector, .regenRotor, .filterRotor]

/-- The positions of each actuator, in the order of the table of 4.1. -/
def positions : Actr → List Pos
  | .main => [.mainOpen, .mainClosed]
  | .selector => [.tankA, .tankB, .bypass]
  | .regenRotor => [.service, .backwash, .brineDraw, .slowRinse, .fastRinse, .refill]
  | .filterRotor => [.service, .backwash, .rinse]

/-- A position's number among its actuator's positions. -/
def posIndex (a : Actr) (p : Pos) : Nat := (positions a).idxOf p

/-- An entry of a per-position field. -/
def perPos {α : Type} [Inhabited α] (v : Vector α 6) (i : Nat) : α := if h : i < 6 then v[i] else default

/-- The trackers (table of 3.1). -/
abbrev flow : Fin 7 := 0
/-- P_SUPPLY. -/
abbrev pSupply : Fin 7 := 1
/-- P_MID. -/
abbrev pMid : Fin 7 := 2
/-- P_HOUSE. -/
abbrev pHouse : Fin 7 := 3
/-- COND_SUPPLY. -/
abbrev condSupply : Fin 7 := 4
/-- COND_BRINE. -/
abbrev condBrine : Fin 7 := 5
/-- BRINE_LEVEL. -/
abbrev brineLevel : Fin 7 := 6

/-- The tracker a stage's pressure name stands for (R133). -/
def pressureTracker : PressureId → Fin 7
  | .supply => pSupply | .mid => pMid | .house => pHouse

/-- The REGEN_ROTOR position a program step names (R104). -/
def regenPos : RegenPos → Pos
  | .backwash => .backwash | .brineDraw => .brineDraw | .slowRinse => .slowRinse | .fastRinse => .fastRinse
  | .refill => .refill

/-- The FILTER_ROTOR position a backwash step names (R139). -/
def backwashPos : BackwashPos → Pos
  | .backwash => .backwash | .rinse => .rinse

/-- The other tank. -/
def TankId.other : TankId → TankId
  | .a => .b | .b => .a

/-- A tank's index (6.1). -/
def TankId.index : TankId → Nat
  | .a => 0 | .b => 1

/-- The tank of an index. -/
def TankId.ofIndex : Nat → Option TankId
  | 0 => some .a | 1 => some .b | _ => none

/-- The SELECTOR position of a tank. -/
def TankId.pos : TankId → Pos
  | .a => .tankA | .b => .tankB

/-- The tank a SELECTOR position names, if any. -/
def tankOfPos : Pos → Option TankId
  | .tankA => some .a | .tankB => some .b | _ => none

/-! ### Reading and replacing parts of the state -/

/-- The lane of a number; a number above 31 names none, and reads as a disabled lane. -/
def State.lane (s : State) (i : Nat) : Lane := if h : i < 32 then s.lanes[i] else Lane.reset

/-- The channel of a number; a number above 7 names none, and reads as one in mode OFF. -/
def State.channel (s : State) (i : Nat) : Channel := if h : i < 8 then s.channels[i] else Channel.reset

/-- The filter run length of a preset, 1 for preset none (R23, R24). -/
def runLength (presets : Vector Nat 4) : Option Nat → Nat
  | none => 1
  | some p => if h : p < 4 then presets[p] else 1

/-- One tracker. -/
def State.tracker (s : State) (i : Fin 7) : Tracker := s.trackers[i]

/-- A tracker is LOCKED. -/
def State.locked (s : State) (i : Fin 7) : Bool := decide (s.trackers[i].run.st = .locked)

/-- A tracker's estimate, 0 while it is none. -/
def State.estimate (s : State) (i : Fin 7) : Nat := s.trackers[i].run.est.getD 0

/-- Replaces one tracker. -/
def setTracker (i : Fin 7) (t : Tracker) (s : State) : State := { s with trackers := s.trackers.set i t }

/-- Replaces one channel. -/
def setChannel (i : Fin 8) (c : Channel) (s : State) : State := { s with channels := s.channels.set i c }

/-- One actuator. -/
def State.act (s : State) : Actr → Actuator
  | .main => s.main | .selector => s.selector | .regenRotor => s.regenRotor | .filterRotor => s.filterRotor

/-- Replaces one actuator. -/
def setAct (a : Actr) (x : Actuator) (s : State) : State :=
  match a with
  | .main => { s with main := x }
  | .selector => { s with selector := x }
  | .regenRotor => { s with regenRotor := x }
  | .filterRotor => { s with filterRotor := x }

/-- One tank record. -/
def State.tank (s : State) : TankId → Tank
  | .a => s.rgs.tankA | .b => s.rgs.tankB

/-- Replaces one tank record; a change of its state raises TANK (R98). -/
def setTank (t : TankId) (x : Tank) (s : State) : State :=
  raiseIf (decide (x.st ≠ (s.tank t).st)) .tank
    (match t with
     | .a => { s with rgs := { s.rgs with tankA := x } }
     | .b => { s with rgs := { s.rgs with tankB := x } })

/-- The service tank position: the SELECTOR's last confirmed position (R59). -/
def State.confirmed (s : State) : Option Pos := s.selector.run.lastConfirmed

/-- Adds one to the internal seconds, wrapping past 2^32 − 1 (R174). -/
def nextSecond (s : State) : State :=
  { s with mgu := { s.mgu with seconds := wrapAdd (max32 + 1) s.mgu.seconds 1 } }

/-- The main valve state is OPEN. -/
def State.mainOpen (s : State) : Bool := decide (s.lkg.main = .opened)

/-- The hour of the day, or none while the time is invalid (R155). -/
def State.hour (s : State) : Option Nat := if s.mgu.timeValid then some (s.mgu.secondOfDay / 3600) else none

/-- The seconds passed since an earlier reading of the internal seconds, which wrap (R174). -/
def secondsSince (now earlier : Nat) : Nat := (now + (max32 + 1) - earlier) % (max32 + 1)

/-- One second off a running timer, which stays at 0 once expired. -/
def tick : Option Nat → Option Nat
  | none => none
  | some n => some (n - 1)

end Sys2Proof.Machine
end

