-- ==== Sys2Proof/Machine/Lanes.lean ====
section
/-! DEFINITION. LX: what each lane makes of a good frame, of a missing frame, of entry to FIELD_STALE and of a reset
(R9 to R13). -/

namespace Sys2Proof

/-- An enabled lane of kind LEVEL or MARK, which reads as a level (R10, R21). -/
def LaneDesc.levelLike (d : LaneDesc) : Bool := d.enabled && (d.kind == .level || d.kind == .mark)

/-- An enabled lane of a kind. -/
def LaneDesc.is (d : LaneDesc) (k : LaneKind) : Bool := d.enabled && d.kind == k

end Sys2Proof

namespace Sys2Proof.Machine

/-- The byte of a field slot; a number above 19 names no slot. -/
def slotByte (slots : Vector Byte 20) (i : Nat) : Nat := if h : i < 20 then (slots[i]).toNat else 0

/-- The field a lane reads from a frame, after inversion (1.2.2). -/
def laneField (d : LaneDesc) (slots : Vector Byte 20) : Nat :=
  let raw := bitField (slotByte slots d.slot) d.start d.width
  if d.invert then 2 ^ d.width - 1 - raw else raw

/-- What a lane offers its consumers in one good frame: its level, the delta of a COUNT lane, the sample a VALUE lane
publishes (R10 to R12). -/
structure LaneOut where
  level : Bool
  delta : Option Nat
  sample : Option Nat
deriving DecidableEq, Repr

/-- What a disabled lane offers. -/
def LaneOut.silent : LaneOut := { level := false, delta := none, sample := none }

/-- One VALUE lane's result in a frame: its run state, the sample published, and whether MISALIGN was set. -/
structure ValueStep where
  run : LaneRun
  sample : Option Nat
  misaligned : Bool
deriving DecidableEq, Repr

/-- Appending a field to the assembler (R12): when h reaches W the value is published, the assembler emptied and a
marked lane waits for its mark again. -/
def appendField (d : LaneDesc) (field : Nat) (r : LaneRun) : LaneRun × Option Nat :=
  let value := r.assembler + field * 2 ^ r.h
  let h := r.h + d.width
  if d.w ≤ h then
    ({ r with assembler := 0, h := 0, waiting := d.mark.isSome, lastSample := some value }, some value)
  else ({ r with assembler := value, h := h, waiting := false }, none)

/-- A VALUE lane's act on a good frame (R12); `mark` is the level of its mark lane in this frame. -/
def valueFrame (d : LaneDesc) (mark : Bool) (field : Nat) (r : LaneRun) : ValueStep :=
  match d.mark with
  | none => let (r', out) := appendField d field r; { run := r', sample := out, misaligned := false }
  | some _ =>
    if r.waiting then
      if mark then
        let (r', out) := appendField d field { r with assembler := 0, h := 0 }
        { run := r', sample := out, misaligned := false }
      else { run := r, sample := none, misaligned := false }
    else if mark && decide (0 < r.h) then
      let (r', out) := appendField d field { r with assembler := 0, h := 0, misalign := true }
      { run := r', sample := out, misaligned := true }
    else
      let (r', out) := appendField d field r
      { run := r', sample := out, misaligned := false }

/-- A COUNT lane's act on a good frame (R11): its new run state and the frame's delta. -/
def countFrame (d : LaneDesc) (field : Nat) (r : LaneRun) : LaneRun × Nat :=
  ({ r with reference := field, refValid := true },
   if r.refValid then (field + 2 ^ d.width - r.reference) % 2 ^ d.width else 0)

/-- The level of the lane a VALUE lane names as its mark lane, as set by this frame (1.2.2). -/
def markLevel (lanes : Vector Lane 32) (slots : Vector Byte 20) : Option Nat → Bool
  | none => false
  | some m => if h : m < 32 then lanes[m].desc.is .mark && laneField lanes[m].desc slots == 1 else false

/-- One lane's act on a good frame (R10 to R12): its new run state, what it offers, and whether MISALIGN was set. -/
def laneFrame (lanes : Vector Lane 32) (slots : Vector Byte 20) (l : Lane) : Lane × LaneOut × Bool :=
  if l.desc.enabled then
    let field := laneField l.desc slots
    match l.desc.kind with
    | .level => ({ l with run := { l.run with level := field == 1 } }, { LaneOut.silent with level := field == 1 }, false)
    | .mark => ({ l with run := { l.run with level := field == 1 } }, { LaneOut.silent with level := field == 1 }, false)
    | .count =>
      let (r, delta) := countFrame l.desc field l.run
      ({ l with run := r }, { LaneOut.silent with delta := some delta }, false)
    | .value =>
      let v := valueFrame l.desc (markLevel lanes slots l.desc.mark) field l.run
      ({ l with run := v.run }, { LaneOut.silent with sample := v.sample }, v.misaligned)
  else (l, LaneOut.silent, false)

/-- A lane's act on a missing-frame notice (R10, R11, R13), and whether MISALIGN was set. -/
def laneMissing (l : Lane) : Lane × Bool :=
  if l.desc.is .value && decide (l.desc.width < l.desc.w) && !l.run.waiting then
    ({ l with run := { l.run with assembler := 0, h := 0, waiting := l.desc.mark.isSome, misalign := true } }, true)
  else (l, false)

/-- A lane's act on entry to FIELD_STALE (R9). A COUNT reference that becomes invalid keeps its last value (DESIGN CHOICE,
assumption 52). -/
def laneStale (l : Lane) : Lane :=
  match l.desc.kind with
  | .count => { l with run := { l.run with refValid := false } }
  | .value => { l with run := { l.run with assembler := 0, h := 0, waiting := l.desc.mark.isSome } }
  | _ => l

/-- A lane's run state set back (R9). -/
def laneReset (l : Lane) : Lane := { l with run := LaneRun.reset l.desc }

/-- What the lane of a number offers; a number above 31 names none. -/
def outOf (outs : Vector LaneOut 32) (i : Nat) : LaneOut := if h : i < 32 then outs[i] else LaneOut.silent

/-- The lanes after a good frame. -/
def lanesAfter (lanes : Vector Lane 32) (slots : Vector Byte 20) : Vector Lane 32 :=
  Vector.ofFn fun i => (laneFrame lanes slots lanes[i]).1

/-- What the lanes offer in a good frame. -/
def laneOuts (lanes : Vector Lane 32) (slots : Vector Byte 20) : Vector LaneOut 32 :=
  Vector.ofFn fun i => (laneFrame lanes slots lanes[i]).2.1

/-- Whether any lane sets MISALIGN in a good frame. -/
def anyMisaligned (lanes : Vector Lane 32) (slots : Vector Byte 20) : Bool :=
  (List.finRange 32).any fun i => (laneFrame lanes slots lanes[i]).2.2

/-- LX on a good frame: every lane acts, and a MISALIGN set raises LANE (R12, R14). -/
def lxFrame (slots : Vector Byte 20) (s : State) : State :=
  raiseIf (anyMisaligned s.lanes slots) .lane { s with lanes := lanesAfter s.lanes slots }

/-- LX on a missing-frame notice (R13, R14). -/
def lxMissing (s : State) : State :=
  raiseIf ((List.finRange 32).any fun i => (laneMissing s.lanes[i]).2) .lane
    { s with lanes := Vector.ofFn fun i => (laneMissing s.lanes[i]).1 }

/-- LX on entry to FIELD_STALE (R9). -/
def lxStale (s : State) : State := { s with lanes := Vector.ofFn fun i => laneStale s.lanes[i] }

/-- LX at a warm restart: all 32 lanes are reset (R9). -/
def lxRestart (s : State) : State := { s with lanes := Vector.ofFn fun i => laneReset s.lanes[i] }

end Sys2Proof.Machine
end

