-- ==== Sys2Proof/Machine/Channels.lean ====
section
/-! DEFINITION. MCH: filter presets, windows, modes and the run state of the channels (R20 to R37). What a published
result does to its consumers stands in Results.lean. -/

namespace Sys2Proof.Machine

/-- A filter state after a raw level (R24, R60), with run length `r`. -/
def filterStep (r : Nat) (raw : Bool) (f : Filter) : Filter :=
  match f.level with
  | none => { level := some raw, count := 0 }
  | some l =>
    if raw = l then { f with count := 0 }
    else if r ≤ f.count + 1 then { level := some raw, count := 0 }
    else { f with count := f.count + 1 }

/-- A rising edge: an update that changes the filtered level from 0 to 1 (R24). -/
def rising (before after : Filter) : Bool := before.level == some false && after.level == some true

/-- The inputs suit the mode (table of R21). -/
def suits (s : State) (c : ChannelRec) : Bool :=
  let a := (s.lane c.inA).desc
  match c.mode with
  | .off => true
  | .edgeCount | .period | .highTime => a.levelLike && c.inB.isNone
  | .countDelta => a.is .count && c.inB.isNone
  | .gatedCount =>
    (a.levelLike || a.is .count) && (match c.inB with | none => false | some b => (s.lane b).desc.levelLike)
  | .valueMean => a.is .value && c.inB.isNone

/-- The window's progress, accumulator and E at 0: a window that holds no frame yet (R25). -/
def ChannelRun.newWindow (r : ChannelRun) : ChannelRun := { r with g := 0, n := 0, k := 0, acc := 0, e := 0 }

/-- Adds to an accumulator, which saturates (R35). -/
def ChannelRun.add (r : ChannelRun) (d : Nat) : ChannelRun := { r with acc := satAdd max32 r.acc d }

/-- A COUNT delta judged against the glitch limit Y (R29). -/
def ChannelRun.addDelta (r : ChannelRun) (y d : Nat) : ChannelRun :=
  if 0 < y ∧ y < d then { r with glitch := true } else r.add d

/-- The mode's act on a good frame, the filters being updated already (R28 to R34); `edge` is a rising edge of A. -/
def measure (c : ChannelRec) (a : LaneOut) (edge : Bool) (r : ChannelRun) : ChannelRun :=
  match c.mode with
  | .off => r
  | .edgeCount => { r.add (if edge then 1 else 0) with g := r.g + 1 }
  | .countDelta => { r.addDelta c.y (a.delta.getD 0) with g := r.g + 1 }
  | .gatedCount =>
    let counted :=
      if r.fb.level = some true then
        match a.delta with
        | some d => r.addDelta c.y d
        | none => r.add (if edge then 1 else 0)
      else r
    { counted with g := r.g + 1 }
  | .highTime => { r.add (if r.fa.level = some true then 1 else 0) with g := r.g + 1 }
  | .period =>
    if edge then
      if r.timing then { r with f := satAdd max32 r.f 1, n := r.n + 1, s := 0 }
      else { r with timing := true, f := 0, n := 0, s := 0 }
    else if r.timing then { r with f := satAdd max32 r.f 1, s := r.s + 1 }
    else { r with s := r.s + 1 }
  | .valueMean =>
    match a.sample with
    | some v => { r.add v with k := r.k + 1 }
    | none => r

/-- A channel's act on a good frame (R25): opening, counting, filtering and measuring. The close that may follow is the
command CHANNEL_RESULT or PERIOD_TIMEOUT (assumption 1). -/
def channelFrame (presets : Vector Nat 4) (a b : LaneOut) (c : Channel) : Channel :=
  if c.run.cond = .unstarted ∨ c.run.cond = .opened then
    let r0 := if c.run.cond = .unstarted then
        { c.run.newWindow with cond := .opened, timing := false, f := 0, s := 0 } else c.run
    let r1 := { r0 with e := satAdd max32 r0.e 1, missing := 0 }
    let len := runLength presets c.conf.preset
    let levelA := a.delta.isNone && c.conf.mode != .valueMean
    let fa := if levelA then filterStep len a.level r1.fa else r1.fa
    let fb := if c.conf.inB.isSome then filterStep len b.level r1.fb else r1.fb
    { c with run := measure c.conf a (rising r1.fa fa) { r1 with fa := fa, fb := fb } }
  else c

/-- A channel's act on a missing-frame notice (R26, R32). -/
def channelMissing (c : Channel) : Channel :=
  if c.run.cond = .opened then
    let r := { c.run with e := satAdd max32 c.run.e 1, missing := c.run.missing + 1 }
    { c with run :=
      if c.conf.mode = .period then
        { r with f := if r.timing then satAdd max32 r.f 1 else r.f, s := r.s + 1 }
      else r }
  else c

/-- The window has reached its length X (R28 to R34). -/
def windowFull (c : Channel) : Bool :=
  c.run.cond == .opened &&
  (match c.conf.mode with
   | .off => false
   | .period => decide (c.conf.x ≤ c.run.n) && c.run.timing
   | .valueMean => decide (c.conf.x ≤ c.run.k)
   | _ => decide (c.conf.x ≤ c.run.g))

/-- The PERIOD timeout is made: Y is greater than 0 and s has reached it (R33). -/
def timedOut (c : Channel) : Bool :=
  c.run.cond == .opened && c.conf.mode == .period && decide (0 < c.conf.y) && decide (c.conf.y ≤ c.run.s)

/-- The window is to be abandoned (R26): 250 consecutive missing frames, any timeout published first. -/
def toAbandon (c : Channel) : Bool := c.run.cond == .opened && decide (250 ≤ c.run.missing) && !timedOut c

/-- The result Z of a full window (R28 to R34). -/
def windowZ (c : Channel) : Nat :=
  match c.conf.mode with
  | .period => c.run.f
  | .valueMean => c.run.acc / c.conf.x
  | _ => c.run.acc

/-- Publication: the result replaces the last one, READY is set, OVERRUN if READY was set already, and a new window
opens at once (R25, R35, R36). -/
def ChannelRun.publish (r : ChannelRun) (x : ChanResult) : ChannelRun :=
  { r.newWindow with last := some x, ready := true, overrun := r.overrun || r.ready }

/-- The run state after the close of a full window; in PERIOD the closing edge is the next first edge (R32). -/
def closeFull (c : Channel) : Channel :=
  let r := c.run.publish { z := windowZ c, e := c.run.e, timeout := false }
  { c with run := if c.conf.mode = .period then { r with f := 0 } else r }

/-- The run state after a PERIOD timeout (R33, R37). -/
def closeTimeout (c : Channel) : Channel :=
  let r := c.run.publish { z := 0, e := c.run.e, timeout := true }
  { c with run := { r with timeout := true, timing := false, f := 0, s := 0 } }

/-- The run state after a window is abandoned (R26): the last result, the flags and the filters are kept, and the
consecutive-missing count goes back to 0 (assumption 46). -/
def abandonWindow (c : Channel) : Channel :=
  { c with run := { c.run.newWindow with cond := .unstarted, timing := false, f := 0, s := 0, missing := 0 } }

/-- A channel's act on a lane reset notice (R27), `suit` saying whether its inputs suit the mode. -/
def channelLaneReset (suit : Bool) (c : Channel) : Channel :=
  if c.run.cond = .off then c
  else { c with run := { c.run.newWindow with
    cond := if suit then .unstarted else .suspended, fa := Filter.unadopted, fb := Filter.unadopted, timing := false
    f := 0, s := 0, missing := 0 } }

/-- A channel's run state cleared as a rewrite does (R20, R22). -/
def channelReset (c : Channel) : Channel :=
  { c with run := ChannelRun.reset (if c.conf.mode = .off then .off else .unstarted) }

/-- What input B offers in a good frame. -/
def outOfB (outs : Vector LaneOut 32) : Option Nat → LaneOut
  | some b => outOf outs b
  | none => LaneOut.silent

/-- One channel's act on a good frame, its inputs read from what the lanes offer. -/
def channelOnFrame (presets : Vector Nat 4) (outs : Vector LaneOut 32) (c : Channel) : Channel :=
  channelFrame presets (outOf outs c.conf.inA) (outOfB outs c.conf.inB) c

/-- MCH on a good frame, the lanes having acted. -/
def mchFrame (outs : Vector LaneOut 32) (s : State) : State :=
  { s with channels := Vector.ofFn fun i => channelOnFrame s.presets outs s.channels[i] }

/-- MCH on a missing-frame notice. -/
def mchMissing (s : State) : State := { s with channels := Vector.ofFn fun i => channelMissing s.channels[i] }

/-- A condition on lane numbers holds of an optional lane. -/
def hits (hit : Nat → Bool) : Option Nat → Bool
  | some i => hit i
  | none => false

/-- The reset notices of the lanes for which `hit` holds, to the channels that name them as an input (R27). -/
def mchLaneReset (hit : Nat → Bool) (s : State) : State :=
  { s with channels := Vector.ofFn fun i =>
      if hit s.channels[i].conf.inA || hits hit s.channels[i].conf.inB
      then channelLaneReset (suits s s.channels[i].conf) s.channels[i] else s.channels[i] }

/-- MCH at a warm restart (R20): a channel whose mode is not OFF becomes UNSTARTED, whether or not its inputs suit the mode
(assumption 35). -/
def mchRestart (s : State) : State := { s with channels := Vector.ofFn fun i => channelReset s.channels[i] }

end Sys2Proof.Machine
end

