-- ==== Sys2Proof/Machine/Salt.lean ====
section
/-! DEFINITION. SLT: the store estimate, SALT_LOW, the bridge check and the refill check (R119 to R132). -/

namespace Sys2Proof.Machine

/-- Replaces SLT's state; each change of the store, SALT_LOW, BRIDGE or REFILL_SHORT raises SALT (R130). -/
def setSalt (x : Salt) (s : State) : State :=
  raiseIf (decide (x.store ≠ s.slt.store ∨ x.saltLow ≠ s.slt.saltLow ∨ x.bridge ≠ s.slt.bridge
      ∨ x.refillShort ≠ s.slt.refillShort)) .salt { s with slt := x }

/-- The store cause of SALT_LOW (R123). -/
def storeCause (x : Salt) : Bool := decide (x.store ≤ x.settings.reminder)

/-- The level cause of SALT_LOW (R123), of the tracker BRINE_LEVEL. -/
def levelCause (x : Salt) (t : Tracker) : Bool :=
  t.run.st == .locked && (match t.run.est with | some e => decide (e ≤ x.settings.emptyHeight) | none => false)

/-- SALT_LOW judged afresh (R123). -/
def judgeSalt (s : State) : State :=
  let t := s.trackers[brineLevel]
  setSalt { s.slt with
    storeCause := storeCause s.slt, levelCause := levelCause s.slt t
    saltLow := storeCause s.slt || levelCause s.slt t, levelState := t.run.st, levelEst := t.run.est } s

/-- The estimate of a tracker that is LOCKED, none otherwise: a sample of R126 and R128. -/
def levelSample (s : State) : Option Nat :=
  if s.trackers[brineLevel].run.st = .locked then s.trackers[brineLevel].run.est else none

/-- Moves the bridge count; BRIDGE is set while it is 2 or more (R125). -/
def setBridgeCount (n : Nat) (s : State) : State :=
  setSalt { s.slt with bridgeCount := n, bridge := decide (2 ≤ n) } s

/-- A measured draw is weak (R124). -/
def drawWeak (v : DrawValues) (s : State) : Bool :=
  (match v.mean with | some m => decide (m < s.slt.settings.bridgeConc) | none => false)
    && (match levelSample s with | some e => decide (s.slt.settings.presentHeight ≤ e) | none => false)

/-- The bridge check's result at a close (R124); `warm` marks a close that is part of a warm restart (R122). -/
def bridgeResult (v : DrawValues) (warm : Bool) (s : State) : BridgeResult :=
  if warm ∨ v.measured = false ∨ v.volume = 0 then .notChecked
  else if drawWeak v s then .weak else .normal

/-- The bridge check (R124, R125). -/
def bridgeCheck (b : BridgeResult) (s : State) : State :=
  match b with
  | .weak => setBridgeCount (satAdd 255 s.slt.bridgeCount 1) s
  | .normal => setBridgeCount 0 s
  | .notChecked => s

/-- A refill check ended UNCHECKED (R129). -/
def endRefillUnchecked (s : State) : State :=
  { s with slt := { s.slt with refill :=
    { s.slt.refill with phase := .none, timer := none, result := some .unchecked } } }

/-- SLT at a closing of the draw accumulator (R122). -/
def sltClose (v : DrawValues) (warm : Bool) (s : State) : State :=
  let s1 := if 0 < v.volume then setSalt { s.slt with store := s.slt.store - v.saltG } s else s
  let s2 := judgeSalt s1
  let b := bridgeResult v warm s2
  let s3 := bridgeCheck b s2
  let s4 := if s3.slt.refill.phase = .inRefill then endRefillUnchecked s3 else s3
  { s4 with slt := { s4.slt with lastDraw := some { values := v, bridge := b } } }

/-- SLT at a refill-start notice (R126, R129). -/
def refillStart (s : State) : State :=
  { s with slt := { s.slt with refill :=
    { phase := .inRefill, startSample := levelSample s, endSample := none, volume := 0, timer := none
      result := if s.slt.refill.phase = .none then s.slt.refill.result else some .unchecked } } }

/-- SLT at a brine increment in phase REFILL (R126). -/
def refillIncrement (dv : Nat) (s : State) : State :=
  if s.slt.refill.phase = .inRefill then
    { s with slt := { s.slt with refill := { s.slt.refill with volume := satAdd 65535 s.slt.refill.volume dv } } }
  else s

/-- SLT at a refill-end notice (R127). -/
def refillEnd (short : Bool) (s : State) : State :=
  if s.slt.refill.phase = .inRefill then
    if short then
      setSalt { s.slt with
        refillShort := true, refill := { s.slt.refill with phase := .none, result := some .short } } s
    else { s with slt := { s.slt with refill := { s.slt.refill with phase := .settling, timer := some 600 } } }
  else s

/-- The settling timer has expired (R128). -/
def settlingDue (s : State) : Bool := s.slt.refill.phase == .settling && s.slt.refill.timer == some 0

/-- The judgement of a settled refill from its two samples (R128). -/
def refillVerdict (minRise : Nat) : Option Nat → Option Nat → RefillResult
  | some a, some b => if (minRise : Int) ≤ (b : Int) - (a : Int) then .pass else .lowRise
  | _, _ => .unchecked

/-- REFILL_SHORT after a verdict (R128). -/
def refillShortAfter : RefillResult → Bool → Bool
  | .pass, _ => false
  | .lowRise, _ => true
  | .short, _ => true
  | .unchecked, old => old

/-- SLT at the settling timer's expiry (R128). -/
def settle600 (s : State) : State :=
  let sample := levelSample s
  let v := refillVerdict s.slt.settings.minRise s.slt.refill.startSample sample
  setSalt { s.slt with
    refillShort := refillShortAfter v s.slt.refillShort
    refill := { s.slt.refill with phase := .none, endSample := sample, timer := none, result := some v } } s

/-- SALT_REFILLED (R121): the store, then the bridge count, then SALT_LOW. -/
def saltRefilled (mass : Nat) (s : State) : State :=
  judgeSalt (setBridgeCount 0
    (setSalt { s.slt with store := min s.slt.settings.capacity (s.slt.store + mass) } s))

/-- The salt settings are within the ranges of R119. -/
def SaltRanges (c : SaltSettings) : Bool :=
  decide (c.capacity ≤ 500000 ∧ c.reminder ≤ 500000 ∧ c.bridgeConc ≤ 400 ∧ c.presentHeight ≤ 2000
    ∧ c.emptyHeight ≤ 2000 ∧ c.minRise ≤ 2000)

/-- An accepted write of the salt settings (R120): the store is clamped, then SALT_LOW judged afresh. -/
def writeSalt (c : SaltSettings) (s : State) : State :=
  judgeSalt (setSalt { s.slt with settings := c, store := min c.capacity s.slt.store } s)

/-- SLT at a warm restart (R129, R132): of the refill check the samples and the refill volume are kept with the result
(assumption 48). -/
def sltRestart (s : State) : State :=
  judgeSalt (if s.slt.refill.phase = .none then s else endRefillUnchecked s)

end Sys2Proof.Machine
end

