-- ==== Sys2Proof/Machine/Trackers.lean ====
section
/-! DEFINITION. TRK: binding, conversion of a result into an input, SEARCH, LOCKED and HOLD (R39 to R55). A change of
BRINE_LEVEL is handed to SLT here (R123); an update of FLOW is handed to FLT in Results.lean. -/

namespace Sys2Proof.Machine

/-- The top of each tracker's estimate range (table of 3.1). -/
def roleMax (i : Fin 7) : Nat :=
  match i with
  | 0 => 6000 | 1 => 2000 | 2 => 2000 | 3 => 2000 | 4 => 4000 | 5 => 4000 | 6 => 2000

/-- A counting mode: the modes whose results count pulses (R42, R82). -/
def countingMode : ChannelMode → Bool
  | .edgeCount | .countDelta | .gatedCount => true
  | _ => false

/-- The mode suits the tracker's role (R42). -/
def modeSuits (i : Fin 7) (m : ChannelMode) : Bool :=
  if i = flow then countingMode m || m == .period else m != .off

/-- The tracker is bound (R42): enabled, its source channel's mode suits and, for FLOW, K is between 1 and 60 000. -/
def bound (s : State) (i : Fin 7) : Bool :=
  s.trackers[i].conf.enabled && modeSuits i (s.channel s.trackers[i].conf.source).conf.mode
    && (i != flow || decide (1 ≤ s.acc.settings.k ∧ s.acc.settings.k ≤ 60000))

/-- SEARCH awaiting its first input with no estimate (R41, R42). -/
def TrackerRun.search : TrackerRun := { TrackerRun.idle with st := .search, awaiting := true }

/-- Replaces a tracker's run state. A change between LOCKED and another state raises LOCK (R52), and any event of
BRINE_LEVEL has SLT judge SALT_LOW (R123). -/
def moveTracker (i : Fin 7) (r : TrackerRun) (s : State) : State :=
  let crossed := (s.trackers[i].run.st == .locked) != (r.st == .locked)
  let s1 := raiseIf crossed .lock (setTracker i { s.trackers[i] with run := r } s)
  if i = brineLevel then judgeSalt s1 else s1

/-- A tracker's run state as a write of its record sets it (R41, R55). -/
def freshRun (s : State) (i : Fin 7) : TrackerRun := if bound s i then TrackerRun.search else TrackerRun.idle

/-- Binding judged after a write of the source channel (R42). -/
def rebindAfterChannel (i : Fin 7) (s : State) : State :=
  if bound s i then
    if s.trackers[i].run.st = .idle then moveTracker i TrackerRun.search s else s
  else if s.trackers[i].run.st = .idle then s else moveTracker i TrackerRun.idle s

/-- SEARCH entered afresh with the estimate discarded, as FLOW does after a change of K (R42). STEP and RANGE are kept:
neither is cleared by this event (R45, R48), and the noise measure m, of which R42 says nothing, is kept too
(assumption 25). -/
def restartSearch (r : TrackerRun) : TrackerRun :=
  { r with st := .search, awaiting := true, est := none, nIn := 0, nOut := 0, nStep := 0, sign := none, noise := false }

/-- Binding of FLOW judged after a change of K (R42). -/
def rebindAfterK (s : State) : State :=
  if s.trackers[flow].conf.enabled then
    moveTracker flow (if bound s flow then restartSearch s.trackers[flow].run else TrackerRun.idle) s
  else s

/-- Binding of every tracker fed by a channel, judged after a write of that channel (R42). -/
def rebindChannel (ch : Nat) (s : State) : State :=
  (List.finRange 7).foldl (fun s i => if s.trackers[i].conf.source = ch then rebindAfterChannel i s else s) s

/-- An input, and whether it was clamped (R44, R45). -/
structure Input where
  x : Nat
  clamped : Bool
deriving DecidableEq, Repr

/-- FLOW's input from a result (R44). -/
def flowInput (k : Nat) (c : ChannelRec) (r : ChanResult) : Input :=
  let q := match c.mode with
    | .period => if r.timeout ∨ r.z = 0 then 0 else 3000000 * c.x / (k * r.z)
    | _ => 3000000 * r.z / (k * r.e)
  { x := min 6000 q, clamped := decide (6000 < q) }

/-- Another tracker's input from a result (R45). -/
def scaledInput (t : TrackerRec) (r : ChanResult) : Input :=
  let v : Int := (((r.z : Int) - t.offset) * t.gain) / 4096
  if v < (t.lo : Int) then { x := t.lo, clamped := true }
  else if (t.hi : Int) < v then { x := t.hi, clamped := true }
  else { x := v.toNat, clamped := false }

/-- An update's effect on a tracker: its run state, and whether TRACK is raised. -/
structure Update where
  run : TrackerRun
  track : Bool
deriving DecidableEq, Repr

/-- |x − e| -/
def distance (x e : Nat) : Nat := ((x : Int) - (e : Int)).natAbs

/-- An input applied in SEARCH (R46). -/
def searchUpdate (t : TrackerRec) (x : Nat) (r : TrackerRun) : TrackerRun :=
  if r.awaiting then { r with awaiting := false, est := some x, nIn := 0 }
  else
    let nIn := if distance x (r.est.getD 0) ≤ t.bw then r.nIn + 1 else 0
    if t.mLock ≤ nIn then
      { r with st := .locked, est := some x, nIn := nIn, nOut := 0, nStep := 0, m := 0, sign := none, noise := false }
    else { r with est := some x, nIn := nIn }

/-- The shift of a LOCKED update (R49). -/
def shiftOf (t : TrackerRec) (nStep : Nat) (noise : Bool) : Nat :=
  match t.tc with
  | .slow => 4
  | .normal => 2
  | .fast => 0
  | .auto => if t.j ≤ nStep then 0 else if noise then 4 else 2

/-- The noise measure after a LOCKED update (R47). -/
def noiseMeasure (m dist : Nat) : Nat := ((m : Int) + truncDiv ((dist : Int) - (m : Int)) 8).toNat

/-- The NOISE flag after a LOCKED update (R47). -/
def noiseFlag (t : TrackerRec) (m : Nat) (old : Bool) : Bool :=
  if t.nHi < m then true else if m < t.nLo then false else old

/-- The counts and sign after the band judgement (R48). -/
def bandJudgement (t : TrackerRec) (d : Int) (r : TrackerRun) : TrackerRun :=
  if d.natAbs ≤ t.bn then { r with nOut := 0, nStep := 0, sign := none }
  else
    let negative := decide (d < 0)
    { r with nOut := r.nOut + 1, nStep := if r.sign = some negative then r.nStep + 1 else 1, sign := some negative }

/-- An input applied in LOCKED: noise measure, band judgement, estimate, loss of lock, in this order (R47 to R50). STEP is
set by the input that completes J same-signed out-of-band differences in a row (R48, assumption 12). -/
def lockedUpdate (t : TrackerRec) (x : Nat) (r : TrackerRun) : Update :=
  let e := r.est.getD 0
  let d : Int := (x : Int) - (e : Int)
  let m := noiseMeasure r.m d.natAbs
  let noise := noiseFlag t m r.noise
  let r1 := bandJudgement t d { r with m := m, noise := noise }
  let stepped := decide (t.bn < d.natAbs ∧ r1.nStep = t.j)
  let e' := ((e : Int) + truncDiv d (2 ^ shiftOf t r1.nStep noise)).toNat
  let r2 := { r1 with est := some e', step := r1.step || stepped }
  { run := if t.kLose ≤ r2.nOut then
      { r2 with st := .search, awaiting := true, nIn := 0, nOut := 0, nStep := 0, sign := none, noise := false }
      else r2
    track := stepped || decide (noise ≠ r.noise) }

/-- An input applied to a tracker in SEARCH or LOCKED (R43 to R50); RANGE going from clear to set raises TRACK (R45). -/
def applyInput (t : TrackerRec) (i : Input) (r : TrackerRun) : Update :=
  let r0 := { r with lastIn := some i.x, range := r.range || i.clamped }
  let ranged := i.clamped && !r.range
  match r.st with
  | .search => { run := searchUpdate t i.x r0, track := ranged }
  | .locked => let u := lockedUpdate t i.x r0; { u with track := u.track || ranged }
  | _ => { run := r, track := false }

/-- The input a tracker forms from a result of its source channel (R43). -/
def inputOf (s : State) (i : Fin 7) (c : ChannelRec) (r : ChanResult) : Input :=
  if i = flow then flowInput s.acc.settings.k c r else scaledInput s.trackers[i].conf r

/-- A tracker takes a result in SEARCH and LOCKED alone (R43). -/
def takesResults (t : Tracker) : Bool := t.run.st == .search || t.run.st == .locked

/-- A result handed to one tracker (R43). -/
def trackerResult (i : Fin 7) (c : ChannelRec) (r : ChanResult) (s : State) : State :=
  if takesResults s.trackers[i] then
    let u := applyInput s.trackers[i].conf (inputOf s i c r) s.trackers[i].run
    raiseIf u.track .track (moveTracker i u.run s)
  else s

/-- HOLD, entered at the notice of staleness from SEARCH or LOCKED (R51). -/
def holdRun (r : TrackerRun) : TrackerRun :=
  { r with st := .hold, awaiting := false, nIn := 0, nOut := 0, nStep := 0, sign := none, noise := false }

/-- TRK at the notice of staleness (R51). -/
def trkStale (s : State) : State :=
  (List.finRange 7).foldl
    (fun s i => if takesResults s.trackers[i] then moveTracker i (holdRun s.trackers[i].run) s else s) s

/-- TRK at the notice of freshness (R51): the estimate is kept until the first input replaces it. -/
def trkFresh (s : State) : State :=
  (List.finRange 7).foldl
    (fun s i => if s.trackers[i].run.st = .hold then
      moveTracker i { s.trackers[i].run with st := .search, awaiting := true } s else s) s

/-- TRK at a warm restart (R55); LOCK is not raised (R52). -/
def trkRestart (s : State) : State :=
  { s with trackers := Vector.ofFn fun i => { s.trackers[i] with run := freshRun s i } }

end Sys2Proof.Machine
end

