-- ==== Sys2Proof/Machine/Account.lean ====
section
/-! DEFINITION. ACC: the volume, allowance, hardness, charge and brine stages, the draw accumulator and the restoration
(R79 to R97). The order of the stages within one publication, and the notices, stand in Results.lean. -/

namespace Sys2Proof.Machine

/-! ### Meters and carries (R83, R84, R93) -/

/-- The quotient of a metered count: pulses × 100 with the carry, over pulses per 10 L (R83, R93). -/
def meterQuotient (k carry z : Nat) : Nat := (carry + z * 100) / k

/-- The carry left by a metered count: the part that is less than one decilitre (R83, R93). -/
def meterCarry (k carry z : Nat) : Nat := (carry + z * 100) - (carry + z * 100) / k * k

/-- An increment clamped to 65 535 (R83, R84, R93). -/
def clampIncrement (q : Nat) : Nat := min 65535 q

/-- A clamp sets CLAMP, and raises TANK if it was clear (R83). -/
def noteClamp (q : Nat) (s : State) : State :=
  if 65535 < q then raiseIf (!s.acc.clamp) .tank { s with acc := { s.acc with clamp := true } } else s

/-- Inlet accounting takes the results of a channel of this mode (R82). -/
def State.takesInlet (s : State) (m : ChannelMode) : Bool :=
  decide (1 ≤ s.acc.settings.k ∧ s.acc.settings.k ≤ 60000) && countingMode m

/-- Brine metering takes the results of a channel of this mode (R93). -/
def State.takesBrine (s : State) (m : ChannelMode) : Bool :=
  s.acc.phase != .none && decide (1 ≤ s.acc.settings.kb ∧ s.acc.settings.kb ≤ 60000) && countingMode m

/-- ΔV of an inlet result (R83). -/
def State.inletVolume (s : State) (z : Nat) : Nat := clampIncrement (meterQuotient s.acc.settings.k s.acc.pulseCarry z)

/-- The volume stage (R83). -/
def volumeStage (z : Nat) (s : State) : State :=
  noteClamp (meterQuotient s.acc.settings.k s.acc.pulseCarry z)
    { s with acc := { s.acc with
      pulseCarry := meterCarry s.acc.settings.k s.acc.pulseCarry z
      totalInlet := wrapAdd mod40 s.acc.totalInlet (s.inletVolume z) } }

/-- a_vol of an inlet result with E elapsed frames (R84). -/
def State.allowanceVolume (s : State) (e : Nat) : Nat :=
  clampIncrement ((s.acc.allowCarry + s.drain.allowance * e) / 30000)

/-- The allowance stage (R84). -/
def allowanceStage (e : Nat) (s : State) : State :=
  let m := s.acc.allowCarry + s.drain.allowance * e
  { s with acc := { s.acc with allowCarry := m - m / 30000 * 30000 } }

/-! ### Hardness (R87 to R89) -/

/-- A curve between two points (R87). -/
def segment (p q : Nat × Nat) (x : Nat) : Nat := p.2 + (x - p.1) * (q.2 - p.2) / (q.1 - p.1)

/-- A curve from its first point on, x being at or above that point's x (R87). -/
def curveFrom (p : Nat × Nat) (x : Nat) : List (Nat × Nat) → Nat
  | [] => p.2
  | q :: rest => if x ≤ q.1 then segment p q x else curveFrom q x rest

/-- A curve evaluated; an empty curve gives no value (R87). -/
def curveEval (c : List (Nat × Nat)) (x : Nat) : Option Nat :=
  match c with
  | [] => none
  | p :: rest => some (if x < p.1 then p.2 else curveFrom p x rest)

/-- A curve read at a tracker's estimate, none unless the tracker is LOCKED and the curve not empty (R88, R94). -/
def curveAtTracker (c : List (Nat × Nat)) (i : Fin 7) (s : State) : Option Nat :=
  if s.locked i then curveEval c (s.estimate i) else none

/-- The hardness measured under lock, in AUTO (R88). -/
def State.measuredHardness (s : State) : Option Nat :=
  match s.acc.settings.mode with
  | .forced => none
  | .auto => curveAtTracker s.acc.hardnessCurve condSupply s

/-- The hardness in use H (R88). -/
def State.hardnessInUse (s : State) : Nat :=
  match s.acc.settings.mode with
  | .forced => s.acc.settings.hf
  | .auto => s.measuredHardness.getD (s.acc.held.getD s.acc.settings.hf)

/-- The compensated hardness Hc (R89). -/
def compensated (h fe kFe : Nat) : Nat := min 2000 (h + fe * kFe / 1000)

/-- The hardness stage (R88, R89). -/
def hardnessStage (s : State) : State :=
  let h := s.hardnessInUse
  { s with acc := { s.acc with
    h := h, hc := compensated h s.acc.settings.fe s.acc.settings.kFe
    held := if s.measuredHardness.isSome then s.measuredHardness else s.acc.held } }

/-! ### The charge (R90 to R92) -/

/-- ΔVt (R90). -/
def treatedVolume (dv aVol : Nat) (kind : Option Requester) : Nat :=
  if kind = some .backwash then dv - min dv aVol else dv

/-- An increase of slip (R91). -/
def addSlip (x : Nat) (s : State) : State :=
  if x = 0 then s
  else raiseIf (!s.acc.slipSet) .tank { s with acc := { s.acc with slip := satAdd max40 s.acc.slip x, slipSet := true } }

/-- A tank is charged when it is configured and not REGENERATING (R90). -/
def Tank.charged (t : Tank) : Bool := t.st != .unconfigured && t.st != .regenerating

/-- A load charged to a tank (R90). -/
def chargeTank (t : TankId) (dl : Nat) (s : State) : State :=
  let x := s.tank t
  if x.charged then addSlip (dl - x.remaining) (setTank t { x with remaining := x.remaining - dl } s)
  else addSlip dl s

/-- The tank at the SELECTOR's last confirmed position (R59). -/
def State.serviceTank (s : State) : Option TankId := s.confirmed.bind tankOfPos

/-- The load charged by the last confirmed position (table of R90). The bypass volume takes ΔVt whatever the hardness
(assumption 13). -/
def charge (dvt dl : Nat) (s : State) : State :=
  match s.serviceTank with
  | some t => chargeTank t dl s
  | none =>
    if s.confirmed = some .bypass then
      { s with acc := { s.acc with bypassVolume := wrapAdd mod40 s.acc.bypassVolume dvt } }
    else addSlip dl s

/-- The charge stage (R90, R91). -/
def chargeStage (dvt : Nat) (s : State) : State :=
  charge dvt (dvt * s.acc.hc)
    { s with acc := { s.acc with totalTreated := wrapAdd mod40 s.acc.totalTreated dvt } }

/-- The notices due after a charge of the load dl: the tank, then whether a reserve and an exhaustion notice are given
(R92). `s` is the state the charge has left. -/
def noticesAfter (dl : Nat) (s : State) : Option (TankId × Bool × Bool) :=
  match s.serviceTank with
  | some t =>
    if (s.tank t).charged ∧ 0 < dl then
      some (t, decide ((s.tank t).remaining ≤ s.acc.settings.reserve), decide ((s.tank t).remaining = 0))
    else none
  | none => none

/-! ### Brine (R93 to R95) -/

/-- ΔV_b of a brine result (R93). -/
def State.brineVolume (s : State) (z : Nat) : Nat := clampIncrement (meterQuotient s.acc.settings.kb s.acc.brineCarry z)

/-- The brine stage (R93). -/
def brineStage (z : Nat) (s : State) : State :=
  noteClamp (meterQuotient s.acc.settings.kb s.acc.brineCarry z)
    { s with acc := { s.acc with brineCarry := meterCarry s.acc.settings.kb s.acc.brineCarry z } }

/-- The draw accumulator opened (R94). -/
def accOpen (s : State) : State :=
  { s with acc := { s.acc with
    draw := { isOpen := true, saltDg := 0, volume := 0, lastConc := none, measured := true } } }

/-- The concentration measured under lock (R94). -/
def State.measuredConc (s : State) : Option Nat := curveAtTracker s.acc.brineCurve condBrine s

/-- A brine increment in phase DRAW accumulated (R94). -/
def accumulate (dv : Nat) (s : State) : State :=
  let d := s.acc.draw
  let conc : Option Nat := if s.measuredConc.isSome then s.measuredConc else d.lastConc
  let c := conc.getD s.acc.settings.cNom
  { s with acc := { s.acc with draw := { d with
    saltDg := satAdd max40 d.saltDg (dv * c), volume := satAdd max40 d.volume dv, lastConc := conc
    measured := d.measured && conc.isSome } } }

/-- The values formed at a closing (R95). -/
def drawValues (d : DrawAcc) : DrawValues :=
  { saltG := d.saltDg / 10, mean := if d.volume = 0 then none else some (d.saltDg / d.volume), volume := d.volume
    measured := d.measured }

/-- The accumulator no longer open, its values readable (R95). -/
def accClosed (s : State) : State := { s with acc := { s.acc with draw := { s.acc.draw with isOpen := false } } }

/-- The restoration of a tank of the nominal given (R95). -/
def restoration (s : State) (saltG nominal : Nat) : Restoration :=
  let dose := min 1000 (saltG / s.acc.settings.resin)
  let eff := (curveEval s.acc.efficiencyCurve dose).getD 0
  { dose := dose, efficiency := eff, restored := nominal * eff / 1024 }

/-! ### Settings (R80, R81), curves (R86) and the warm restart (R97) -/

/-- The carries after a settings write, and the record replaced (R81). -/
def storeSoftener (c : Softener) (s : State) : State :=
  let o := s.acc.settings
  { s with acc := { s.acc with
    settings := c
    pulseCarry := if c.k ≠ o.k ∨ c.inlet ≠ o.inlet then 0 else s.acc.pulseCarry
    brineCarry := if c.kb ≠ o.kb ∨ c.brine ≠ o.brine then 0 else s.acc.brineCarry } }

/-- An accepted write of the softener settings (R81). -/
def writeSoftener (c : Softener) (s : State) : State :=
  if c.k ≠ s.acc.settings.k then rebindAfterK (storeSoftener c s) else storeSoftener c s

/-- A curve of the account. -/
def State.curve (s : State) : CurveId → List (Nat × Nat)
  | .hardness => s.acc.hardnessCurve
  | .brine => s.acc.brineCurve
  | .efficiency => s.acc.efficiencyCurve

/-- A curve replaced (R86). -/
def setCurve (c : CurveId) (points : List (Nat × Nat)) (s : State) : State :=
  match c with
  | .hardness => { s with acc := { s.acc with hardnessCurve := points } }
  | .brine => { s with acc := { s.acc with brineCurve := points } }
  | .efficiency => { s with acc := { s.acc with efficiencyCurve := points } }

/-- COMMAND(CLEAR_SLIP) (R91). -/
def clearSlip (s : State) : State := { s with acc := { s.acc with slip := 0, slipSet := false } }

/-- ACC's own warm restart, after RGS has closed the accumulator (R97). -/
def accRestart (s : State) : State :=
  { s with acc := { s.acc with held := none, pulseCarry := 0, allowCarry := 0, brineCarry := 0, phase := .none } }

end Sys2Proof.Machine
end

