-- ==== Sys2Proof/Machine/Actuators.lean ====
section
/-! DEFINITION. ACT: recognition, moves, timers and faults of the four actuators (R56 to R72). What an owner does with
ACT's notices stands with the owner; the events that give the notices stand in Notices.lean. -/

namespace Sys2Proof.Machine

/-- ACT's answer to a move request (R63). -/
inductive Answer where
  | moving | completed | faulted | disabled
deriving DecidableEq, Repr

/-- The answer is a refusal (R63). -/
def Answer.refused : Answer → Bool
  | .faulted | .disabled => true
  | _ => false

/-! ### Recognition -/

/-- The run length of an actuator's feedback preset (R60). -/
def feedbackRun (presets : Vector Nat 4) (c : ActuatorRec) : Nat := runLength presets c.preset

/-- The filters of the switch lanes after a good frame (R60); entries beyond the actuator's positions stay unadopted. -/
def switchFilters (presets : Vector Nat 4) (outs : Vector LaneOut 32) (a : Actr) (c : ActuatorRec)
    (v : Vector Filter 6) : Vector Filter 6 :=
  Vector.ofFn fun i =>
    if i.val < (positions a).length then
      filterStep (feedbackRun presets c) (outOf outs (perPos c.switchLanes i.val)).level v[i]
    else v[i]

/-- The position the switches show: that of the one switch at level 1, none while any is unadopted (R60). -/
def switchPosition (a : Actr) (v : Vector Filter 6) : Option Pos :=
  let shown := (List.finRange 6).filter fun i => decide (i.val < (positions a).length) && v[i].level == some true
  let adopted := (List.finRange 6).all fun i => decide ((positions a).length ≤ i.val) || v[i].level.isSome
  match shown with
  | [i] => if adopted then (positions a)[i.val]? else none
  | _ => none

/-- The raw recognition of an encoder sample (R61). -/
def rawPosition (a : Actr) (c : ActuatorRec) (sample : Nat) : Option Pos :=
  (positions a).find? fun p => perPos c.encoderValues (posIndex a p) == sample

/-- The recognition filter after a published sample (R61), with run length `len`. -/
def encStep (len : Nat) (raw : Option Pos) (f : EncFilter) : EncFilter :=
  match f.filtered with
  | none => { filtered := some raw, count := 0, raw := raw }
  | some cur =>
    if raw = cur then { f with count := 0, raw := raw }
    else
      let n := if f.raw = raw then f.count + 1 else 1
      if len ≤ n then { filtered := some raw, count := 0, raw := raw } else { f with count := n, raw := raw }

/-- The sample the encoder lane publishes in a frame: none from a lane that is not an enabled VALUE lane with W = 8
(R62). -/
def encoderSample (s : State) (outs : Vector LaneOut 32) (c : ActuatorRec) : Option Nat :=
  let d := (s.lane c.encoderLane).desc
  if d.is .value && d.w == 8 then (outOf outs c.encoderLane).sample else none

/-- The recognition filter after the sample, if any, of a good frame (R61). -/
def encAfter (presets : Vector Nat 4) (a : Actr) (c : ActuatorRec) (sample : Option Nat) (f : EncFilter) : EncFilter :=
  match sample with
  | some v => encStep (feedbackRun presets c) (rawPosition a c v) f
  | none => f

/-- The stall lane's filter after a good frame (R60); without a stall lane it stays as it is. -/
def stallAfter (presets : Vector Nat 4) (outs : Vector LaneOut 32) (c : ActuatorRec) (f : Filter) : Filter :=
  match c.stallLane with
  | some l => filterStep (feedbackRun presets c) (outOf outs l).level f
  | none => f

/-- The feedback of an enabled actuator read at a good frame: its filters and its recognised position, which a good frame
that publishes no encoder sample leaves as it is (R60, R61). -/
def readFeedback (s : State) (outs : Vector LaneOut 32) (a : Actr) (x : Actuator) : ActuatorRun :=
  let r := { x.run with stall := stallAfter s.presets outs x.conf x.run.stall }
  match x.conf.kind with
  | .switches =>
    let v := switchFilters s.presets outs a x.conf r.switches
    { r with switches := v, recognised := switchPosition a v }
  | .encoder =>
    let sample := encoderSample s outs x.conf
    let e := encAfter s.presets a x.conf sample r.enc
    { r with enc := e, recognised := if sample.isSome then e.filtered.getD none else r.recognised }

/-- A good frame updates the recognised position: always for SWITCHES, at a published sample for ENCODER (R60, R61). -/
def recognitionUpdated (s : State) (outs : Vector LaneOut 32) (c : ActuatorRec) : Bool :=
  c.kind == .switches || (encoderSample s outs c).isSome

/-- What the state makes of the recognised position at a good frame, `updated` saying whether the frame updates it: the
displacement timer in AT(p), which runs without samples too (R62, R67), the marks of an adoption to take in UNKNOWN
(R68) and of a stall in MOVING (R66; the arrival goes before it). -/
def judgePosition (updated : Bool) (r : ActuatorRun) : ActuatorRun :=
  match r.st with
  | .at p => { r with displace := if r.recognised = some p then none else some (r.displace.getD 2) }
  | .unknown => { r with adoptSeen := (updated || r.adoptSeen) && r.recognised.isSome }
  | .moving t _ => { r with stallSeen := decide (r.stall.level = some true ∧ r.recognised ≠ some t) }
  | _ => r

/-- One actuator at a good frame; a disabled one reads no feedback (R58). -/
def actFrame (s : State) (outs : Vector LaneOut 32) (a : Actr) : State :=
  let x := s.act a
  if x.conf.enabled then setAct a { x with run := judgePosition (recognitionUpdated s outs x.conf) (readFeedback s outs a x) } s else s

/-- ACT on a good frame, the lanes having acted. -/
def actsFrame (outs : Vector LaneOut 32) (s : State) : State := allActrs.foldl (fun s a => actFrame s outs a) s

/-- The run state with filters unadopted and nothing recognised, in UNKNOWN with no timers: the act of an accepted write
(R58), of CLEAR_FAULT (R70) and of a warm restart (R72). The last confirmed position and the last fault stay. -/
def ActuatorRun.unread (r : ActuatorRun) : ActuatorRun :=
  { r with st := .unknown, switches := Vector.replicate 6 Filter.unadopted, stall := Filter.unadopted
           enc := EncFilter.unadopted, recognised := none, travel := none, pause := none, displace := none
           stallSeen := false, adoptSeen := false }

/-- One actuator at the reset notices of the lanes for which `hit` holds (R62). -/
def actLaneReset (hit : Nat → Bool) (a : Actr) (x : Actuator) : Actuator :=
  let switchHit := fun (i : Fin 6) =>
    x.conf.kind == .switches && decide (i.val < (positions a).length) && hit (perPos x.conf.switchLanes i.val)
  let encHit := x.conf.kind == .encoder && hit x.conf.encoderLane
  let stallHit := hits hit x.conf.stallLane
  if (List.finRange 6).any switchHit || encHit || stallHit then
    { x with run := { x.run with
      switches := Vector.ofFn fun i => if switchHit i then Filter.unadopted else x.run.switches[i]
      enc := if encHit then EncFilter.unadopted else x.run.enc
      stall := if stallHit then Filter.unadopted else x.run.stall
      recognised := none } }
  else x

/-- ACT at lane reset notices (R62). -/
def actsLaneReset (hit : Nat → Bool) (s : State) : State :=
  allActrs.foldl (fun s a => setAct a (actLaneReset hit a (s.act a)) s) s

/-! ### Moves -/

/-- Entry to AT(p): the timers are cancelled and the last confirmed position becomes p (R59, R64). -/
def ActuatorRun.enterAt (p : Pos) (r : ActuatorRun) : ActuatorRun :=
  { r with st := .at p, travel := none, pause := none, displace := none, lastConfirmed := some p, stallSeen := false
           adoptSeen := false }

/-- Entry to MOVING(t, n): the travel timer starts (R63, R65). -/
def ActuatorRun.enterMoving (timeout : Nat) (t : Pos) (n : Nat) (r : ActuatorRun) : ActuatorRun :=
  { r with st := .moving t n, travel := some timeout, pause := none, displace := none, stallSeen := false
           adoptSeen := false }

/-- A move started or retargeted: AT(t) at once when t is recognised, otherwise MOVING(t, 1) (R63). -/
def startMove (timeout : Nat) (t : Pos) (r : ActuatorRun) : ActuatorRun × Answer :=
  if r.recognised = some t then (r.enterAt t, .completed) else (r.enterMoving timeout t 1, .moving)

/-- A move request (table of R63). -/
def requestRun (c : ActuatorRec) (t : Pos) (r : ActuatorRun) : ActuatorRun × Answer :=
  if c.enabled then
    match r.st with
    | .at p => if p = t then (r, .completed) else startMove c.travel t r
    | .unknown => startMove c.travel t r
    | .moving u _ => if u = t then (r, .moving) else startMove c.travel t r
    | .paused u _ => if u = t then (r, .moving) else startMove c.travel t r
    | .faultNoResponse => (r, .faulted)
    | .faultStall => (r, .faulted)
  else (r, .disabled)

/-- The run state after a move request. -/
def actRequest (a : Actr) (t : Pos) (s : State) : State :=
  setAct a { s.act a with run := (requestRun (s.act a).conf t (s.act a).run).1 } s

/-- The answer to a move request. -/
def State.answer (s : State) (a : Actr) (t : Pos) : Answer := (requestRun (s.act a).conf t (s.act a).run).2

/-! ### Events: what makes each due, and its act on ACT -/

/-- The target of a move in flight, MOVING or PAUSED. -/
def ActuatorRun.target (r : ActuatorRun) : Option Pos :=
  match r.st with
  | .moving t _ | .paused t _ => some t
  | _ => none

/-- The arrival to take: the target of the move in flight is recognised (R64). -/
def arrivalDue (x : Actuator) : Option Pos :=
  match x.run.target with
  | some t => if x.run.recognised = some t then some t else none
  | none => none

/-- The adoption to take (R68). -/
def adoptionDue (x : Actuator) : Option Pos :=
  if x.conf.enabled && x.run.adoptSeen && decide (x.run.st = .unknown) then x.run.recognised else none

/-- A travel timeout to take: the attempt and its target (R65). -/
def timeoutDue (x : Actuator) : Option (Pos × Nat) :=
  match x.run.st with
  | .moving t n => if x.run.travel = some 0 then some (t, n) else none
  | _ => none

/-- A pause expiry to take (R65). -/
def pauseDue (x : Actuator) : Option (Pos × Nat) :=
  match x.run.st with
  | .paused t n => if x.run.pause = some 0 then some (t, n) else none
  | _ => none

/-- A stall to take (R66): an arrival found with it goes first. -/
def stallDue (x : Actuator) : Option (Pos × Nat) :=
  match x.run.st with
  | .moving t n => if x.run.stallSeen ∧ x.run.recognised ≠ some t then some (t, n) else none
  | _ => none

/-- A displacement to take: the position left (R67). -/
def displacementDue (x : Actuator) : Option Pos :=
  match x.run.st with
  | .at p => if x.run.displace = some 0 then some p else none
  | _ => none

/-- Replaces one actuator's run state. -/
def setRun (a : Actr) (r : ActuatorRun) (s : State) : State := setAct a { s.act a with run := r } s

/-- A position as a detail byte: its number, 0xFF for none (R169, R173). -/
def posByte (a : Actr) : Option Pos → Byte
  | some p => toByte (posIndex a p)
  | none => 0xFF

/-- A fault state entered: state, last fault, ACTUATOR, the offer (R69, steps 1 to 4). -/
def actFault (a : Actr) (st : ActState) (kind : FaultKind) (d1 d2 : Byte) (s : State) : State :=
  let r := (s.act a).run
  offerFault kind a.index (detailBytes d1 d2)
    (raise .actuator (setRun a { r with st := st, travel := none, pause := none, displace := none
                                        lastFault := some kind, stallSeen := false, adoptSeen := false } s))

/-- FAULT_NO_RESPONSE entered from attempt n toward t (R65, R69). -/
def faultNoResponse (a : Actr) (t : Pos) (n : Nat) (s : State) : State :=
  actFault a .faultNoResponse .actNoResponse (posByte a (some t)) (toByte n) s

/-- FAULT_STALL entered from attempt n toward t (R66, R69). -/
def faultStall (a : Actr) (t : Pos) (n : Nat) (s : State) : State :=
  actFault a .faultStall .actStall (posByte a (some t)) (toByte n) s

/-- Displaced from p (R67, R69). -/
def displace (a : Actr) (p : Pos) (s : State) : State :=
  actFault a .unknown .actDisplaced (posByte a (some p)) (posByte a (s.act a).run.recognised) s

/-- Entry to PAUSED(t, n) at a timeout with attempts left (R65). -/
def enterPaused (a : Actr) (t : Pos) (n : Nat) (s : State) : State :=
  let x := s.act a
  setRun a { x.run with st := .paused t n, travel := none, pause := some x.conf.pause, stallSeen := false } s

/-- The next attempt at a pause expiry (R65). -/
def nextAttempt (a : Actr) (t : Pos) (n : Nat) (s : State) : State :=
  let x := s.act a
  setRun a (x.run.enterMoving x.conf.travel t (n + 1)) s

/-- Entry to AT(p) at an arrival or an adoption (R64, R68). -/
def enterPosition (a : Actr) (p : Pos) (s : State) : State := setRun a ((s.act a).run.enterAt p) s

/-- The actuator is in a fault state. -/
def ActuatorRun.inFault (r : ActuatorRun) : Bool :=
  match r.st with
  | .faultNoResponse | .faultStall => true
  | _ => false

/-- COMMAND(CLEAR_FAULT) of an actuator in a fault state (R70). -/
def clearActFault (a : Actr) (s : State) : State := setRun a (s.act a).run.unread s

/-- One second of an actuator's timers (R65, R67). -/
def tickActuator (a : Actr) (s : State) : State :=
  let r := (s.act a).run
  setRun a { r with travel := tick r.travel, pause := tick r.pause, displace := tick r.displace } s

/-- One second of all timers of ACT. -/
def actsSecond (s : State) : State := allActrs.foldl (fun s a => tickActuator a s) s

/-- The drive code as it stands (R59). -/
def driveCode (a : Actr) (x : Actuator) : Nat :=
  match x.run.st with
  | .moving t _ => perPos x.conf.codes (posIndex a t)
  | _ => x.conf.stopCode

/-- ACT at a warm restart (R72). -/
def actsRestart (s : State) : State := allActrs.foldl (fun s a => setRun a (s.act a).run.unread s) s

/-- The FILTER_ROTOR stands AT(SERVICE) (R136). -/
def State.filterAtService (s : State) : Bool := decide (s.filterRotor.run.st = .at .service)

/-- The FILTER_ROTOR is enabled and not in a fault state (R140). -/
def State.filterUsable (s : State) : Bool := s.filterRotor.conf.enabled && !s.filterRotor.run.inFault

end Sys2Proof.Machine
end

