-- ==== Sys2Proof/Machine/Drain.lean ====
section
/-! DEFINITION. DRA: request, grant, release and withdrawal of the one drain line, and the allowance in force (R73 to
R78). What a requester does at its grant is given as an argument `k`; Grants.lean supplies it. -/

namespace Sys2Proof.Machine

/-- What each requester does when it is informed of its grant. -/
abbrev Grant := Requester → State → State

/-- A requester waits. -/
def Drain.waits (d : Drain) : Requester → Bool
  | .regen => d.waitRegen
  | .backwash => d.waitBackwash
  | .test => d.waitTest

/-- A requester's entry of the waiting list set or removed. -/
def Drain.setWait (d : Drain) (r : Requester) (b : Bool) : Drain :=
  match r with
  | .regen => { d with waitRegen := b }
  | .backwash => { d with waitBackwash := b }
  | .test => { d with waitTest := b }

/-- The waiting requester of highest priority (R73). -/
def Drain.nextWaiting (d : Drain) : Option Requester :=
  if d.waitRegen then some .regen else if d.waitBackwash then some .backwash else if d.waitTest then some .test else none

/-- The allowance in force set, and published when its value or kind changes: ACC's allowance carry becomes 0 (R77). -/
def setAllowance (a : Nat) (kind : Option Requester) (s : State) : State :=
  if s.drain.allowance = a ∧ s.drain.kind = kind then s
  else { s with drain := { s.drain with allowance := a, kind := kind }, acc := { s.acc with allowCarry := 0 } }

/-- A report from a requester: the allowance of its RUNNING step, or `none` when no step is RUNNING (R77). -/
def allowanceReport (r : Requester) (a : Option Nat) (s : State) : State :=
  if s.drain.holder = some r then
    match a with
    | some n => setAllowance n (some r) s
    | none => setAllowance 0 none s
  else s

/-- The grant of the line to a requester, which is informed (R73). -/
def grantTo (k : Grant) (r : Requester) (s : State) : State :=
  k r { s with drain := { s.drain.setWait r false with holder := some r } }

/-- The grant made when the drain is free under an open main: to the waiting requester of highest priority (R73). -/
def drainRegrant (k : Grant) (s : State) : State :=
  if s.mainOpen ∧ s.drain.holder = none then
    match s.drain.nextWaiting with
    | some r => grantTo k r s
    | none => s
  else s

/-- A request for the drain line (R74). -/
def drainRequest (k : Grant) (r : Requester) (s : State) : State :=
  if s.drain.holder = some r then s
  else if s.drain.waits r then s
  else if s.drain.holder = none ∧ s.mainOpen then grantTo k r s
  else { s with drain := s.drain.setWait r true }

/-- The line taken back from its holder: the allowance in force becomes 0 with holder none (R75). -/
def drainFreed (s : State) : State :=
  setAllowance 0 none { s with drain := { s.drain with holder := none } }

/-- A release or a withdrawal by a requester (R75). -/
def drainRelease (k : Grant) (r : Requester) (s : State) : State :=
  if s.drain.holder = some r then drainRegrant k (drainFreed s)
  else if s.drain.waits r then { s with drain := s.drain.setWait r false }
  else s

/-- DRA at a warm restart (R78): the line freed, the list emptied, the allowance 0 with holder none published. -/
def drainRestart (s : State) : State :=
  { s with drain := Drain.reset, acc := { s.acc with allowCarry := 0 } }

end Sys2Proof.Machine
end

