-- ==== Sys2Proof/Machine/Regen.lean ====
section
/-! DEFINITION. RGS: the tank states, swaps, bypass, and the regeneration run from its queueing to its end (R98 to R118).
The argument `k` is what a requester does at a grant of the drain line (Drain.lean). -/

namespace Sys2Proof.Machine

/-! ### Small parts -/

/-- The main is OPEN and the field link FRESH: the conditions under which a step may run (R112). -/
def State.supplied (s : State) : Bool := s.mainOpen && s.link.fieldFresh

/-- The reserve of the settings. -/
def State.reserve (s : State) : Nat := s.acc.settings.reserve

/-- The sequencer enters a state, which raises REGEN (R117). -/
def setSeq (q : SeqState) (s : State) : State := raise .regen { s with rgs := { s.rgs with seq := q } }

/-- Replaces the run. -/
def setRegenRun (r : RegenRun) (s : State) : State := { s with rgs := { s.rgs with run := r } }

/-- Replaces the selector move in flight. -/
def setMove (m : SelMove) (s : State) : State := { s with rgs := { s.rgs with move := m } }

/-- Changes the regeneration record. -/
def updateRecord (f : RegenRecord → RegenRecord) (s : State) : State :=
  { s with rgs := { s.rgs with record := s.rgs.record.map f } }

/-- The record takes the end seconds and the outcome. -/
def recordEnd (o : RunOutcome) (s : State) : State :=
  updateRecord (fun r => { r with endedAt := some s.mgu.seconds, outcome := some o }) s

/-- The current step of the snapshot. -/
def State.regenStep (s : State) : Option RegenStep := s.rgs.run.step.map fun i => s.rgs.snapshot[i]

/-- The position of the current step. -/
def State.regenStepPos (s : State) : Option Pos := s.regenStep.map fun x => regenPos x.pos

/-- The first enabled step of a program from the index `lo` on, in index order (R108, R110). -/
def firstStep (p : Vector RegenStep 8) (lo : Nat) : Option (Fin 8) :=
  (List.finRange 8).find? fun i => decide (lo ≤ i.val) && p[i].enabled

/-- The enabled step after the current one (R110). -/
def State.nextRegenStep (s : State) : Option (Fin 8) :=
  firstStep s.rgs.snapshot (match s.rgs.run.step with | some i => i.val + 1 | none => 0)

/-- The code of a sequencer or backwash state (R176). -/
def seqCode : SeqState → Nat
  | .idle => 0 | .queued => 1 | .positioning => 2 | .running => 3 | .held => 4 | .parking => 5

/-- A step index as a detail byte, 0xFF for none (R173). -/
def stepByte {n : Nat} : Option (Fin n) → Byte
  | some i => toByte i.val
  | none => 0xFF

/-- A RUNNING step is stopped: the report to DRA and the brine phase NONE (R110, R112, R114). -/
def stopStep (s : State) : State :=
  if s.rgs.seq = .running then
    let s1 := allowanceReport .regen none s
    { s1 with acc := { s1.acc with phase := .none } }
  else s

/-- The draw accumulator closed: its values go to SLT and to the record (R95). -/
def closeDraw (warm : Bool) (s : State) : State :=
  updateRecord (fun r => { r with brine := some (drawValues s.acc.draw) })
    (sltClose (drawValues s.acc.draw) warm (accClosed s))

/-- The run's tank takes a state, a remaining and an outcome, and the record the outcome with the end seconds. -/
def endTank (st : TankState) (remaining : Nat) (o : RunOutcome) (s : State) : State :=
  match s.rgs.run.tank with
  | some t => recordEnd o (setTank t { s.tank t with st := st, remaining := remaining, lastOutcome := some o } s)
  | none => s

/-- The run's tank becomes EXHAUSTED with remaining 0. -/
def exhaustTank (o : RunOutcome) (s : State) : State := endTank .exhausted 0 o s

/-- The run's tank keeps its remaining and takes a state. -/
def keepTank (st : TankState) (o : RunOutcome) (s : State) : State :=
  match s.rgs.run.tank with
  | some t => endTank st (s.tank t).remaining o s
  | none => s

/-- The run's tank becomes none: its outcome is decided. -/
def dropTank (s : State) : State := setRegenRun { s.rgs.run with tank := none } s

/-- A fault of RGS offered, with the run's tank as source index (R113, R115, R116). -/
def offerRgs (kind : FaultKind) (d2 : Byte) (s : State) : State :=
  match s.rgs.run.tank with
  | some t => offerFault kind t.index (detailBytes (stepByte s.rgs.run.step) d2) s
  | none => s

/-- The sequencer becomes IDLE with no run. -/
def toIdle (s : State) : State := setSeq .idle (setRegenRun RegenRun.empty s)

/-! ### Tank states (R100) and queueing (R107) -/

/-- The tank left by the SELECTOR (R100). -/
def tankLeft (t : TankId) (s : State) : State :=
  let x := s.tank t
  if x.charged then setTank t { x with st := if s.reserve < x.remaining then .standby else .exhausted } s else s

/-- The tank reached by the SELECTOR (R100). -/
def tankReached (t : TankId) (s : State) : State :=
  let x := s.tank t
  if x.charged then setTank t { x with st := if 0 < x.remaining then .service else .exhausted } s else s

/-- The tank states judged when the last confirmed position has changed from `old` to `p` (R100). -/
def judgeTanks (old : Option Pos) (p : Pos) (s : State) : State :=
  if old = some p then s
  else
    let s1 := match old.bind tankOfPos with | some t => tankLeft t s | none => s
    match tankOfPos p with | some t => tankReached t s1 | none => s1

/-- A new regeneration record (R107, R117). -/
def newRecord (t : TankId) (trig : RegenTrigger) (seconds : Nat) : RegenRecord :=
  { tank := t, trigger := trig, queuedAt := seconds, startedAt := none, endedAt := none, outcome := none
    stepsDone := 0, short := Vector.replicate 8 false, brine := none, restoration := none }

/-- Queueing a regeneration of a tank, its prior state given (R107). -/
def rgsQueue (k : Grant) (t : TankId) (trig : RegenTrigger) (prior : TankState) (s : State) : State :=
  let s1 := setTank t { s.tank t with st := .regenerating } s
  let s2 := setRegenRun { RegenRun.empty with tank := some t, prior := some prior, trigger := some trig } s1
  drainRequest k .regen
    (setSeq .queued { s2 with rgs := { s2.rgs with record := some (newRecord t trig s.mgu.seconds) } })

/-! ### Swaps (R101, R102) -/

/-- The selector move in flight ends at its completion (R102, R103). -/
def selMoveDone (k : Grant) (s : State) : State :=
  match s.rgs.move with
  | .none => s
  | .swap t =>
    let s1 := setMove .none s
    if (s1.tank t.other).st = .unconfigured then s1 else rgsQueue k t.other .reserve .exhausted s1
  | .bypassOn => setMove .none s
  | .bypassOff _ => { s with rgs := { s.rgs with move := .none, remembered := none } }

/-- The selector move in flight ends at a fault notice or a refusal (R102, R103). -/
def selFailed (s : State) : State :=
  match s.rgs.move with
  | .bypassOn => { s with rgs := { s.rgs with move := .none, remembered := none } }
  | _ => setMove .none s

/-- A swap requested (R101), the answer given at once met. -/
def startSwap (k : Grant) (t : TankId) (s : State) : State :=
  let s1 := actRequest .selector t.pos (setMove (.swap t) s)
  match s.answer .selector t.pos with
  | .moving => s1
  | .completed => selMoveDone k (judgeTanks s.confirmed t.pos s1)
  | .faulted => selFailed s1
  | .disabled => selFailed s1

/-- The conditions of R101 on the sequencer, the move and the tank to swap to. -/
def State.swapReady (s : State) (t : TankId) : Bool :=
  s.rgs.seq == .idle && s.rgs.move == .none && (s.tank t).st == .standby && decide (s.reserve < (s.tank t).remaining)

/-- A swap sought at a notice naming a tank (R101). -/
def seekAtNotice (k : Grant) (t : TankId) (s : State) : State :=
  if s.swapReady t.other then startSwap k t.other s else s

/-- A swap sought at the end of a run (R101). -/
def swapSeek (k : Grant) (s : State) : State :=
  match s.serviceTank with
  | some t => if (s.tank t).remaining ≤ s.reserve then seekAtNotice k t s else s
  | none => s

/-- RGS at a reserve notice (R101). -/
def reserveNotice (k : Grant) (t : TankId) (s : State) : State := seekAtNotice k t s

/-- RGS at an exhaustion notice (R101). -/
def exhaustionNotice (k : Grant) (t : TankId) (s : State) : State :=
  seekAtNotice k t
    (if (s.tank t).st = .service then setTank t { s.tank t with st := .exhausted } s else s)

/-! ### Ends of a run -/

/-- IDLE entered at the end of a run, and a swap sought. -/
def finish (k : Grant) (s : State) : State := swapSeek k (toIdle s)

/-- IDLE entered after the drain is given back. -/
def releaseAndFinish (k : Grant) (s : State) : State := finish k (drainRelease k .regen s)

/-- Completion at SERVICE after the last step: the restoration written to the tank and the record (R111, steps 1 to 4). -/
def restoreTank (t : TankId) (s : State) : State :=
  let s1 := closeDraw false s
  let x := s1.tank t
  let r := restoration s1 (drawValues s.acc.draw).saltG x.nominal
  let s2 := setTank t
    { x with st := .standby, remaining := r.restored, seconds := 0, lastOutcome := some .complete } s1
  updateRecord (fun rec => { rec with restoration := some r }) (recordEnd .complete s2)

/-- The rotor has parked at SERVICE (R111, R113, R114, R116). -/
def parkDone (k : Grant) (s : State) : State :=
  match s.rgs.run.tank with
  | some t => releaseAndFinish k (restoreTank t s)
  | none => releaseAndFinish k s

/-- The regeneration ends FAULTED; `code` is the second detail byte (R115, R173). -/
def rgsFault (k : Grant) (code : Byte) (s : State) : State :=
  let s1 := exhaustTank .faulted (closeDraw false (stopStep s))
  releaseAndFinish k (offerRgs .rgsFaulted code s1)

/-- A fault notice or a refusal of the REGEN_ROTOR (R113, R114, R115). -/
def rgsRotorFailed (k : Grant) (code : Byte) (s : State) : State :=
  match s.rgs.seq with
  | .idle => s
  | .queued => s
  | .positioning => rgsFault k code s
  | .running => rgsFault k code s
  | .held => rgsFault k code s
  | .parking => if s.rgs.run.tank.isSome then rgsFault k code s else releaseAndFinish k s

/-! ### Steps (R108 to R110) and holds (R112) -/

/-- HELD entered, the phase interrupted kept (R112). -/
def enterHeld (phase : SeqState) (s : State) : State :=
  let s1 := stopStep s
  setSeq .held { s1 with rgs := { s1.rgs with
    run := { s1.rgs.run with hold := 0, interrupted := some phase }, holdDue := false } }

/-- RGS when the main leaves OPEN or the field link becomes FIELD_STALE (R112). -/
def rgsHold (s : State) : State :=
  match s.rgs.seq with
  | .positioning => enterHeld .positioning s
  | .running => enterHeld .running s
  | _ => s

/-- The brine phase of a RUNNING step's position (R109). -/
def phaseOf : RegenPos → BrinePhase
  | .brineDraw => .draw
  | .refill => .refill
  | _ => .none

/-- A step becomes RUNNING (R109). -/
def startRunning (x : RegenStep) (s : State) : State :=
  let s1 := allowanceReport .regen (some x.allowance) s
  let s2 := { s1 with acc := { s1.acc with phase := phaseOf x.pos } }
  let s3 := if x.pos = .refill ∧ s.rgs.run.fromStart then refillStart s2 else s2
  setSeq .running (setRegenRun { s3.rgs.run with
    fromStart := false, drawBegun := s3.rgs.run.drawBegun || decide (x.pos = .brineDraw) } s3)

/-- A completion of the REGEN_ROTOR naming `p` (R109, R111). -/
def rgsRotorDone (k : Grant) (p : Pos) (s : State) : State :=
  match s.rgs.seq with
  | .positioning =>
    match s.regenStep with
    | some x =>
      if regenPos x.pos = p then (if s.supplied then startRunning x s else enterHeld .running s) else s
    | none => s
  | .parking => if p = .service then parkDone k s else s
  | _ => s

/-- The second detail byte of RGS_FAULTED for a refusal (R173). -/
def refusalCode : Answer → Byte
  | .disabled => 3
  | _ => 2

/-- The REGEN_ROTOR requested toward a position, the answer given at once met (R63, R109, R115). -/
def rgsRotorAsk (k : Grant) (p : Pos) (s : State) : State :=
  let s1 := actRequest .regenRotor p s
  match s.answer .regenRotor p with
  | .moving => s1
  | .completed => rgsRotorDone k p s1
  | .faulted => rgsRotorFailed k (refusalCode .faulted) s1
  | .disabled => rgsRotorFailed k (refusalCode .disabled) s1

/-- The rotor requested toward the current step's position. -/
def askStep (k : Grant) (s : State) : State :=
  match s.regenStepPos with
  | some p => rgsRotorAsk k p s
  | none => s

/-- POSITIONING entered for the current step, or HELD in its place (R108, R112). -/
def enterPositioning (k : Grant) (s : State) : State :=
  if s.supplied then askStep k (setSeq .positioning s) else enterHeld .positioning s

/-- PARKING entered: the rotor is requested toward SERVICE (R110, R113, R114, R116). The elapsed seconds, the step brine
volume and the hold seconds keep their last values while there is no step (DESIGN CHOICE, assumption 57). -/
def startParking (k : Grant) (s : State) : State :=
  rgsRotorAsk k .service (setSeq .parking (setRegenRun { s.rgs.run with step := none } s))

/-- A step taken from its start (R108, R110). -/
def takeStep (k : Grant) (i : Fin 8) (s : State) : State :=
  enterPositioning k (setRegenRun { s.rgs.run with step := some i, elapsed := 0, brine := 0, fromStart := true } s)

/-- RGS at the grant of the drain line (R108). -/
def rgsGranted (k : Grant) (s : State) : State :=
  if s.rgs.seq = .queued then
    let s1 := { s with rgs := { s.rgs with snapshot := s.rgs.program } }
    let s2 := accOpen (updateRecord (fun r => { r with startedAt := some s.mgu.seconds }) s1)
    match firstStep s2.rgs.snapshot 0 with
    | some i => takeStep k i s2
    | none =>
      let s3 := drainRelease k .regen s2
      finish k (closeDraw false (keepTank (s3.rgs.run.prior.getD .standby) .cancelled s3))
  else drainRelease k .regen s

/-- A step's end counted in the record, with its SHORT mark (R110). -/
def countStep (i : Option (Fin 8)) (short : Bool) (s : State) : State :=
  updateRecord (fun r => { r with
    stepsDone := r.stepsDone + 1
    short := match i with | some j => r.short.set j short | none => r.short }) s

/-- The end of a RUNNING step (R110): every REFILL step gives its refill-end notice, one with end kind DURATION too
(assumption 47). -/
def endStep (k : Grant) (short : Bool) (s : State) : State :=
  let s1 := countStep s.rgs.run.step short (stopStep s)
  let refill : Bool := match s.regenStep with | some x => x.pos == .refill | none => false
  let s2 := raise .regen (if refill then refillEnd short s1 else s1)
  match s2.nextRegenStep with
  | some i => takeStep k i s2
  | none => startParking k s2

/-- The end event a RUNNING step has reached: `some short` (R110). -/
def stepEndDue (s : State) : Option Bool :=
  if s.rgs.seq = .running then
    match s.regenStep with
    | some x =>
      match x.endKind with
      | .duration => if x.duration ≤ s.rgs.run.elapsed then some false else none
      | .volume =>
        if x.volume ≤ s.rgs.run.brine then some false
        else if x.timeout ≤ s.rgs.run.elapsed then some true else none
    | none => none
  else none

/-- A brine increment handed to RGS (R93, R110). -/
def rgsIncrement (dv : Nat) (s : State) : State :=
  match s.regenStep with
  | some x =>
    if s.rgs.seq = .running ∧ x.endKind = .volume then
      setRegenRun { s.rgs.run with brine := satAdd max40 s.rgs.run.brine dv } s
    else s
  | none => s

/-- RGS when the main is OPEN and the field link FRESH (R112). The hold seconds keep their last value after a resume (DESIGN
CHOICE, assumption 57). -/
def rgsResume (k : Grant) (s : State) : State :=
  if s.rgs.seq = .held ∧ s.supplied then askStep k (setSeq .positioning s) else s

/-- The hold has reached its limit and the run is abandoned (R113). -/
def rgsAbandon (k : Grant) (s : State) : State :=
  let s1 := exhaustTank .abandoned (closeDraw false s)
  let s2 := dropTank (offerRgs .rgsAbandoned (toByte (seqCode (s.rgs.run.interrupted.getD .held))) s1)
  startParking k (drainRelease k .regen s2)

/-! ### The SELECTOR reaches the tank of the run (R116), and its other notices -/

/-- The tank of the run in progress, while its outcome is not decided, is the one at a position. -/
def State.isRunTank (s : State) (p : Pos) : Bool :=
  s.rgs.run.tank.isSome && s.rgs.run.tank == tankOfPos p

/-- The SELECTOR is at the tank of the run (R116). -/
def runTankReached (k : Grant) (old : Option Pos) (p : Pos) (s : State) : State :=
  if s.rgs.seq = .queued then
    finish k (drainRelease k .regen (judgeTanks old p (dropTank (exhaustTank .abandoned s))))
  else
    let s1 := exhaustTank .abandoned (closeDraw false (stopStep s))
    let s2 := offerRgs .rgsAbandoned (toByte (seqCode s.rgs.seq)) s1
    startParking k (drainRelease k .regen (judgeTanks old p (dropTank s2)))

/-- The SELECTOR's last confirmed position has become `p`; it was `old` (R100, R116). -/
def selReached (k : Grant) (old : Option Pos) (p : Pos) (s : State) : State :=
  if s.isRunTank p then runTankReached k old p s else judgeTanks old p s

/-- A completion of the SELECTOR (R100, R102, R103, R116). It ends the move that was in flight, not a swap that the judgement
of its position has sought. -/
def selDone (k : Grant) (old : Option Pos) (p : Pos) (s : State) : State :=
  if s.rgs.move = .none then selReached k old p s else selMoveDone k (selReached k old p s)

/-! ### The REGEN_ROTOR's displacement, reset and adoption (R115) -/

/-- A displacement notice naming `at?`, or a reset notice, of the REGEN_ROTOR (R115). -/
def rgsRotorMoved (k : Grant) (reset : Bool) (at? : Option Pos) (s : State) : State :=
  match s.rgs.seq with
  | .running => enterPositioning k (stopStep s)
  | .positioning => askStep k s
  | .parking => rgsRotorAsk k .service s
  | .held => s
  | .idle => if !reset && at? != some .service then actRequest .regenRotor .service s else s
  | .queued => if !reset && at? != some .service then actRequest .regenRotor .service s else s

/-- An adoption of the REGEN_ROTOR (R115). -/
def rgsRotorAdopted (p : Pos) (s : State) : State :=
  if (s.rgs.seq = .idle ∨ s.rgs.seq = .queued) ∧ p ≠ .service then actRequest .regenRotor .service s else s

/-! ### Triggers and commands (R103, R105, R106, R114, R178) -/

/-- A program has an enabled step. -/
def State.hasRegenStep (s : State) : Bool := (firstStep s.rgs.program 0).isSome

/-- A tank is a candidate of the calendar (R105). -/
def calendarCandidate (s : State) (t : TankId) : Bool :=
  let x := s.tank t
  x.st != .unconfigured && s.serviceTank != some t &&
    (x.st == .exhausted ||
      (x.st == .standby && (match s.acc.settings.maxDays with
        | some d => decide (d * 86400 ≤ x.seconds) | none => false)))

/-- The tank the calendar chooses (R105). -/
def calendarChoice (s : State) : Option TankId :=
  match calendarCandidate s .a, calendarCandidate s .b with
  | false, false => none
  | true, false => some .a
  | false, true => some .b
  | true, true =>
    if s.rgs.tankA.st = s.rgs.tankB.st then
      (if s.rgs.tankA.seconds < s.rgs.tankB.seconds then some .b else some .a)
    else if s.rgs.tankA.st = .exhausted then some .a else some .b

/-- The calendar trigger is lost for the day (R105). -/
def State.calendarBarred (s : State) : Bool :=
  s.acc.settings.regenHour.isNone || !s.mgu.timeValid || s.rgs.seq != .idle || s.rgs.move != .none || !s.hasRegenStep

/-- The calendar trigger (R105). -/
def rgsCalendar (k : Grant) (s : State) : State :=
  let s1 := { s with rgs := { s.rgs with calendarDue := false } }
  if s1.calendarBarred then s1
  else match calendarChoice s1 with
    | some t => rgsQueue k t .calendar (s1.tank t).st s1
    | none => s1

/-- CANCEL_REGEN in POSITIONING, RUNNING or HELD (R114). -/
def cancelRun (k : Grant) (s : State) : State :=
  let s1 := closeDraw false (stopStep s)
  let s2 := match s1.rgs.run.tank with
    | some t =>
      if s1.rgs.run.drawBegun then exhaustTank .cancelled s1
      else keepTank (if s1.reserve < (s1.tank t).remaining then .standby else .exhausted) .cancelled s1
    | none => s1
  startParking k (dropTank s2)

/-- CANCEL_REGEN in QUEUED (R114); as at every end of a run, a swap is sought (R101). -/
def cancelQueued (k : Grant) (s : State) : State :=
  let s1 := drainRelease k .regen s
  finish k (keepTank (s1.rgs.run.prior.getD .standby) .cancelled s1)

/-- The SELECTOR requested for the bypass commands, the answer given at once met (R103). -/
def selCommand (k : Grant) (p : Pos) (s : State) : State :=
  let s1 := actRequest .selector p s
  match s.answer .selector p with
  | .moving => s1
  | .completed => selDone k s.confirmed p s1
  | .faulted => selFailed s1
  | .disabled => selFailed s1

/-- COMMAND(BYPASS_ON), taken (R103). -/
def bypassOnTaken (k : Grant) (s : State) : State :=
  selCommand k .bypass { s with rgs := { s.rgs with remembered := s.serviceTank, move := .bypassOn } }

/-- The tank BYPASS_OFF chooses (R103, R178). -/
def bypassTarget (s : State) : Option TankId :=
  let first := s.rgs.remembered.getD .a
  if (s.tank first).st = .standby then some first
  else if (s.tank first.other).st = .standby then some first.other
  else none

/-- COMMAND(BYPASS_OFF), taken toward a tank (R103). -/
def bypassOffTaken (k : Grant) (t : TankId) (s : State) : State := selCommand k t.pos (setMove (.bypassOff t) s)

/-! ### Seconds, tank writes and the warm restart -/

/-- The seconds since regeneration of both tanks increase by one (R98). -/
def tanksSecond (s : State) : State :=
  { s with rgs := { s.rgs with
    tankA := { s.rgs.tankA with seconds := satAdd max32 s.rgs.tankA.seconds 1 }
    tankB := { s.rgs.tankB with seconds := satAdd max32 s.rgs.tankB.seconds 1 } } }

/-- One second of the run: a RUNNING step's elapsed seconds (R109), or a hold's, which may reach its limit (R112, R113). -/
def rgsSecond (s : State) : State :=
  let r := s.rgs.run
  match s.rgs.seq with
  | .running => setRegenRun { r with elapsed := satAdd 65535 r.elapsed 1 } s
  | .held =>
    let h := satAdd 65535 r.hold 1
    { s with rgs := { s.rgs with
      run := { r with hold := h }, holdDue := s.rgs.holdDue || decide (s.acc.settings.holdLimit ≤ h) } }
  | _ => s

/-- A tank's state judged afresh by a write (R99). -/
def judgeWrittenTank (s : State) (t : TankId) (nominal remaining : Nat) : TankState :=
  if nominal = 0 then .unconfigured
  else if s.serviceTank = some t then (if 0 < remaining then .service else .exhausted)
  else if s.reserve < remaining then .standby else .exhausted

/-- The seconds since regeneration after a write: a given count above the ceiling of R98 is stored as that ceiling
(assumption 41). -/
def writtenSeconds (c : TankContents) (x : Tank) : Nat := (c.seconds.map (min max32)).getD x.seconds

/-- An accepted write of a tank (R99). -/
def writeTank (t : TankId) (c : TankContents) (s : State) : State :=
  let x := s.tank t
  let remaining := min c.nominal (c.remaining.getD x.remaining)
  setTank t { x with
    nominal := c.nominal, remaining := remaining, seconds := writtenSeconds c x
    st := judgeWrittenTank s t c.nominal remaining } s

/-- The run ended by a warm restart (R118, steps 1 to 3). -/
def rgsRestartRun (s : State) : State :=
  if s.rgs.seq = .queued then keepTank (s.rgs.run.prior.getD .standby) .abandoned s
  else if s.rgs.run.tank.isSome then exhaustTank .abandoned (closeDraw true s)
  else s

/-- RGS at a warm restart (R118). REGEN is raised when the restart ends a run, takes the sequencer to IDLE or sets a
selector move back; one that finds the sequencer IDLE with no move raises nothing (assumption 37). The program snapshot
is left as it stood (DESIGN CHOICE, assumption 58). -/
def rgsRestart (s : State) : State :=
  let s1 := rgsRestartRun s
  raiseIf (decide (s.rgs.seq ≠ .idle ∨ s.rgs.move ≠ .none)) .regen
    { s1 with rgs := { s1.rgs with seq := .idle, run := RegenRun.empty, move := .none, holdDue := false } }

end Sys2Proof.Machine
end

