-- ==== Sys2Proof/Machine/Backwash.lean ====
section
/-! DEFINITION. FLT: stage counters, pressure-drop evaluation, DUE, the backwash demand and the backwash run (R133 to
R146). -/

namespace Sys2Proof.Machine

/-! ### Small parts -/

/-- The backwash enters a state, which raises FILTER (R145). -/
def setFlt (q : SeqState) (s : State) : State := raise .filter { s with flt := { s.flt with st := q } }

/-- Replaces the backwash run. -/
def setBwRun (r : BwRun) (s : State) : State := { s with flt := { s.flt with run := r } }

/-- Replaces one stage. -/
def setStage (i : Fin 4) (x : Stage) (s : State) : State :=
  { s with flt := { s.flt with stages := s.flt.stages.set i x } }

/-- Changes the backwash record. -/
def updateBwRecord (f : BwRecord → BwRecord) (s : State) : State :=
  { s with flt := { s.flt with record := s.flt.record.map f } }

/-- The backwash record takes the end seconds and the outcome. -/
def bwRecordEnd (o : RunOutcome) (s : State) : State :=
  updateBwRecord (fun r => { r with endedAt := some s.mgu.seconds, outcome := some o }) s

/-- A stage record is that of an enabled BACKWASH_MEDIA stage. -/
def recIsMedia (c : StageRec) : Bool := c.enabled && c.kind == .media

/-- The media stage (R133). -/
def State.mediaStage (s : State) : Option (Fin 4) :=
  (List.finRange 4).find? fun i => recIsMedia s.flt.stages[i].conf

/-- A reached limit that may be none. -/
def reached (limit : Option Nat) (unit value : Nat) : Bool :=
  match limit with
  | some l => decide (l * unit ≤ value)
  | none => false

/-- The volume or day limit of R137 is reached. -/
def limitReached (x : Stage) : Bool :=
  reached x.conf.volumeLimit 1 x.volRep || reached x.conf.dayLimit 86400 x.secRep

/-- DUE is set for an enabled stage and raises FILTER (R137). -/
def markDue (i : Fin 4) (s : State) : State :=
  if s.flt.stages[i].conf.enabled && !s.flt.stages[i].due then
    raise .filter (setStage i { s.flt.stages[i] with due := true } s)
  else s

/-- A backwash may be queued (R140). -/
def State.backwashReady (s : State) : Bool :=
  s.flt.demand.isSome && s.flt.st == .idle && s.filterUsable && s.flt.program.toList.any (·.enabled)

/-- The backwash demand set with a cause while it is clear (R140). -/
def setDemand (cause : BwTrigger) (s : State) : State :=
  if s.flt.demand.isNone then
    let s1 := raise .filter { s with flt := { s.flt with demand := some cause } }
    { s1 with flt := { s1.flt with queueDue := s1.backwashReady } }
  else s

/-- The cause for which a demand by volume or days is due (R140); when one judgement finds both reached, VOLUME is the
cause (assumption 38). -/
def demandDue (s : State) : Option BwTrigger :=
  if s.flt.demand.isNone then
    match s.mediaStage with
    | some i =>
      let x := s.flt.stages[i]
      if reached x.conf.bwVolume 1 x.volBw then some .volume
      else if reached x.conf.bwDays 86400 x.secBw then some .days
      else none
    | none => none
  else none

/-- The demand judged by volume and days (R140). -/
def judgeDemand (s : State) : State :=
  match demandDue s with
  | some c => setDemand c s
  | none => s

/-- MEDIA_FOULED set or cleared; a change raises FILTER (R142). -/
def setFouled (b : Bool) (s : State) : State :=
  raiseIf (b != s.flt.fouled) .filter { s with flt := { s.flt with fouled := b } }

/-! ### Counters (R135) and the pressure drop (R136) -/

/-- One enabled stage's volume counters after an increment. -/
def stageVolume (dv : Nat) (x : Stage) : Stage :=
  if x.conf.enabled then { x with volRep := satAdd max40 x.volRep dv, volBw := satAdd max40 x.volBw dv } else x

/-- FLT at an inlet increment (R135). -/
def fltIncrement (dv : Nat) (s : State) : State :=
  { s with flt := { s.flt with stages := Vector.ofFn fun i => stageVolume dv s.flt.stages[i] } }

/-- One enabled stage's seconds counters after a second. -/
def stageSecond (x : Stage) : Stage :=
  if x.conf.enabled then { x with secRep := satAdd max32 x.secRep 1, secBw := satAdd max32 x.secBw 1 } else x

/-- The stage counters at an internal second (R135). -/
def stagesSecond (s : State) : State :=
  { s with flt := { s.flt with stages := Vector.ofFn fun i => stageSecond s.flt.stages[i] } }

/-- dp_norm of a stage, when an evaluation is made for it (R136). -/
def evaluation (s : State) (c : StageRec) : Option Nat :=
  match c.up, c.down, c.dpLimit with
  | some u, some w, some _ =>
    let q := s.estimate flow
    if c.enabled && s.locked flow && decide (c.qMin ≤ q) && s.locked (pressureTracker u) && s.locked (pressureTracker w)
        && s.mainOpen && s.filterAtService then
      some (min 2000 ((s.estimate (pressureTracker u) - s.estimate (pressureTracker w)) * c.qRef / q))
    else none
  | _, _, _ => none

/-- The post-backwash watch judged at an evaluation of the media stage (R142). -/
def judgeWatch (i : Fin 4) (high : Bool) (s : State) : State :=
  if s.flt.watch ∧ s.mediaStage = some i then
    let s1 := setFouled high { s with flt := { s.flt with watch := false } }
    if high then markDue i s1 else s1
  else s

/-- The persistence count after an evaluation (R136). -/
def countAfter (high : Bool) (n : Nat) : Nat := if high then satAdd 255 n 1 else 0

/-- What the evaluation that brings the count to N does (R136). -/
def persisted (i : Fin 4) (s : State) : State :=
  match s.flt.stages[i].conf.kind with
  | .cartridge => markDue i s
  | .media => if s.flt.fouled then s else setDemand .pressure s

/-- The pressure-drop evaluation of one stage (R136): the watch is judged before the count (assumption 14). -/
def evaluateStage (i : Fin 4) (s : State) : State :=
  let x := s.flt.stages[i]
  match evaluation s x.conf with
  | none => s
  | some dp =>
    let high := decide (x.conf.dpLimit.getD 2000 < dp)
    let s1 := setStage i { x with lastDp := some dp, dpCount := countAfter high x.dpCount } s
    let s2 := judgeWatch i high s1
    if high ∧ x.dpCount + 1 = x.conf.persistence then persisted i s2 else s2

/-- FLT at an update of FLOW (R136). -/
def fltFlowUpdate (s : State) : State := (List.finRange 4).foldl (fun s i => evaluateStage i s) s

/-! ### The run (R141 to R144) -/

/-- The current step of the backwash's snapshot. -/
def State.bwStep (s : State) : Option BackwashStep := s.flt.run.step.map fun i => s.flt.snapshot[i]

/-- The first enabled step of a backwash program from the index `lo` on. -/
def firstBwStep (p : Vector BackwashStep 4) (lo : Nat) : Option (Fin 4) :=
  (List.finRange 4).find? fun i => decide (lo ≤ i.val) && p[i].enabled

/-- The enabled step after the current one (R142). -/
def State.nextBwStep (s : State) : Option (Fin 4) :=
  firstBwStep s.flt.snapshot (match s.flt.run.step with | some i => i.val + 1 | none => 0)

/-- A new backwash record (R141, R145). -/
def newBwRecord (st : Fin 4) (trig : BwTrigger) (seconds : Nat) : BwRecord :=
  { stage := st, trigger := trig, queuedAt := seconds, startedAt := none, endedAt := none, outcome := none
    stepsDone := 0 }

/-- Queueing a backwash of the media stage (R141). -/
def fltQueue (k : Grant) (st : Fin 4) (trig : BwTrigger) (s : State) : State :=
  let s1 := setBwRun { BwRun.empty with stage := some st, trigger := some trig } s
  drainRequest k .backwash
    (setFlt .queued { s1 with flt := { s1.flt with record := some (newBwRecord st trig s.mgu.seconds) } })

/-- A RUNNING step is stopped: the report to DRA (R142, R143, R144). -/
def stopBwStep (s : State) : State := if s.flt.st = .running then allowanceReport .backwash none s else s

/-- The backwash becomes IDLE with no run. -/
def bwIdle (s : State) : State := setFlt .idle (setBwRun BwRun.empty s)

/-- The since-backwash counters and the persistence count of a stage become 0 (R138, R142). -/
def clearBwCounters (x : Stage) : Stage := { x with volBw := 0, secBw := 0, dpCount := 0 }

/-- Completion: the counters of the stage, the demand, the watch, the record (R142, steps 1 to 3). -/
def bwRestore (s : State) : State :=
  let s1 := match s.flt.run.stage with
    | some i => setStage i (clearBwCounters s.flt.stages[i]) s
    | none => s
  bwRecordEnd .complete { s1 with flt := { s1.flt with demand := none, watch := true } }

/-- The rotor has parked at SERVICE (R142, R143). -/
def bwParkDone (k : Grant) (s : State) : State :=
  if s.flt.run.decided then bwIdle s else bwIdle (drainRelease k .backwash (bwRestore s))

/-- The backwash ends FAULTED (R144). -/
def bwFault (k : Grant) (s : State) : State :=
  bwIdle (drainRelease k .backwash (bwRecordEnd .faulted (stopBwStep s)))

/-- A fault notice or a refusal of the FILTER_ROTOR (R143, R144). -/
def bwRotorFailed (k : Grant) (s : State) : State :=
  match s.flt.st with
  | .idle => s
  | .queued => s
  | .positioning => bwFault k s
  | .running => bwFault k s
  | .held => bwFault k s
  | .parking => if s.flt.run.decided then bwIdle s else bwFault k s

/-- HELD entered, the phase interrupted kept (R143). -/
def enterBwHeld (phase : SeqState) (s : State) : State :=
  let s1 := stopBwStep s
  setFlt .held { s1 with flt := { s1.flt with
    run := { s1.flt.run with hold := 0, interrupted := some phase }, holdDue := false } }

/-- FLT when the main leaves OPEN or the field link becomes FIELD_STALE (R143). -/
def fltHold (s : State) : State :=
  match s.flt.st with
  | .positioning => enterBwHeld .positioning s
  | .running => enterBwHeld .running s
  | _ => s

/-- A completion of the FILTER_ROTOR naming `p` (R142). -/
def bwRotorDone (k : Grant) (p : Pos) (s : State) : State :=
  match s.flt.st with
  | .positioning =>
    match s.bwStep with
    | some x =>
      if backwashPos x.pos = p then
        (if s.supplied then setFlt .running (allowanceReport .backwash (some x.allowance) s)
         else enterBwHeld .running s)
      else s
    | none => s
  | .parking => if p = .service then bwParkDone k s else s
  | _ => s

/-- The FILTER_ROTOR requested toward a position, the answer given at once met (R63, R142, R144). -/
def bwRotorAsk (k : Grant) (p : Pos) (s : State) : State :=
  let s1 := actRequest .filterRotor p s
  match s.answer .filterRotor p with
  | .moving => s1
  | .completed => bwRotorDone k p s1
  | .faulted => bwRotorFailed k s1
  | .disabled => bwRotorFailed k s1

/-- The rotor requested toward the current step's position. -/
def askBwStep (k : Grant) (s : State) : State :=
  match s.bwStep with
  | some x => bwRotorAsk k (backwashPos x.pos) s
  | none => s

/-- POSITIONING entered for the current step, or HELD in its place (R141, R143). -/
def enterBwPositioning (k : Grant) (s : State) : State :=
  if s.supplied then askBwStep k (setFlt .positioning s) else enterBwHeld .positioning s

/-- PARKING entered: the rotor is requested toward SERVICE (R142, R143). The elapsed and the hold seconds keep their last
values while there is no step (DESIGN CHOICE, assumption 57). -/
def startBwParking (k : Grant) (decided : Bool) (s : State) : State :=
  bwRotorAsk k .service (setFlt .parking (setBwRun { s.flt.run with step := none, decided := decided } s))

/-- A step taken from its start (R141, R142). -/
def takeBwStep (k : Grant) (i : Fin 4) (s : State) : State :=
  enterBwPositioning k (setBwRun { s.flt.run with step := some i, elapsed := 0 } s)

/-- FLT at the grant of the drain line (R141). -/
def fltGranted (k : Grant) (s : State) : State :=
  if s.flt.st = .queued then
    let s1 := updateBwRecord (fun r => { r with startedAt := some s.mgu.seconds })
      { s with flt := { s.flt with snapshot := s.flt.program } }
    match firstBwStep s1.flt.snapshot 0 with
    | some i => takeBwStep k i s1
    | none => bwIdle (bwRecordEnd .cancelled (drainRelease k .backwash s1))
  else drainRelease k .backwash s

/-- A RUNNING step has reached its duration (R142). -/
def bwStepEndDue (s : State) : Bool :=
  s.flt.st == .running && (match s.bwStep with | some x => decide (x.duration ≤ s.flt.run.elapsed) | none => false)

/-- The end of a RUNNING step (R142). -/
def endBwStep (k : Grant) (s : State) : State :=
  let s1 := raise .filter (updateBwRecord (fun r => { r with stepsDone := r.stepsDone + 1 }) (stopBwStep s))
  match s1.nextBwStep with
  | some i => takeBwStep k i s1
  | none => startBwParking k false s1

/-- FLT when the main is OPEN and the field link FRESH (R143). The hold seconds keep their last value after a resume (DESIGN
CHOICE, assumption 57). -/
def fltResume (k : Grant) (s : State) : State :=
  if s.flt.st = .held ∧ s.supplied then askBwStep k (setFlt .positioning s) else s

/-- The fault FLT_ABANDONED offered, with the stage of the run as source index (R143). -/
def offerFlt (s : State) : State :=
  match s.flt.run.stage with
  | some i => offerFault .fltAbandoned i.val
      (detailBytes (stepByte s.flt.run.step) (toByte (seqCode (s.flt.run.interrupted.getD .held)))) s
  | none => s

/-- The hold has reached its limit and the backwash is abandoned (R143). -/
def bwAbandon (k : Grant) (s : State) : State :=
  startBwParking k true (drainRelease k .backwash (offerFlt (bwRecordEnd .abandoned s)))

/-- A displacement notice naming `at?`, or a reset notice, of the FILTER_ROTOR (R144). -/
def bwRotorMoved (k : Grant) (reset : Bool) (at? : Option Pos) (s : State) : State :=
  match s.flt.st with
  | .running => enterBwPositioning k (stopBwStep s)
  | .positioning => askBwStep k s
  | .parking => bwRotorAsk k .service s
  | .held => s
  | .idle => if !reset && at? != some .service then actRequest .filterRotor .service s else s
  | .queued => if !reset && at? != some .service then actRequest .filterRotor .service s else s

/-- An adoption of the FILTER_ROTOR (R144). -/
def bwRotorAdopted (p : Pos) (s : State) : State :=
  if (s.flt.st = .idle ∨ s.flt.st = .queued) ∧ p ≠ .service then actRequest .filterRotor .service s else s

/-- A backwash queued for its demand (R140). -/
def queueForDemand (k : Grant) (s : State) : State :=
  let s1 := { s with flt := { s.flt with queueDue := false } }
  match s1.mediaStage, s1.flt.demand with
  | some i, some c => if s1.backwashReady then fltQueue k i c s1 else s1
  | _, _ => s1

/-! ### Commands, writes and restarts -/

/-- COMMAND(FILTER_REPLACED), taken (R138). -/
def filterReplacedTaken (i : Fin 4) (s : State) : State :=
  let x := s.flt.stages[i]
  let s1 := raiseIf x.due .filter
    (setStage i { (if x.conf.kind = .media then clearBwCounters x else x) with
      volRep := 0, secRep := 0, dpCount := 0, due := false } s)
  if recIsMedia x.conf then
    let s2 := setFouled false s1
    { s2 with flt := { s2.flt with demand := none, watch := false } }
  else s1

/-- The record a write of a stage stores: a cartridge holds no backwash fields (R133). -/
def storedStage (c : StageRec) : StageRec :=
  match c.kind with
  | .media => c
  | .cartridge => { c with bwVolume := none, bwDays := none }

/-- The record, counters and persistence count after a write of a stage (R134). -/
def writtenStage (c : StageContents) (x : Stage) : Stage :=
  { x with conf := storedStage c.record, volRep := c.volRep.getD x.volRep, secRep := c.secRep.getD x.secRep
           volBw := c.volBw.getD x.volBw, secBw := c.secBw.getD x.secBw, dpCount := 0, lastDp := none }

/-- DUE judged afresh by a write (R134, R137). -/
def dueAfresh (i : Fin 4) (s : State) : State :=
  let x := s.flt.stages[i]
  let due := x.conf.enabled && (limitReached x || (recIsMedia x.conf && s.flt.fouled))
  raiseIf (due != x.due) .filter (setStage i { x with due := due } s)

/-- An accepted write of a stage (R134). -/
def writeStage (i : Fin 4) (c : StageContents) (s : State) : State :=
  let wasMedia := recIsMedia s.flt.stages[i].conf
  let s1 := setStage i (writtenStage c s.flt.stages[i]) s
  let s2 := if wasMedia && !recIsMedia s1.flt.stages[i].conf then
      let s' := setFouled false s1
      { s' with flt := { s'.flt with demand := none, watch := false } }
    else s1
  let s3 := dueAfresh i s2
  if recIsMedia s3.flt.stages[i].conf then judgeDemand s3 else s3

/-- One second of the backwash run (R142, R143). -/
def fltSecond (s : State) : State :=
  let r := s.flt.run
  match s.flt.st with
  | .running => setBwRun { r with elapsed := satAdd 65535 r.elapsed 1 } s
  | .held =>
    let h := satAdd 65535 r.hold 1
    { s with flt := { s.flt with
      run := { r with hold := h }, holdDue := s.flt.holdDue || decide (s.acc.settings.holdLimit ≤ h) } }
  | _ => s

/-- The internal second's judgement of whether a backwash is to be queued (R140). -/
def queueSecond (s : State) : State :=
  { s with flt := { s.flt with queueDue := s.flt.queueDue || s.backwashReady } }

/-- The run ended by a warm restart (R146). -/
def fltRestartRun (s : State) : State :=
  if s.flt.st = .idle ∨ s.flt.run.decided then s else bwRecordEnd .abandoned s

/-- FLT at a warm restart (R146). The program snapshot is left as it stood (DESIGN CHOICE, assumption 58). -/
def fltRestart (s : State) : State :=
  let s1 := fltRestartRun s
  raiseIf (decide (s.flt.st ≠ .idle)) .filter
    { s1 with flt := { s1.flt with
      st := .idle, run := BwRun.empty, queueDue := false, holdDue := false
      stages := Vector.ofFn fun i => { s1.flt.stages[i] with lastDp := none } } }

end Sys2Proof.Machine
end

