-- ==== Sys2Proof/Machine/LeakGuard.lean ====
section
/-! DEFINITION. LKG: the main valve state, the leak latch, net flow and draw events, the rules, the zones, field loss and
the decay test (R147 to R165, R179). -/

namespace Sys2Proof.Machine

/-! ### The main valve state (R147) -/

/-- The main valve state changed; a change, of the reason alone too, raises MAIN (R147). -/
def setMain (m : MainState) (s : State) : State :=
  raiseIf (decide (m ≠ s.lkg.main)) .main { s with lkg := { s.lkg with main := m } }

/-- A state other than OPEN entered: on leaving OPEN, RGS and FLT hold their runs (R112, R143, R147). -/
def setMainShut (m : MainState) (s : State) : State :=
  let s1 := setMain m s
  if s.lkg.main = .opened then fltHold (rgsHold s1) else s1

/-- OPEN entered: DRA grants a free line, RGS and FLT resume (R76, R112, R143, R147). -/
def setMainOpen (k : Grant) (s : State) : State :=
  if s.lkg.main = .opened then s else fltResume k (rgsResume k (drainRegrant k (setMain .opened s)))

/-! ### The decay test's endings (R163, R164) -/

/-- The test enters a state, which raises TEST (9.8). -/
def setTest (t : TestState) (s : State) : State :=
  raise .test { s with lkg := { s.lkg with test := { s.lkg.test with st := t } } }

/-- Replaces the decay test. -/
def putTest (t : DecayTest) (s : State) : State := { s with lkg := { s.lkg with test := t } }

/-- Changes the test's result record. -/
def updateTestRecord (f : TestRecord → TestRecord) (s : State) : State :=
  putTest { s.lkg.test with record := s.lkg.test.record.map f } s

/-- A result recorded, which raises TEST (9.8). -/
def setResult (r : TestResult) (s : State) : State :=
  raise .test (updateTestRecord (fun x => { x with result := some r }) s)

/-- The test becomes IDLE, with the end seconds in the record (R163, R164). -/
def testIdle (s : State) : State :=
  let s1 := updateTestRecord (fun x => { x with endedAt := some s.mgu.seconds }) s
  setTest .idle (putTest { s1.lkg.test with timer := none } s1)

/-- The line released, or the request withdrawn, and the test IDLE (R164). -/
def testRelease (k : Grant) (s : State) : State := testIdle (drainRelease k .test s)

/-- The test holds the drain line: it is past WAITING (R162). -/
def State.testPastWaiting (s : State) : Bool := s.lkg.test.st != .idle && s.lkg.test.st != .waiting

/-- The test ended without reopening: the rows of R164 for CLOSE_MAIN and for a latch set. A result decided already is
kept in REOPENING. -/
def testStop (k : Grant) (r : TestResult) (s : State) : State :=
  match s.lkg.test.st with
  | .idle => s
  | .reopening => testRelease k s
  | _ => testRelease k (setResult r s)

/-- The test ended by a notice of MAIN (R164). -/
def testValve (k : Grant) (s : State) : State := if s.testPastWaiting then testStop k .abortedValve s else s

/-! ### Requests of MAIN (R148, R149, R151) -/

/-- A request that ACT has refused (R148), and the test's part in it (R164). -/
def mainRefused (k : Grant) (a : Answer) (s : State) : State :=
  testValve k (setMainShut (if a = .disabled then .unknown else .fault) s)

/-- MAIN requested toward CLOSED for a reason (R149, R151, R152, R162). -/
def closeMainFor (k : Grant) (r : CloseReason) (s : State) : State :=
  let s1 := actRequest .main .mainClosed s
  match s.answer .main .mainClosed with
  | .moving => setMainShut (.closing r) s1
  | .completed => setMainShut (.closed r) s1
  | .faulted => mainRefused k .faulted s1
  | .disabled => mainRefused k .disabled s1

/-- MAIN requested toward OPEN (R150, R163). -/
def openMainAsk (k : Grant) (s : State) : State :=
  let s1 := actRequest .main .mainOpen s
  match s.answer .main .mainOpen with
  | .moving => setMainShut .opening s1
  | .completed => setMainOpen k s1
  | .faulted => mainRefused k .faulted s1
  | .disabled => mainRefused k .disabled s1

/-- The main is closed by state when the latch is set (table of R151). -/
def latchClose (k : Grant) (s : State) : State :=
  match s.lkg.main with
  | .opened => closeMainFor k .leak s
  | .opening => closeMainFor k .leak s
  | .unknown => closeMainFor k .leak s
  | .closing _ => setMainShut (.closing .leak) s
  | .closed _ => setMainShut (.closed .leak) s
  | .fault => s

/-- The latch set, closed by state, and a test ended by it unless the test itself set it (R151, R163, R164). -/
def latchSet (k : Grant) (c : LatchCause) (s : State) : State :=
  if s.lkg.latch.isSome then s
  else
    let s1 := raise .leak { s with lkg := { s.lkg with latch := some { cause := c, seconds := s.mgu.seconds } } }
    let s2 := latchClose k s1
    if c = .testFail then s2 else testStop k .abortedLeak s2

/-- The retry of a latched close: the latch is set and the main is in FAULT or UNKNOWN (R152, R179). -/
def State.retryWanted (s : State) : Bool :=
  s.lkg.latch.isSome && (s.lkg.main == .fault || s.lkg.main == .unknown)

/-- The retry taken (R152, R179). -/
def latchedRetry (k : Grant) (s : State) : State :=
  let s1 := { s with lkg := { s.lkg with retryDue := false } }
  if s1.retryWanted then closeMainFor k .leak s1 else s1

/-! ### The test's course (R161 to R163) -/

/-- SETTLE entered at the completion naming CLOSED (R162). -/
def enterSettle (s : State) : State :=
  setTest .settle (putTest { s.lkg.test with timer := some s.lkg.config.settle } s)

/-- The test goes on from its close when the main stands CLOSED(TEST) (R162). -/
def testClosed (s : State) : State :=
  if s.lkg.test.st = .closing ∧ s.lkg.main = .closed .test then enterSettle s else s

/-- The test ends when the main it reopens is OPEN (R163). -/
def testOpened (k : Grant) (s : State) : State :=
  if s.lkg.test.st = .reopening ∧ s.mainOpen then testRelease k s else s

/-- LKG's test at the grant of the drain line (R161, R162). -/
def testGranted (k : Grant) (s : State) : State :=
  if s.lkg.test.st = .waiting then
    testClosed (closeMainFor k .test (setTest .closing (putTest { s.lkg.test with timer := none } s)))
  else drainRelease k .test s

/-- The start of a test (R161). -/
def testStart (k : Grant) (trig : TestTrigger) (s : State) : State :=
  let rec0 : TestRecord :=
    { trigger := trig, startedAt := s.mgu.seconds, endedAt := none, p0 := none, p1 := none, decay := none,
      failCount := none, result := none }
  drainRequest k .test (setTest .waiting (putTest { s.lkg.test with
    timer := some s.lkg.config.testWindow, p0 := none, previous := none, record := some rec0 } s))

/-- The calendar trigger of the test; one that falls otherwise is lost (R161). -/
def testCalendar (k : Grant) (s : State) : State :=
  let s1 := { s with lkg := { s.lkg with calendarDue := false } }
  if s1.mgu.timeValid ∧ s1.lkg.config.testEnabled ∧ s1.lkg.latch = none ∧ s1.lkg.test.st = .idle then
    testStart k .calendar s1
  else s1

/-- REOPENING entered: MAIN is requested toward OPEN (R163). -/
def testReopen (k : Grant) (s : State) : State :=
  testOpened k (openMainAsk k (setTest .reopening (putTest { s.lkg.test with timer := none } s)))

/-- The test ended early with a reopening (R164). -/
def testAbortReopen (k : Grant) (r : TestResult) (s : State) : State := testReopen k (setResult r s)

/-- The test at the staleness notice (R164). -/
def testStale (k : Grant) (s : State) : State :=
  match s.lkg.test.st with
  | .idle => s
  | .reopening => s
  | .waiting => testRelease k (setResult .abortedStale s)
  | _ => testAbortReopen k .abortedStale s

/-- A timer of the test has expired in a state. -/
def State.testExpired (s : State) (t : TestState) : Bool := s.lkg.test.st == t && s.lkg.test.timer == some 0

/-- The window timer's expiry (R161). -/
def testWindow (k : Grant) (s : State) : State := testIdle (setResult .skipped (drainRelease k .test s))

/-- MEASURE entered with p0 (R162). -/
def enterMeasure (s : State) : State :=
  let p := s.estimate pHouse
  setTest .measure (updateTestRecord (fun x => { x with p0 := some p })
    (putTest { s.lkg.test with timer := some s.lkg.config.measure, p0 := some p, previous := some p } s))

/-- The settle timer's expiry (R162). -/
def testSettled (k : Grant) (s : State) : State :=
  if s.locked pHouse then enterMeasure s else testAbortReopen k .abortedUnstable s

/-- The check of one second in MEASURE (R162). -/
def measureCheck (k : Grant) (s : State) : State :=
  if s.locked pHouse then
    if s.lkg.config.demand < s.lkg.test.previous.getD 0 - s.estimate pHouse then testAbortReopen k .abortedDemand s
    else putTest { s.lkg.test with previous := some (s.estimate pHouse) } s
  else testAbortReopen k .abortedUnstable s

/-- One second in MEASURE (R162). In the last second the check comes before the expiry or not at all, as the free
choice says (assumption 3). -/
def measureSecond (k : Grant) (s : State) : State :=
  let s1 := putTest { s.lkg.test with timer := tick s.lkg.test.timer } s
  if s1.lkg.test.timer = some 0 then
    let s2 := { s1 with choices := s1.choices + 1 }
    if Config.checkBeforeExpiry s1.choices then measureCheck k s2 else s2
  else measureCheck k s1

/-- The test's timers at an internal second (R161, R162). -/
def testSecond (k : Grant) (s : State) : State :=
  match s.lkg.test.st with
  | .measure => measureSecond k s
  | .waiting | .settle => putTest { s.lkg.test with timer := tick s.lkg.test.timer } s
  | _ => s

/-- The result decided at the measure expiry: the fail count, the record (R163). -/
def decideTest (s : State) : State :=
  let p1 := s.estimate pHouse
  let d := s.lkg.test.p0.getD 0 - p1
  let fail := decide (s.lkg.config.decay < d)
  let n := if fail then satAdd 255 s.lkg.test.failCount 1 else 0
  setResult (if fail then .fail else .pass)
    (updateTestRecord (fun x => { x with p1 := some p1, decay := some d, failCount := some n })
      (putTest { s.lkg.test with timer := none, failCount := n } s))

/-- A FAIL shuts the supply (R163). -/
def failShuts (s : State) : Bool :=
  (match s.lkg.test.record with | some r => r.result == some .fail | none => false)
    && decide (s.lkg.config.failToShut ≠ 0 ∧ s.lkg.config.failToShut ≤ s.lkg.test.failCount)

/-- The measure timer's expiry (R162, R163). -/
def testMeasured (k : Grant) (s : State) : State :=
  if s.locked pHouse then
    let s1 := decideTest s
    if failShuts s1 then testRelease k (latchSet k .testFail s1) else testReopen k s1
  else testAbortReopen k .abortedUnstable s

/-! ### Notices of MAIN (R148) -/

/-- A completion of MAIN naming `p` (R148, R162, R163). -/
def mainDone (k : Grant) (p : Pos) (s : State) : State :=
  match p, s.lkg.main with
  | .mainClosed, .closing r => testClosed (setMainShut (.closed r) s)
  | .mainOpen, .opening => testOpened k (setMainOpen k s)
  | _, _ => s

/-- A fault notice of MAIN (R148, R164). -/
def mainFault (k : Grant) (s : State) : State := testValve k (setMainShut .fault s)

/-- MAIN found OPEN by a displacement or an adoption (R148). -/
def mainFoundOpen (k : Grant) (s : State) : State :=
  if s.lkg.latch.isSome then closeMainFor k .leak s else setMainOpen k s

/-- MAIN found CLOSED by a displacement or an adoption (R148). -/
def mainFoundClosed (s : State) : State :=
  setMainShut (.closed (if s.lkg.latch.isSome then .leak else .manual)) s

/-- A displacement notice of MAIN (R148, R164). -/
def mainDisplaced (k : Grant) (at? : Option Pos) (s : State) : State :=
  testValve k (match at? with
    | some .mainOpen => mainFoundOpen k s
    | some .mainClosed => mainFoundClosed s
    | _ => setMainShut .unknown s)

/-- A reset notice of MAIN (R148, R164). -/
def mainReset (k : Grant) (s : State) : State := testValve k (setMainShut .unknown s)

/-- An adoption of MAIN (R148). -/
def mainAdopted (k : Grant) (p : Pos) (s : State) : State :=
  if p = .mainOpen then mainFoundOpen k s else mainFoundClosed s

/-! ### Net flow and draw events (R153) -/

/-- q_net (R153). -/
def State.netFlow (s : State) : Nat := s.estimate flow - s.drain.allowance

/-- The net volume of an increment (R153). -/
def netVolume (dv aVol : Nat) : Nat := dv - min dv aVol

/-- The draw event after an increment with a net volume (R153). -/
def drawAfter (now net : Nat) (e : Option DrawEvent) : DrawEvent :=
  match e with
  | some x => { x with volume := satAdd max40 x.volume net, idle := 0 }
  | none => { start := now, volume := satAdd max40 0 net, idle := 0 }

/-- The draw event's part of an increment (R153). -/
def drawIncrement (net : Nat) (s : State) : State :=
  if 0 < net then
    { s with lkg := { s.lkg with event := some (drawAfter s.mgu.seconds net s.lkg.event), drawDue := false } }
  else s

/-- The draw event at an internal second (R153). -/
def drawSecond (s : State) : State :=
  match s.lkg.event with
  | some x =>
    let n := satAdd max32 x.idle 1
    { s with lkg := { s.lkg with
      event := some { x with idle := n }, drawDue := s.lkg.drawDue || decide (s.lkg.config.gap ≤ n) } }
  | none => s

/-! ### Rules (R155 to R157) -/

/-- Replaces one rule. -/
def setRule (i : Fin 16) (x : Rule) (s : State) : State := { s with lkg := { s.lkg with rules := s.lkg.rules.set i x } }

/-- A rule is inside its active hours (R155). -/
def insideHours (c : LeakRule) (hour : Option Nat) : Bool :=
  match hour with
  | some h => c.hours.getLsbD h
  | none => true

/-- ARMED, or DORMANT outside the active hours, with the timer at 0 (R152, R154, R155). -/
def rearmed (hour : Option Nat) (x : Rule) : Rule :=
  { x with st := if insideHours x.conf hour then .armed else .dormant, timer := 0 }

/-- One rule's judgement of its active hours (R155). -/
def judgeHours (hour : Option Nat) (x : Rule) : Rule :=
  if x.conf.enabled then
    if insideHours x.conf hour then (if x.st = .dormant then { x with st := .armed } else x)
    else
      match x.st with
      | .tripped => if x.conf.action = .shut then x else { x with st := .dormant, timer := 0 }
      | _ => { x with st := .dormant, timer := 0 }
  else x

/-- A rate kind (R156). -/
def RuleState.watching : RuleState → Bool
  | .armed | .timing => true
  | _ => false

/-- The condition of a rate rule, none for another kind (R156). -/
def rateCondition (c : LeakRule) (q : Nat) : Option Bool :=
  match c.kind with
  | .continuous => some (decide (c.rateLo ≤ q))
  | .trickle => some (decide (c.rateLo ≤ q ∧ q ≤ c.rateHi))
  | _ => none

/-- One rate rule's judgement with FLOW LOCKED at the net flow `q` (R156, R157). The trip is the command
RULE_TIMER_TRIP. -/
def judgeRate (q : Nat) (x : Rule) : Rule :=
  match rateCondition x.conf q with
  | none => x
  | some holds =>
    if x.st.watching then
      if holds then { x with st := .timing, timer := satAdd 65535 x.timer 1 } else { x with st := .armed, timer := 0 }
    else if x.st = .tripped ∧ x.conf.action = .notify ∧ !holds then { x with st := .armed, timer := 0 }
    else x

/-- All rules at an internal second: the hours, then the rate conditions (R155, R156). -/
def rulesSecond (s : State) : State :=
  { s with lkg := { s.lkg with rules := Vector.ofFn fun i =>
      let x := judgeHours s.hour s.lkg.rules[i]
      if x.conf.enabled && s.locked flow then judgeRate s.netFlow x else x } }

/-- A rate rule whose timer has reached its duration (R156). -/
def ruleTripDue (x : Rule) : Bool :=
  x.conf.enabled && x.st == .timing && (x.conf.kind == .continuous || x.conf.kind == .trickle)
    && decide (x.conf.duration ≤ x.timer)

/-- A trip (R157). -/
def tripRule (k : Grant) (i : Fin 16) (s : State) : State :=
  let x := s.lkg.rules[i]
  let s1 := raise .leak (setRule i
    { x with st := .tripped, lastTrip := some s.mgu.seconds, trips := satAdd 255 x.trips 1 } s)
  if x.conf.action = .shut then latchSet k (.rule i) s1 else s1

/-- The active draw event's net volume has reached a rule's limit (R157). -/
def eventReached (s : State) (c : LeakRule) : Bool :=
  match s.lkg.event with
  | some e => decide (c.volume ≤ e.volume)
  | none => false

/-- An EVENT_VOLUME rule judged at an inlet increment (R157). -/
def judgeEventRule (k : Grant) (i : Fin 16) (s : State) : State :=
  let x := s.lkg.rules[i]
  if x.conf.enabled ∧ x.conf.kind = .eventVolume ∧ x.st = .armed ∧ eventReached s x.conf then tripRule k i s else s

/-- A zone has the condition a rule of a kind watches (R157). -/
def zoneShows (kind : RuleKind) (z : Zone) : Bool :=
  match kind with
  | .moisture => z.wet
  | .silence => z.silent
  | _ => false

/-- The condition of a MOISTURE or SILENCE rule (R157). -/
def zoneCondition (s : State) (c : LeakRule) : Bool :=
  match c.zone with
  | some z => if h : z < 8 then zoneShows c.kind s.lkg.zones[z] else false
  | none => s.lkg.zones.toList.any (zoneShows c.kind)

/-- A MOISTURE or SILENCE rule judged (R157). -/
def judgeZoneRule (k : Grant) (i : Fin 16) (s : State) : State :=
  let x := s.lkg.rules[i]
  if x.conf.enabled ∧ (x.conf.kind = .moisture ∨ x.conf.kind = .silence) then
    if x.st = .armed ∧ zoneCondition s x.conf then tripRule k i s
    else if x.st = .tripped ∧ x.conf.action = .notify ∧ !zoneCondition s x.conf then
      setRule i { x with st := .armed, timer := 0 } s
    else s
  else s

/-- All MOISTURE and SILENCE rules judged, in index order (R157). -/
def judgeZoneRules (k : Grant) (s : State) : State := (List.finRange 16).foldl (fun s i => judgeZoneRule k i s) s

/-- LKG at an inlet increment (R153, R157). -/
def lkgIncrement (k : Grant) (dv aVol : Nat) (s : State) : State :=
  (List.finRange 16).foldl (fun s i => judgeEventRule k i s) (drawIncrement (netVolume dv aVol) s)

/-- A TRIPPED NOTIFY rule of kind EVENT_VOLUME at the end of the draw event (R157). -/
def eventEnded (x : Rule) : Rule :=
  if x.conf.enabled ∧ x.conf.kind = .eventVolume ∧ x.conf.action = .notify ∧ x.st = .tripped then
    { x with st := .armed, timer := 0 }
  else x

/-- The draw event ended by its gap (R153, R157). -/
def endDraw (s : State) : State :=
  match s.lkg.event with
  | some e =>
    { s with lkg := { s.lkg with
      event := none, drawDue := false
      lastEvent := some { start := e.start, volume := e.volume, ended := s.mgu.seconds }
      rules := Vector.ofFn fun i => eventEnded s.lkg.rules[i] } }
  | none => { s with lkg := { s.lkg with drawDue := false } }

/-- COMMAND(CLEAR_LEAK_LATCH) with the latch set (R152). -/
def clearLatch (s : State) : State :=
  raise .leak { s with lkg := { s.lkg with
    latch := none
    test := { s.lkg.test with failCount := 0 }
    rules := Vector.ofFn fun i =>
      let x := s.lkg.rules[i]
      if x.st = .tripped ∧ x.conf.action = .shut then rearmed s.hour x else x } }

/-- An accepted write of a leak rule (R154). -/
def writeRule (i : Fin 16) (c : LeakRule) (s : State) : State :=
  setRule i
    (if c.enabled then rearmed s.hour { conf := c, st := .armed, timer := 0, trips := 0, lastTrip := none }
     else { conf := c, st := .armed, timer := 0, trips := 0, lastTrip := none }) s

/-! ### Zones (R158, R159) -/

/-- Replaces one zone record. -/
def setZone (i : Fin 8) (z : Zone) (s : State) : State := { s with lkg := { s.lkg with zones := s.lkg.zones.set i z } }

/-- An enabled window takes an address (R158). -/
def windowTakes (w : ZoneWindow) (addr : Nat) : Bool :=
  w.enabled && decide (Nat.land addr w.mask = Nat.land w.base w.mask)

/-- The zone of an address: that of the lowest-index enabled window that takes it (R158). -/
def zoneOf (s : State) (addr : Nat) : Option Nat :=
  ((List.finRange 8).find? fun i => windowTakes s.lkg.windows[i] addr).map fun i => s.lkg.windows[i].zone

/-- A report to a zone (R159). -/
def zoneReport (k : Grant) (i : Fin 8) (low : Nat) (s : State) : State :=
  let z := s.lkg.zones[i]
  let wet := low.testBit 0
  let bat := low.testBit 1
  let tam := low.testBit 2
  judgeZoneRules k (raiseIf (wet != z.wet || bat != z.lowBattery || tam != z.tamper || z.silent) .zone
    (setZone i { wet := wet, lowBattery := bat, tamper := tam, lastReport := s.mgu.seconds, reported := true
                 silent := false, silentDue := false } s))

/-- A moisture sample: the high byte is the sensor address, the low byte its flags (R158). -/
def moistureSample (k : Grant) (v : Nat) (s : State) : State :=
  match zoneOf s (v / 256 % 256) with
  | some z => if h : z < 8 then zoneReport k ⟨z, h⟩ (v % 256) s else s
  | none => raise .zone { s with lkg := { s.lkg with unknownSensor := true, lastUnknown := some (v / 256 % 256) } }

/-- An enabled window maps to a zone (R159). -/
def zoneMapped (s : State) (i : Fin 8) : Bool := s.lkg.windows.toList.any fun w => w.enabled && w.zone == i.val

/-- A zone is silent (R159). -/
def zoneSilentNow (s : State) (i : Fin 8) : Bool :=
  match s.lkg.config.silence with
  | some limit => zoneMapped s i && s.link.fieldFresh
      && decide (limit < secondsSince s.mgu.seconds s.lkg.zones[i].lastReport)
  | none => false

/-- One zone's judgement of SILENT at an internal second (R159): set by the command ZONE_SILENT, cleared here. -/
def zoneSecond (s : State) (i : Fin 8) : Zone :=
  let z := s.lkg.zones[i]
  if zoneSilentNow s i then { z with silentDue := z.silentDue || !z.silent } else { z with silent := false, silentDue := false }

/-- SILENT judged for every zone at an internal second (R159). -/
def zonesSecond (s : State) : State :=
  raiseIf ((List.finRange 8).any fun i => (zoneSecond s i).silent != s.lkg.zones[i].silent) .zone
    { s with lkg := { s.lkg with zones := Vector.ofFn fun i => zoneSecond s i } }

/-- A zone becomes SILENT (R157, R159). -/
def silentTaken (k : Grant) (i : Fin 8) (s : State) : State :=
  judgeZoneRules k (raise .zone (setZone i { s.lkg.zones[i] with silent := true, silentDue := false } s))

/-- Every zone's last report set to the present internal seconds (R159). The mark that a report was received and SILENT stay,
over a warm restart too (DESIGN CHOICE, assumption 59). -/
def zonesReported (s : State) : State :=
  { s with lkg := { s.lkg with
    zones := Vector.ofFn fun i => { s.lkg.zones[i] with lastReport := s.mgu.seconds, silentDue := false } } }

/-! ### Field loss (R160) and the notices of staleness and freshness -/

/-- The field-loss timer at an internal second (R160). -/
def lossSecond (s : State) : State :=
  if s.link.fieldFresh then s
  else
    let n := satAdd max32 s.lkg.lossTimer 1
    let limit := s.lkg.config.staleShut
    { s with lkg := { s.lkg with
      lossTimer := n, lostDue := s.lkg.lostDue || (decide (limit ≠ 0 ∧ limit ≤ n) && !s.lkg.lostDone) } }

/-- The field is lost (R160). -/
def fieldLostTaken (k : Grant) (s : State) : State :=
  let t := s.lkg.config.staleShut
  offerFault .fieldLost 0 (detailBytes (toByte (t / 256)) (toByte t))
    (latchSet k .fieldLost { s with lkg := { s.lkg with lostDue := false, lostDone := true } })

/-- LKG at the staleness notice (R160, R164). -/
def lkgStale (k : Grant) (s : State) : State :=
  testStale k { s with lkg := { s.lkg with lossTimer := 0, lostDue := false, lostDone := false } }

/-- LKG at the freshness notice (R159, R160). The setting of the last reports is no event at which MOISTURE and SILENCE
rules are judged (assumption 39). -/
def lkgFresh (s : State) : State := zonesReported { s with lkg := { s.lkg with lostDue := false } }

/-- The retry of a latched close judged at an internal second (R152, R179). -/
def retrySecond (s : State) : State := { s with lkg := { s.lkg with retryDue := s.retryWanted } }

/-! ### Commands (R149, R150, R164) and the warm restart -/

/-- CLOSE_MAIN's act on the main (table of R149). -/
def closeMainAct (k : Grant) (s : State) : State :=
  match s.lkg.main with
  | .opened => closeMainFor k .manual s
  | .opening => closeMainFor k .manual s
  | .unknown => closeMainFor k .manual s
  | .closing .test => setMainShut (.closing .manual) s
  | .closed .test => setMainShut (.closed .manual) s
  | _ => s

/-- COMMAND(CLOSE_MAIN)'s effect: the main, then the test (R149, R164). -/
def closeMainTaken (k : Grant) (s : State) : State := testStop k .abortedManual (closeMainAct k s)

/-- COMMAND(ABORT_LEAK_TEST)'s effect (R164). -/
def abortTest (k : Grant) (s : State) : State :=
  match s.lkg.test.st with
  | .idle => s
  | .reopening => s
  | .waiting => testRelease k (setResult .abortedManual s)
  | _ => testAbortReopen k .abortedManual s

/-- A rule at a warm restart (R155). A rule that stays TRIPPED keeps its timer (DESIGN CHOICE, assumption 60). -/
def ruleRestart (latched : Bool) (hour : Option Nat) (x : Rule) : Rule :=
  if x.conf.enabled then
    if x.st = .tripped ∧ x.conf.action = .shut ∧ latched then x else rearmed hour x
  else x

/-- A test in progress ended by a warm restart (R164). -/
def testRestart (s : State) : State :=
  if s.lkg.test.st = .idle then s else testIdle (setResult .abortedManual s)

/-- LKG at a warm restart (R147, R153, R155, R159, R164, R165). -/
def lkgRestart (s : State) : State :=
  let s1 := zonesReported (testRestart (setMain .unknown s))
  { s1 with lkg := { s1.lkg with
    event := none, drawDue := false, retryDue := false
    rules := Vector.ofFn fun i => ruleRestart s1.lkg.latch.isSome s1.hour s1.lkg.rules[i] } }

end Sys2Proof.Machine
end

