-- ==== Sys2Proof/Machine/Grants.lean ====
section
/-! DEFINITION. What each requester of the drain line does at its grant (R108, R141, R162). A grant may end at once in a
release, and the release grants the next requester, so the definition recurses; the recursion is bounded (assumption 4). -/

namespace Sys2Proof.Machine

/-- The grant of the drain line to a requester, nested at most as deep as the bound. -/
def granted : Nat → Grant
  | 0, _, s => s
  | n + 1, .regen, s => rgsGranted (granted n) s
  | n + 1, .backwash, s => fltGranted (granted n) s
  | n + 1, .test, s => testGranted (granted n) s

/-- The grant as every event and command makes it. -/
def onGrant : Grant := granted 16

end Sys2Proof.Machine
end

