-- ==== Sys2Proof/Machine/Results.lean ====
section
/-! DEFINITION. A channel's publication: ACC's inlet and brine results with their increments and notices, the trackers,
and FLT at an update of FLOW (R35, R43, R53, R82, R85, R92, R93). -/

namespace Sys2Proof.Machine

/-- A reserve notice and then an exhaustion notice, as they are due (R92). -/
def giveNotices (n : Option (TankId × Bool × Bool)) (s : State) : State :=
  match n with
  | some (t, reserve, exhausted) =>
    let s1 := if reserve then reserveNotice onGrant t s else s
    if exhausted then exhaustionNotice onGrant t s1 else s1
  | none => s

/-- The load ΔL of an inlet result, the hardness stage being done (R90). -/
def State.load (s : State) (dvt : Nat) : Nat := dvt * s.acc.hc

/-- An inlet result through its stages, in the order of R82. -/
def inletResult (r : ChanResult) (s : State) : State :=
  let dv := s.inletVolume r.z
  let aVol := s.allowanceVolume r.e
  let dvt := treatedVolume dv aVol s.drain.kind
  let s1 := hardnessStage (allowanceStage r.e (volumeStage r.z s))
  let s2 := chargeStage dvt s1
  let s3 := fltIncrement dv (lkgIncrement onGrant dv aVol s2)
  giveNotices (noticesAfter (s1.load dvt) s2) s3

/-- A brine increment handed to RGS, SLT and the draw accumulator by its phase (R93, R94, R126). -/
def brineIncrement (phase : BrinePhase) (dv : Nat) (s : State) : State :=
  let s1 := rgsIncrement dv s
  match phase with
  | .none => s1
  | .draw => accumulate dv s1
  | .refill => refillIncrement dv s1

/-- A brine result (R93). -/
def brineResult (r : ChanResult) (s : State) : State :=
  brineIncrement s.acc.phase (s.brineVolume r.z) (brineStage r.z s)

/-- ACC takes a result of its inlet channel (R82). -/
def toInlet (ch : Fin 8) (m : ChannelMode) (r : ChanResult) (s : State) : State :=
  if s.acc.settings.inlet = some ch.val ∧ s.takesInlet m then inletResult r s else s

/-- ACC takes a result of its brine channel (R93). -/
def toBrine (ch : Fin 8) (m : ChannelMode) (r : ChanResult) (s : State) : State :=
  if s.acc.settings.brine = some ch.val ∧ s.takesBrine m then brineResult r s else s

/-- A tracker takes a result of its source channel; an update of FLOW is handed to FLT (R43, R53). -/
def toTracker (ch : Fin 8) (c : ChannelRec) (r : ChanResult) (i : Fin 7) (s : State) : State :=
  if s.trackers[i].conf.enabled ∧ s.trackers[i].conf.source = ch.val then
    let s1 := trackerResult i c r s
    if i = flow ∧ takesResults s.trackers[i] then fltFlowUpdate s1 else s1
  else s

/-- A result handed to every block that names the channel: ACC, then the trackers in index order (R35; the order between
them is assumption 5). An evaluation made here may set the demand by PRESSURE, and a volume that the same result brings to
its limit is judged by BACKWASH_DEMAND after it (assumption 49). -/
def deliver (ch : Fin 8) (c : ChannelRec) (r : ChanResult) (s : State) : State :=
  (List.finRange 7).foldl (fun s i => toTracker ch c r i s) (toBrine ch c.mode r (toInlet ch c.mode r s))

/-- A publication: the channel closed to `c'`, CHANNEL raised when READY was set already, the result delivered (R35,
R36). -/
def publication (ch : Fin 8) (c' : Channel) (r : ChanResult) (s : State) : State :=
  deliver ch s.channels[ch].conf r (raiseIf s.channels[ch].run.ready .channel (setChannel ch c' s))

/-- The result of a full window. -/
def fullResult (c : Channel) : ChanResult := { z := windowZ c, e := c.run.e, timeout := false }

/-- The result of a PERIOD timeout (R33). -/
def timeoutResult (c : Channel) : ChanResult := { z := 0, e := c.run.e, timeout := true }

/-- CHANNEL_RESULT, when the window has reached its length (R25, R35). -/
def channelResult (ch : Fin 8) (s : State) : State :=
  if windowFull s.channels[ch] then
    publication ch (closeFull s.channels[ch]) (fullResult s.channels[ch]) s
  else s

/-- PERIOD_TIMEOUT, when s has reached Y (R33). -/
def periodTimeout (ch : Fin 8) (s : State) : State :=
  if timedOut s.channels[ch] then
    publication ch (closeTimeout s.channels[ch]) (timeoutResult s.channels[ch]) s
  else s

/-- WINDOW_ABANDONED, when 250 consecutive frames were missing (R26). -/
def windowAbandoned (ch : Fin 8) (s : State) : State :=
  if toAbandon s.channels[ch] then setChannel ch (abandonWindow s.channels[ch]) s else s

end Sys2Proof.Machine
end

