-- ==== Sys2Proof/Machine/Operands.lean ====
section
/-! DEFINITION. The checks of a request's operands: for each table the refusals of a write, in the order its chapter
gives, the first that applies deciding the reply (R8 to R160). `none` stands for a write that is accepted. -/

namespace Sys2Proof.Machine

/-- Status values of a reply (R177). -/
inductive Status where
  | ok | accepted | busy | badTable | badIndex | range | conflict | wrongState | latched | malformed
deriving DecidableEq, Repr

/-- A status as its byte (R177). -/
def Status.byte : Status → Byte
  | .ok => 0 | .accepted => 1 | .busy => 2 | .badTable => 3 | .badIndex => 4 | .range => 5 | .conflict => 6
  | .wrongState => 7 | .latched => 8 | .malformed => 9

/-- The first refusal of a list of checks, each a condition and the status it refuses with. -/
def firstFailing : List (Bool × Status) → Option Status
  | [] => none
  | (b, st) :: rest => if b then some st else firstFailing rest

/-- An optional number exceeds a bound. -/
def above (bound : Nat) : Option Nat → Bool
  | some n => decide (bound < n)
  | none => false

/-- An optional number lies outside `lo` to `hi`. -/
def outside (lo hi : Nat) : Option Nat → Bool
  | some n => decide (n < lo ∨ hi < n)
  | none => false

/-- A number lies outside `lo` to `hi`. -/
def notIn (lo hi n : Nat) : Bool := decide (n < lo ∨ hi < n)

/-! ### Lanes (R8) -/

/-- The record a write of a lane stores: only a VALUE lane holds W, a mark lane and moisture intake (1.2.1). -/
def storedLane (d : LaneDesc) : LaneDesc :=
  match d.kind with
  | .value => d
  | _ => { d with w := 0, mark := none, moisture := false }

/-- The RANGE refusals of a lane (R8). -/
def laneRange (d : LaneDesc) : Bool :=
  decide (19 < d.slot) || decide (7 < d.start) || notIn 1 8 d.width || decide (8 < d.start + d.width)
    || ((d.kind == .level || d.kind == .mark) && d.width != 1)
    || (d.kind == .value && ((d.w != 8 && d.w != 12 && d.w != 16) || d.w % d.width != 0))

/-- An enabled MARK lane. -/
def State.isMark (s : State) (i : Nat) : Bool := (s.lane i).desc.is .mark

/-- The mark lane named does not serve the lane of index `i` (R8). -/
def badMark (s : State) (i : Nat) (d : LaneDesc) : Bool :=
  match d.mark with
  | some m => d.kind == .value && (m == i || !s.isMark m)
  | none => false

/-- Another enabled lane has the moisture-intake flag (R8). -/
def moistureTaken (s : State) (i : Nat) : Bool :=
  (List.finRange 32).any fun j => j.val != i && s.lanes[j].desc.enabled && s.lanes[j].desc.moisture

/-- An enabled VALUE lane names the lane of index `i` as its mark lane (R8). -/
def namedAsMark (s : State) (i : Nat) : Bool :=
  (List.finRange 32).any fun j => s.lanes[j].desc.is .value && s.lanes[j].desc.mark == some i

/-- The CONFLICT refusals of a lane (R8). -/
def laneConflict (s : State) (i : Nat) (d : LaneDesc) : Bool :=
  badMark s i d || (d.moisture && (d.kind != .value || d.w != 16)) || (d.moisture && moistureTaken s i)
    || ((!d.enabled || d.kind != .mark) && namedAsMark s i)

/-- The checks of WRITE_ENTRY(LANE) (R8). -/
def checkLane (s : State) (i : Nat) (d : LaneDesc) : Option Status :=
  firstFailing [(decide (31 < i), .badIndex), (laneRange d, .range), (laneConflict s i d, .conflict)]

/-! ### Report fields (R16) -/

/-- A descriptor's bits meet those of another enabled descriptor of the same slot (R16). -/
def reportOverlap (s : State) (i : Nat) (f : ReportField) : Bool :=
  f.enabled && (List.finRange 24).any fun j =>
    let g := s.link.reportFields[j]
    j.val != i && g.enabled && g.slot == f.slot && fieldsMeet f.start f.width g.start g.width

/-- The checks of WRITE_ENTRY(REPORT_FIELD) (R16). -/
def checkReportField (s : State) (i : Nat) (f : ReportField) : Option Status :=
  firstFailing [(decide (23 < i), .badIndex),
    (decide (5 < f.slot) || decide (7 < f.start) || notIn 1 8 f.width || decide (8 < f.start + f.width), .range),
    (reportOverlap s i f, .conflict)]

/-! ### Channels (R21) and presets (R23) -/

/-- The RANGE refusals of a channel (R21). -/
def channelRange (c : ChannelRec) : Bool :=
  decide (31 < c.inA) || above 31 c.inB || above 3 c.preset || (c.mode != .off && c.x == 0)
    || (c.mode == .valueMean && decide (64 < c.x))

/-- The checks of WRITE_ENTRY(CHANNEL) (R21). -/
def checkChannel (s : State) (i : Nat) (c : ChannelRec) : Option Status :=
  firstFailing [(decide (7 < i), .badIndex), (channelRange c, .range), (!suits s c, .conflict)]

/-- The checks of WRITE_ENTRY(PRESET) (R23). -/
def checkPreset (i r : Nat) : Option Status :=
  firstFailing [(decide (3 < i), .badIndex), (notIn 1 15 r, .range)]

/-! ### Trackers (R40) -/

/-- The role's maximum of an index, 0 for an index that names no tracker. -/
def maxOf (i : Nat) : Nat := if h : i < 7 then roleMax ⟨i, h⟩ else 0

/-- The RANGE refusals of a tracker (R40). -/
def trackerRange (top : Nat) (c : TrackerRec) : Bool :=
  decide (7 < c.source) || c.gain == 0 || decide (top < c.lo) || decide (top < c.hi) || decide (c.hi < c.lo)
    || decide (top < c.bw) || decide (top < c.bn) || decide (top < c.nHi) || decide (top < c.nLo)
    || notIn 2 63 c.mLock || notIn 2 63 c.kLose || notIn 1 62 c.j

/-- The checks of WRITE_ENTRY(TRACKER) (R40). -/
def checkTracker (i : Nat) (c : TrackerRec) : Option Status :=
  firstFailing [(decide (6 < i), .badIndex), (trackerRange (maxOf i) c, .range),
    (decide (c.kLose ≤ c.j) || decide (c.nHi ≤ c.nLo), .conflict)]

/-! ### Actuators (R18, R57) -/

/-- An entry of a per-position field satisfies a test at one of the actuator's positions. -/
def anyPos (a : Actr) (v : Vector Nat 6) (p : Nat → Bool) : Bool :=
  (List.range (positions a).length).any fun i => p (perPos v i)

/-- Two of a list of numbers are equal. -/
def hasRepeat (l : List Nat) : Bool := !decide l.Nodup

/-- The entries of a per-position field that the actuator has. -/
def posEntries (a : Actr) (v : Vector Nat 6) : List Nat := (List.range (positions a).length).map (perPos v)

/-- The RANGE refusals of an actuator record (R18, R57): the fields of the other feedback kind are ignored. -/
def actuatorRange (a : Actr) (c : ActuatorRec) : Bool :=
  decide (5 < c.slot) || decide (7 < c.start) || notIn 2 3 c.width || decide (8 < c.start + c.width)
    || decide (2 ^ c.width ≤ c.stopCode) || anyPos a c.codes (fun n => decide (2 ^ c.width ≤ n))
    || (c.kind == .switches && anyPos a c.switchLanes (fun n => decide (31 < n)))
    || (c.kind == .encoder && (decide (31 < c.encoderLane) || anyPos a c.encoderValues (fun n => decide (255 < n))))
    || above 31 c.stallLane || above 3 c.preset || notIn 1 255 c.travel || decide (7 < c.retry) || notIn 1 60 c.pause

/-- The command field meets that of another enabled actuator (R18). -/
def commandOverlap (s : State) (a : Actr) (c : ActuatorRec) : Bool :=
  allActrs.any fun b =>
    let d := (s.act b).conf
    b != a && d.enabled && d.slot == c.slot && fieldsMeet c.start c.width d.start d.width

/-- A lane is not an enabled LEVEL or MARK lane. -/
def notLevel (s : State) (i : Nat) : Bool := !(s.lane i).desc.levelLike

/-- The feedback of a record is in conflict with the lane table or with itself (R57). -/
def feedbackConflict (s : State) (a : Actr) (c : ActuatorRec) : Bool :=
  match c.kind with
  | .switches => anyPos a c.switchLanes (notLevel s) || hasRepeat (posEntries a c.switchLanes)
  | .encoder =>
    !((s.lane c.encoderLane).desc.is .value && (s.lane c.encoderLane).desc.w == 8)
      || hasRepeat (posEntries a c.encoderValues)

/-- The stall lane is in conflict (R57). -/
def stallConflict (s : State) (a : Actr) (c : ActuatorRec) : Bool :=
  match c.stallLane with
  | some l => notLevel s l || (c.kind == .switches && (posEntries a c.switchLanes).contains l)
  | none => false

/-- The CONFLICT refusals of an enabled record (R57). -/
def actuatorConflict (s : State) (a : Actr) (c : ActuatorRec) : Bool :=
  c.enabled && (commandOverlap s a c || hasRepeat (c.stopCode :: posEntries a c.codes) || feedbackConflict s a c
    || stallConflict s a c)

/-- The entries of a per-position field beyond the actuator's positions set to 0 (R169). -/
def ownPositions (a : Actr) (v : Vector Nat 6) : Vector Nat 6 :=
  Vector.ofFn fun i => if i.val < (positions a).length then v[i] else 0

/-- The record a write of an actuator stores: fields of the other feedback kind are not held (R56, R169). -/
def storedActuator (a : Actr) (c : ActuatorRec) : ActuatorRec :=
  let c1 := { c with codes := ownPositions a c.codes }
  match c.kind with
  | .switches =>
    { c1 with switchLanes := ownPositions a c.switchLanes, encoderLane := 0, encoderValues := Vector.replicate 6 0 }
  | .encoder => { c1 with switchLanes := Vector.replicate 6 0, encoderValues := ownPositions a c.encoderValues }

/-- An actuator in MOVING or PAUSED (R57). -/
def ActuatorRun.busy (r : ActuatorRun) : Bool := r.target.isSome

/-- The checks of WRITE_ENTRY(ACTUATOR) before its contents are looked at (R57, steps 1 and 2). -/
def actuatorBusy (s : State) (a : Actr) : Bool := (s.act a).run.busy

/-- The checks of the contents of WRITE_ENTRY(ACTUATOR) (R57, steps 3 and 4). -/
def checkActuator (s : State) (a : Actr) (c : ActuatorRec) : Option Status :=
  firstFailing [(actuatorRange a c, .range), (actuatorConflict s a c, .conflict)]

/-! ### Account (R80, R86) -/

/-- The RANGE refusals of the softener settings (R79, R80). -/
def softenerRange (c : Softener) : Bool :=
  decide (60000 < c.k) || decide (60000 < c.kb) || decide (2000 < c.hf) || decide (2000 < c.fe) || decide (4000 < c.kFe)
    || decide (100000000 < c.reserve) || above 23 c.regenHour || outside 1 30 c.maxDays || notIn 60 14400 c.holdLimit
    || notIn 1 255 c.resin || decide (400 < c.cNom) || above 7 c.inlet || above 7 c.brine

/-- The inlet and brine channels name the same channel (R80). -/
def sameChannel (c : Softener) : Bool := c.inlet.isSome && c.inlet == c.brine

/-- The checks of WRITE_ENTRY(SOFTENER) (R80). -/
def checkSoftener (i : Nat) (c : Softener) : Option Status :=
  firstFailing [(i != 0, .badIndex), (softenerRange c, .range), (sameChannel c, .conflict)]

/-- The tops of a curve's x and y (5.4.1). -/
def curveTops : CurveId → Nat × Nat
  | .hardness => (4000, 2000)
  | .brine => (4000, 400)
  | .efficiency => (1000, 1024)

/-- The x of a list of points strictly increase and the y do not decrease (R86). -/
def rises : List (Nat × Nat) → Bool
  | p :: q :: rest => decide (p.1 < q.1) && decide (p.2 ≤ q.2) && rises (q :: rest)
  | _ => true

/-- The RANGE refusals of a curve (R86). -/
def curveRange (id : CurveId) (pts : List (Nat × Nat)) : Bool :=
  pts.length == 1 || decide (8 < pts.length)
    || pts.any (fun p => decide ((curveTops id).1 < p.1) || decide ((curveTops id).2 < p.2)) || !rises pts

/-- The checks of WRITE_ENTRY of a curve (R86). -/
def checkCurve (id : CurveId) (i : Nat) (pts : List (Nat × Nat)) : Option Status :=
  firstFailing [(i != 0, .badIndex), (curveRange id pts, .range)]

/-! ### Tanks, programs, salt (R99, R104, R120) -/

/-- The RANGE refusals of a tank (R99). -/
def tankRange (c : TankContents) : Bool := decide (100000000 < c.nominal) || above 100000000 c.remaining

/-- The checks of WRITE_ENTRY(TANK) for a tank (R99, steps 2 and 3). -/
def checkTank (s : State) (t : TankId) (c : TankContents) : Option Status :=
  firstFailing [(tankRange c, .range), ((s.tank t).st == .regenerating, .busy)]

/-- The RANGE refusals of a regeneration step, whatever its end kind (R104, assumption 9). -/
def regenStepRange (c : RegenStep) : Bool :=
  notIn 1 7200 c.duration || notIn 1 65535 c.volume || notIn 1 7200 c.timeout || decide (6000 < c.allowance)

/-- A VOLUME end at a position other than BRINE_DRAW or REFILL (R104). -/
def volumeMisplaced (c : RegenStep) : Bool := c.endKind == .volume && c.pos != .brineDraw && c.pos != .refill

/-- The checks of WRITE_ENTRY(REGEN_STEP) (R104). -/
def checkRegenStep (i : Nat) (c : RegenStep) : Option Status :=
  firstFailing [(decide (7 < i), .badIndex), (regenStepRange c, .range), (volumeMisplaced c, .conflict)]

/-- The checks of WRITE_ENTRY(SALT) (R120). -/
def checkSalt (i : Nat) (c : SaltSettings) : Option Status :=
  firstFailing [(i != 0, .badIndex), (!SaltRanges c, .range), (decide (c.presentHeight < c.emptyHeight), .conflict)]

/-! ### Stages and the backwash program (R134, R139) -/

/-- The RANGE refusals of a stage record and its given counters (R133, R134): the backwash fields of a cartridge are
ignored. -/
def stageRange (c : StageContents) : Bool :=
  let r := c.record
  outside 1 max40 r.volumeLimit || outside 1 3650 r.dayLimit || above 2000 r.dpLimit || notIn 1 255 r.persistence
    || notIn 1 6000 r.qRef || notIn 1 6000 r.qMin
    || (r.kind == .media && (outside 1 max40 r.bwVolume || outside 1 365 r.bwDays))
    || above max40 c.volRep || above max32 c.secRep || above max40 c.volBw || above max32 c.secBw

/-- Another enabled stage is BACKWASH_MEDIA already (R134). -/
def secondMedia (s : State) (i : Fin 4) (c : StageRec) : Bool :=
  recIsMedia c && (List.finRange 4).any fun j => j != i && recIsMedia s.flt.stages[j].conf

/-- The CONFLICT refusals of a stage (R134). -/
def stageConflict (s : State) (i : Fin 4) (c : StageRec) : Bool :=
  secondMedia s i c || (c.up.isSome && c.up == c.down)

/-- The backwash run concerns a stage (R134, R138). -/
def State.stageBusy (s : State) (i : Fin 4) : Bool := s.flt.st != .idle && s.flt.run.stage == some i

/-- The checks of WRITE_ENTRY(STAGE) for a stage (R134, steps 2 to 4). -/
def checkStage (s : State) (i : Fin 4) (c : StageContents) : Option Status :=
  firstFailing [(stageRange c, .range), (stageConflict s i c.record, .conflict), (s.stageBusy i, .busy)]

/-- The checks of WRITE_ENTRY(BACKWASH_STEP) (R139). -/
def checkBackwashStep (i : Nat) (c : BackwashStep) : Option Status :=
  firstFailing [(decide (3 < i), .badIndex), (notIn 1 7200 c.duration || decide (6000 < c.allowance), .range)]

/-! ### Leak guard (R154, R158, R160) -/

/-- The RANGE refusals of a leak rule (R154). -/
def leakRuleRange (c : LeakRule) : Bool :=
  decide (6000 < c.rateLo) || decide (6000 < c.rateHi) || notIn 1 65535 c.duration || notIn 1 1000000 c.volume
    || above 7 c.zone

/-- The checks of the contents of WRITE_ENTRY(LEAK_RULE) (R154, steps 2 and 3). -/
def checkLeakRule (c : LeakRule) : Option Status :=
  firstFailing [(leakRuleRange c, .range), (c.kind == .trickle && decide (c.rateHi < c.rateLo), .conflict)]

/-- The checks of WRITE_ENTRY(ZONE_WINDOW) (R158). -/
def checkZoneWindow (i : Nat) (c : ZoneWindow) : Option Status :=
  firstFailing [(decide (7 < i), .badIndex), (decide (255 < c.base) || decide (255 < c.mask) || decide (7 < c.zone), .range)]

/-- The RANGE refusals of the leak configuration (R160). -/
def leakConfigRange (c : LeakConfig) : Bool :=
  notIn 1 600 c.gap || decide (3600 < c.staleShut) || outside 60 604800 c.silence || decide (23 < c.testHour)
    || notIn 60 7200 c.testWindow || notIn 10 3600 c.settle || notIn 10 3600 c.measure || notIn 1 2000 c.demand
    || decide (2000 < c.decay) || decide (7 < c.failToShut)

/-- The checks of WRITE_ENTRY(LEAK_CONFIG) (R160). -/
def checkLeakConfig (i : Nat) (c : LeakConfig) : Option Status :=
  firstFailing [(i != 0, .badIndex), (leakConfigRange c, .range)]

/-! ### Contents with a field that holds no value of its type -/

/-- The checks of contents one of whose fields may hold no value of its type: an index above `top` goes first, then
RANGE (R169, assumption 9). -/
def checkTyped {α : Type} (top i : Nat) (check : α → Option Status) : Option α → Option Status
  | some c => check c
  | none => some (if top < i then .badIndex else .range)

/-- The highest index of each table (R169). -/
def tableTop : Nat → Nat
  | 0 => 31 | 1 => 23 | 2 => 5 | 3 => 5 | 4 => 7 | 5 => 3 | 6 => 6 | 11 => 1 | 12 => 7 | 14 => 3 | 15 => 3 | 16 => 15
  | 17 => 7 | 19 => 3 | _ => 0

end Sys2Proof.Machine
end

