-- ==== Sys2Proof/Machine/Codec.lean ====
section
/-! DEFINITION. The contents of the tables as bytes, field by field in the order of each record's table (R169), and back.
A record is a list of numbers, one for each field, packed in the widths its ranges take. -/

namespace Sys2Proof.Machine

/-! ### Packing -/

/-- Numbers packed in the widths given, most significant byte first (R169). -/
def pack : List Nat → List Nat → List Byte
  | w :: ws, n :: ns => num w n ++ pack ws ns
  | _, _ => []

/-- The numbers that bytes hold in the widths given (R169). -/
def unpack : List Nat → List Byte → List Nat
  | [], _ => []
  | w :: ws, bs => ofBytes (bs.take w) :: unpack ws (bs.drop w)

/-- A yes-or-no field (R169). -/
def yes (b : Bool) : Nat := if b then 1 else 0

/-- A yes-or-no field read: 0 or 1 (R169). -/
def unYes : Nat → Option Bool
  | 0 => some false
  | 1 => some true
  | _ => none

/-- None as the all-ones value of the width (R169). -/
def orOnes (w : Nat) (o : Option Nat) : Nat := o.getD (256 ^ w - 1)

/-- The all-ones value of the width read as none (R169). -/
def unOnes (w n : Nat) : Option Nat := if n = 256 ^ w - 1 then none else some n

/-- None as 0, where 0 lies outside the range (R169). -/
def orZero (o : Option Nat) : Nat := o.getD 0

/-- 0 read as none (R169). -/
def unZero (n : Nat) : Option Nat := if n = 0 then none else some n

/-! ### Enumerations, in the order their chapters name the values (R169) -/

/-- The order of the table of 1.2.1, and not that of the list of 1.2 (assumption 43). -/
def laneKinds : List LaneKind := [.level, .count, .value, .mark]
/-- 1.3 -/
def indicators : List Indicator :=
  [.chgLo, .chgHi, .mainState, .leakLatch, .serviceTank, .rgsState, .saltReminder, .filterDue, .locks, .fieldStale,
    .faultValid, .testState, .flowHi, .flowLo]
/-- 2.1 -/
def channelModes : List ChannelMode := [.off, .edgeCount, .countDelta, .gatedCount, .period, .highTime, .valueMean]
/-- R39 -/
def timeConsts : List TimeConst := [.slow, .normal, .fast, .auto]
/-- R56 -/
def feedbackKinds : List FeedbackKind := [.switches, .encoder]
/-- R79 -/
def hardnessModes : List HardnessMode := [.auto, .forced]
/-- R104 -/
def regenPositions : List RegenPos := [.backwash, .brineDraw, .slowRinse, .fastRinse, .refill]
/-- R104 -/
def endKinds : List EndKind := [.duration, .volume]
/-- R133 -/
def stageKinds : List StageKind := [.cartridge, .media]
/-- R133 -/
def pressureIds : List PressureId := [.supply, .mid, .house]
/-- R139 -/
def backwashPositions : List BackwashPos := [.backwash, .rinse]
/-- R154 -/
def ruleKinds : List RuleKind := [.continuous, .trickle, .eventVolume, .moisture, .silence]
/-- R154 -/
def ruleActions : List RuleAction := [.notify, .shut]

/-- A pressure tracker or none: none is the all-ones byte, since position 0 is a value. -/
def pressureNum : Option PressureId → Nat
  | some p => pressureIds.idxOf p
  | none => 255

/-- A pressure tracker or none read; the outer `none` is a number that is no value of the field. -/
def unPressure (n : Nat) : Option (Option PressureId) := if n = 255 then some none else (pressureIds[n]?).map some

/-! ### Records -/

/-- The widths of LANE. -/
def laneWidths : List Nat := [1, 1, 1, 1, 1, 1, 1, 1, 1]

/-- The fields of LANE. -/
def laneNums (d : LaneDesc) : List Nat :=
  [yes d.enabled, d.slot, d.start, d.width, yes d.invert, laneKinds.idxOf d.kind, d.w, orOnes 1 d.mark, yes d.moisture]

/-- LANE read from its fields. -/
def laneOf : List Nat → Option LaneDesc
  | [en, slot, start, width, inv, kind, w, mark, moist] => do
    return { enabled := ← unYes en, slot := slot, start := start, width := width, invert := ← unYes inv
             kind := ← laneKinds[kind]?, w := w, mark := unOnes 1 mark, moisture := ← unYes moist }
  | _ => none

/-- The widths of REPORT_FIELD. -/
def reportWidths : List Nat := [1, 1, 1, 1, 1]

/-- The fields of REPORT_FIELD. -/
def reportNums (f : ReportField) : List Nat := [yes f.enabled, f.slot, f.start, f.width, indicators.idxOf f.source]

/-- REPORT_FIELD read from its fields. -/
def reportOf : List Nat → Option ReportField
  | [en, slot, start, width, src] => do
    return { enabled := ← unYes en, slot := slot, start := start, width := width, source := ← indicators[src]? }
  | _ => none

/-- The widths of CHANNEL. -/
def channelWidths : List Nat := [1, 1, 1, 1, 2, 2]

/-- The fields of CHANNEL. -/
def channelNums (c : ChannelRec) : List Nat :=
  [channelModes.idxOf c.mode, c.inA, orOnes 1 c.inB, orOnes 1 c.preset, c.x, c.y]

/-- CHANNEL read from its fields. -/
def channelOf : List Nat → Option ChannelRec
  | [mode, a, b, p, x, y] => do
    return { mode := ← channelModes[mode]?, inA := a, inB := unOnes 1 b, preset := unOnes 1 p, x := x, y := y }
  | _ => none

/-- The widths of TRACKER. -/
def trackerWidths : List Nat := [1, 1, 2, 2, 2, 2, 1, 2, 2, 1, 1, 1, 2, 2]

/-- The fields of TRACKER. -/
def trackerNums (c : TrackerRec) : List Nat :=
  [yes c.enabled, c.source, c.offset, c.gain, c.lo, c.hi, timeConsts.idxOf c.tc, c.bw, c.bn, c.mLock, c.kLose, c.j,
    c.nHi, c.nLo]

/-- TRACKER read from its fields. -/
def trackerOf : List Nat → Option TrackerRec
  | [en, source, offset, gain, lo, hi, tc, bw, bn, m, k, j, nHi, nLo] => do
    return { enabled := ← unYes en, source := source, offset := offset, gain := gain, lo := lo, hi := hi
             tc := ← timeConsts[tc]?, bw := bw, bn := bn, mLock := m, kLose := k, j := j, nHi := nHi, nLo := nLo }
  | _ => none

/-- The widths of SOFTENER. -/
def softenerWidths : List Nat := [2, 2, 1, 2, 2, 2, 4, 1, 1, 2, 1, 2, 1, 1]

/-- The fields of SOFTENER. -/
def softenerNums (c : Softener) : List Nat :=
  [c.k, c.kb, hardnessModes.idxOf c.mode, c.hf, c.fe, c.kFe, c.reserve, orOnes 1 c.regenHour, orZero c.maxDays,
    c.holdLimit, c.resin, c.cNom, orOnes 1 c.inlet, orOnes 1 c.brine]

/-- SOFTENER read from its fields. -/
def softenerOf : List Nat → Option Softener
  | [k, kb, mode, hf, fe, kFe, reserve, hour, days, hold, resin, cNom, inlet, brine] => do
    return { k := k, kb := kb, mode := ← hardnessModes[mode]?, hf := hf, fe := fe, kFe := kFe, reserve := reserve
             regenHour := unOnes 1 hour, maxDays := unZero days, holdLimit := hold, resin := resin, cNom := cNom
             inlet := unOnes 1 inlet, brine := unOnes 1 brine }
  | _ => none

/-- The widths of TANK as it is written; a read reports the first two (assumption 10). -/
def tankWidths : List Nat := [4, 4, 5]

/-- The fields of TANK as written. -/
def tankNums (c : TankContents) : List Nat := [c.nominal, orOnes 4 c.remaining, orOnes 5 c.seconds]

/-- TANK read from its fields. -/
def tankOf : List Nat → Option TankContents
  | [n, r, s] => some { nominal := n, remaining := unOnes 4 r, seconds := unOnes 5 s }
  | _ => none

/-- The widths of REGEN_STEP. -/
def regenStepWidths : List Nat := [1, 1, 1, 2, 2, 2, 2]

/-- The fields of REGEN_STEP. -/
def regenStepNums (c : RegenStep) : List Nat :=
  [yes c.enabled, regenPositions.idxOf c.pos, endKinds.idxOf c.endKind, c.duration, c.volume, c.timeout, c.allowance]

/-- REGEN_STEP read from its fields. -/
def regenStepOf : List Nat → Option RegenStep
  | [en, pos, kind, d, v, t, a] => do
    return { enabled := ← unYes en, pos := ← regenPositions[pos]?, endKind := ← endKinds[kind]?, duration := d
             volume := v, timeout := t, allowance := a }
  | _ => none

/-- The widths of SALT. -/
def saltWidths : List Nat := [3, 3, 2, 2, 2, 2]

/-- The fields of SALT. -/
def saltNums (c : SaltSettings) : List Nat :=
  [c.capacity, c.reminder, c.bridgeConc, c.presentHeight, c.emptyHeight, c.minRise]

/-- SALT read from its fields. -/
def saltOf : List Nat → Option SaltSettings
  | [cap, rem, conc, present, empty, rise] =>
    some { capacity := cap, reminder := rem, bridgeConc := conc, presentHeight := present, emptyHeight := empty
           minRise := rise }
  | _ => none

/-- The widths of a stage record. -/
def stageRecWidths : List Nat := [1, 1, 1, 1, 5, 2, 2, 1, 2, 2, 5, 2]

/-- The widths of STAGE as it is written: the record and four optional counters; a read reports the record (assumption
10). -/
def stageWidths : List Nat := [1, 1, 1, 1, 5, 2, 2, 1, 2, 2, 5, 2, 6, 5, 6, 5]

/-- The fields of a stage record. -/
def stageRecNums (c : StageRec) : List Nat :=
  [yes c.enabled, stageKinds.idxOf c.kind, pressureNum c.up, pressureNum c.down, orZero c.volumeLimit, orZero c.dayLimit,
    orOnes 2 c.dpLimit, c.persistence, c.qRef, c.qMin, orZero c.bwVolume, orZero c.bwDays]

/-- The fields of STAGE as written. -/
def stageNums (c : StageContents) : List Nat :=
  [yes c.record.enabled, stageKinds.idxOf c.record.kind, pressureNum c.record.up, pressureNum c.record.down,
    orZero c.record.volumeLimit, orZero c.record.dayLimit, orOnes 2 c.record.dpLimit, c.record.persistence,
    c.record.qRef, c.record.qMin, orZero c.record.bwVolume, orZero c.record.bwDays, orOnes 6 c.volRep, orOnes 5 c.secRep,
    orOnes 6 c.volBw, orOnes 5 c.secBw]

/-- STAGE read from its fields. -/
def stageOf : List Nat → Option StageContents
  | [en, kind, up, down, vol, days, dp, n, qRef, qMin, bwVol, bwDays, c1, c2, c3, c4] => do
    let r : StageRec :=
      { enabled := ← unYes en, kind := ← stageKinds[kind]?, up := ← unPressure up, down := ← unPressure down
        volumeLimit := unZero vol, dayLimit := unZero days, dpLimit := unOnes 2 dp, persistence := n, qRef := qRef
        qMin := qMin, bwVolume := unZero bwVol, bwDays := unZero bwDays }
    return { record := r, volRep := unOnes 6 c1, secRep := unOnes 5 c2, volBw := unOnes 6 c3, secBw := unOnes 5 c4 }
  | _ => none

/-- The widths of BACKWASH_STEP. -/
def backwashStepWidths : List Nat := [1, 1, 2, 2]

/-- The fields of BACKWASH_STEP. -/
def backwashStepNums (c : BackwashStep) : List Nat :=
  [yes c.enabled, backwashPositions.idxOf c.pos, c.duration, c.allowance]

/-- BACKWASH_STEP read from its fields. -/
def backwashStepOf : List Nat → Option BackwashStep
  | [en, pos, d, a] => do
    return { enabled := ← unYes en, pos := ← backwashPositions[pos]?, duration := d, allowance := a }
  | _ => none

/-- The widths of LEAK_RULE. -/
def leakRuleWidths : List Nat := [1, 1, 2, 2, 2, 3, 1, 3, 1]

/-- The fields of LEAK_RULE. -/
def leakRuleNums (c : LeakRule) : List Nat :=
  [yes c.enabled, ruleKinds.idxOf c.kind, c.rateLo, c.rateHi, c.duration, c.volume, orOnes 1 c.zone, c.hours.toNat,
    ruleActions.idxOf c.action]

/-- LEAK_RULE read from its fields. -/
def leakRuleOf : List Nat → Option LeakRule
  | [en, kind, lo, hi, d, v, zone, hours, action] => do
    return { enabled := ← unYes en, kind := ← ruleKinds[kind]?, rateLo := lo, rateHi := hi, duration := d, volume := v
             zone := unOnes 1 zone, hours := BitVec.ofNat 24 hours, action := ← ruleActions[action]? }
  | _ => none

/-- The widths of ZONE_WINDOW. -/
def zoneWindowWidths : List Nat := [1, 1, 1, 1]

/-- The fields of ZONE_WINDOW. -/
def zoneWindowNums (c : ZoneWindow) : List Nat := [yes c.enabled, c.base, c.mask, c.zone]

/-- ZONE_WINDOW read from its fields. -/
def zoneWindowOf : List Nat → Option ZoneWindow
  | [en, base, mask, zone] => do return { enabled := ← unYes en, base := base, mask := mask, zone := zone }
  | _ => none

/-- The widths of LEAK_CONFIG. -/
def leakConfigWidths : List Nat := [2, 2, 3, 1, 1, 2, 2, 2, 2, 2, 1]

/-- The fields of LEAK_CONFIG. -/
def leakConfigNums (c : LeakConfig) : List Nat :=
  [c.gap, c.staleShut, orZero c.silence, yes c.testEnabled, c.testHour, c.testWindow, c.settle, c.measure, c.demand,
    c.decay, c.failToShut]

/-- LEAK_CONFIG read from its fields. -/
def leakConfigOf : List Nat → Option LeakConfig
  | [gap, stale, silence, en, hour, window, settle, measure, demand, decay, fail] => do
    return { gap := gap, staleShut := stale, silence := unZero silence, testEnabled := ← unYes en, testHour := hour
             testWindow := window, settle := settle, measure := measure, demand := demand, decay := decay
             failToShut := fail }
  | _ => none

/-- The widths of ACTUATOR. -/
def actuatorWidths : List Nat :=
  [1, 1, 1, 1, 1, 1, 1, 1, 1, 1, 1, 1, 1, 1, 1, 1, 1, 1, 1, 1, 1, 1, 1, 1, 1, 1, 1, 1, 1, 1]

/-- The fields of ACTUATOR. -/
def actuatorNums (c : ActuatorRec) : List Nat :=
  [yes c.enabled, c.slot, c.start, c.width, c.stopCode, c.codes[0], c.codes[1], c.codes[2], c.codes[3], c.codes[4],
    c.codes[5], feedbackKinds.idxOf c.kind, c.switchLanes[0], c.switchLanes[1], c.switchLanes[2], c.switchLanes[3],
    c.switchLanes[4], c.switchLanes[5], c.encoderLane, c.encoderValues[0], c.encoderValues[1], c.encoderValues[2],
    c.encoderValues[3], c.encoderValues[4], c.encoderValues[5], orOnes 1 c.preset, orOnes 1 c.stallLane, c.travel,
    c.retry, c.pause]

/-- ACTUATOR read from its fields. -/
def actuatorOf : List Nat → Option ActuatorRec
  | [en, slot, start, width, stop, c0, c1, c2, c3, c4, c5, kind, s0, s1, s2, s3, s4, s5, lane, v0, v1, v2, v3, v4, v5,
      preset, stall, travel, retry, pause] => do
    return { enabled := ← unYes en, slot := slot, start := start, width := width, stopCode := stop
             codes := #v[c0, c1, c2, c3, c4, c5], kind := ← feedbackKinds[kind]?
             switchLanes := #v[s0, s1, s2, s3, s4, s5], encoderLane := lane
             encoderValues := #v[v0, v1, v2, v3, v4, v5], preset := unOnes 1 preset, stallLane := unOnes 1 stall
             travel := travel, retry := retry, pause := pause }
  | _ => none

/-- The points of a curve, two bytes for each x and y (R169). -/
def curvePoints : List (Nat × Nat) → List Byte
  | [] => []
  | p :: rest => num 2 p.1 ++ num 2 p.2 ++ curvePoints rest

/-- The points bytes spell, `n` of them. -/
def unCurve : Nat → List Byte → List (Nat × Nat)
  | 0, _ => []
  | n + 1, bs => (ofBytes (bs.take 2), ofBytes ((bs.drop 2).take 2)) :: unCurve n (bs.drop 4)

/-- A curve's contents: the count, then the points (R169). -/
def curveBytes (pts : List (Nat × Nat)) : List Byte := num 1 pts.length ++ curvePoints pts

/-- The length of a table's contents as written; a curve's follows from its count (R169). -/
def contentsLength : Nat → Option Nat
  | 0 => some 9 | 1 => some 5 | 2 => some 1 | 3 => some 1 | 4 => some 8 | 5 => some 1 | 6 => some 22 | 10 => some 24
  | 11 => some 13 | 12 => some 11 | 13 => some 14 | 14 => some 47 | 15 => some 6 | 16 => some 16 | 17 => some 4
  | 18 => some 20 | 19 => some 30 | _ => none

end Sys2Proof.Machine
end

