-- ==== Sys2Proof/Machine/Reports.lean ====
section
/-! DEFINITION. The frames the part sends: indicators, report slots, drive slots, the reply transmitter and the two frame
transmitters (R6, R7, R17, R19, R168, R176, R177). -/

namespace Sys2Proof.Machine

/-! ### Indicators (R17, R176) -/

/-- The code of the main valve state (R176). -/
def mainCode : MainState → Nat
  | .opened => 0 | .closing _ => 1 | .closed _ => 2 | .opening => 3 | .fault => 4 | .unknown => 5

/-- The code of SERVICE_TANK (R100, R176). -/
def serviceCode : Option Pos → Nat
  | some .tankA => 1 | some .tankB => 2 | some .bypass => 3 | _ => 0

/-- The code of TEST_STATE (R176). -/
def testCode : TestState → Nat
  | .idle => 0 | .waiting => 1 | .closing => 2 | .settle => 3 | .measure => 4 | .reopening => 5

/-- The number whose bit i is the i-th flag. -/
def flagBits : List Bool → Nat
  | [] => 0
  | b :: rest => yes b + 2 * flagBits rest

/-- SALT_REMINDER (R130). -/
def State.saltReminder (s : State) : Bool := s.slt.saltLow || s.slt.bridge || s.slt.refillShort

/-- LOCKS: one bit for each tracker (R17). -/
def State.locks (s : State) : Nat := flagBits ((List.finRange 7).map fun i => s.locked i)

/-- FILTER_DUE: one bit for each stage (R137). -/
def State.filterDue (s : State) : Nat := flagBits ((List.finRange 4).map fun i => s.flt.stages[i].due)

/-- An indicator's value as it stands (R17). -/
def indicator (s : State) : Indicator → Nat
  | .chgLo => s.changesLo
  | .chgHi => s.changesHi
  | .mainState => mainCode s.lkg.main
  | .leakLatch => yes s.lkg.latch.isSome
  | .serviceTank => serviceCode s.confirmed
  | .rgsState => seqCode s.rgs.seq
  | .saltReminder => yes s.saltReminder
  | .filterDue => s.filterDue
  | .locks => s.locks
  | .fieldStale => yes (!s.link.fieldFresh)
  | .faultValid => yes s.mgu.fault.valid
  | .testState => testCode s.lkg.test.st
  | .flowHi => s.estimate flow / 256
  | .flowLo => s.estimate flow % 256

/-! ### Composition -/

/-- A report slot with one descriptor's bits laid over it (R17). -/
def overlayField (s : State) (slot : Nat) (v : Nat) (f : ReportField) : Nat :=
  if f.enabled ∧ f.slot = slot then overlay v f.start f.width (indicator s f.source) else v

/-- A report slot (R17). -/
def reportSlot (s : State) (i : Fin 6) : Byte :=
  toByte (s.link.reportFields.toList.foldl (overlayField s i.val) (s.link.reportConst[i]).toNat)

/-- A drive slot with one actuator's drive code laid over it (R19). -/
def overlayDrive (s : State) (slot : Nat) (v : Nat) (a : Actr) : Nat :=
  let x := s.act a
  if x.conf.enabled ∧ x.conf.slot = slot then overlay v x.conf.start x.conf.width (driveCode a x) else v

/-- A drive slot (R19). -/
def driveSlot (s : State) (i : Fin 6) : Byte :=
  toByte (allActrs.foldl (overlayDrive s i.val)
    (if s.link.gwFresh then s.link.driveBytes[i] else s.link.driveMask[i]).toNat)

/-- The six drive slots. -/
def driveSlots (s : State) : List Byte := (List.finRange 6).map (driveSlot s)

/-- The six report slots. -/
def reportSlots (s : State) : List Byte := (List.finRange 6).map (reportSlot s)

/-- The field slots of a report frame (R7). -/
def fieldSlots (s : State) : List Byte :=
  match s.link.fieldFresh, s.link.lastField with
  | true, some v => v.toList
  | _, _ => List.replicate 20 0xFF

/-! ### The reply transmitter (R168, R177) -/

/-- The delimiter. -/
def delimiter : Byte := 0xE7
/-- The escape. -/
def escapeByte : Byte := 0xE8

/-- The bytes of a message as sent between its delimiters (R177). -/
def escaped : List Byte → List Byte
  | [] => []
  | b :: rest => (if b = delimiter ∨ b = escapeByte then [escapeByte, b ^^^ 0x20] else [b]) ++ escaped rest

/-- A message: its bytes with the CRC-16 (R177). -/
def messageOf (bytes : List Byte) : List Byte := bytes ++ crc16Bytes bytes

/-- A message on the path, between its delimiters (R177). -/
def encoded (message : List Byte) : List Byte := delimiter :: (escaped message ++ [delimiter])

/-- A reply's encoded form (R168, R177). -/
def replyBytes (r : Reply) : List Byte := encoded (messageOf (0x80 :: r.tag :: r.body))

/-- The byte of a reply at a position of its encoded form. -/
def replyByte (r : Reply) (i : Nat) : Byte := (replyBytes r).getD i delimiter

/-- The reply transmitter after it has offered the byte at position `i` of the reply `r` (R168). -/
def afterByte (r : Reply) (i : Nat) (rest : List Reply) (s : State) : State :=
  if (replyBytes r).length ≤ i + 1 then { s with mgu := { s.mgu with replies := rest, sent := none } }
  else { s with mgu := { s.mgu with sent := some (i + 1) } }

/-- The byte the reply transmitter offers (R168). -/
def offeredByte (s : State) : Byte :=
  match s.mgu.replies with
  | [] => delimiter
  | r :: _ => replyByte r (s.mgu.sent.getD 0)

/-- The reply transmitter after it has offered a byte (R168). -/
def offerByte (s : State) : State :=
  match s.mgu.replies with
  | [] => s
  | r :: rest => afterByte r (s.mgu.sent.getD 0) rest s

/-- A report frame (R7, R176); its message bytes are those the reply transmitter offers from `s` on. -/
def reportFrame (s : State) : List Byte :=
  frameOf (fieldSlots s ++ reportSlots s ++ [offeredByte s, offeredByte (offerByte s)])

/-- A drive frame (R19, R176). -/
def driveFrame (s : State) : List Byte := frameOf (driveSlots s)

/-! ### The transmitters (R6) -/

/-- A report frame starts: it is composed and the reply transmitter moves by two bytes. -/
def startReport (s : State) : State :=
  let s1 := offerByte (offerByte s)
  { s1 with link := { s1.link with gtx := { sending := some (reportFrame s), waiting := false } } }

/-- A drive frame starts. -/
def startDrive (s : State) : State :=
  { s with link := { s.link with ftx := { sending := some (driveFrame s), waiting := false } } }

/-- A frame starts on a port. -/
def startFrame (p : OutPort) (s : State) : State :=
  match p with
  | .gtx => startReport s
  | .ftx => startDrive s

/-- A port's transmitter. -/
def State.transmitter (s : State) : OutPort → Transmitter
  | .gtx => s.link.gtx
  | .ftx => s.link.ftx

/-- Replaces a port's transmitter. -/
def setTransmitter (p : OutPort) (t : Transmitter) (s : State) : State :=
  match p with
  | .gtx => { s with link := { s.link with gtx := t } }
  | .ftx => { s with link := { s.link with ftx := t } }

/-- A trigger reaching a transmitter (R6). -/
def triggerPort (p : OutPort) (s : State) : State :=
  if (s.transmitter p).sending.isNone then startFrame p s
  else setTransmitter p { s.transmitter p with waiting := true } s

/-- An emission trigger, for both transmitters (R6). -/
def emissionTrigger (s : State) : State := triggerPort .ftx (triggerPort .gtx s)

/-- A transmitter when its frame has ended and the line has been idle: its pending frame starts, or it is idle (R6). -/
def afterFrame (p : OutPort) (s : State) : State :=
  if (s.transmitter p).waiting then startFrame p s else setTransmitter p Transmitter.idle s

end Sys2Proof.Machine
end

