-- ==== Sys2Proof/Machine/Reading.lean ====
section
/-! DEFINITION. What the gateway reads: the contents of the tables (READ_ENTRY, R169), a channel's result (R38) and the
runs of items of READ_STATE (R170). A part that does not apply to the object as it stands reads 0; the widths of the
items the data book gives no range for are assumption 10. -/

namespace Sys2Proof.Machine

/-! ### Small encodings -/

/-- A list of numbers, each with its width. -/
def items : List (Nat × Nat) → List Byte
  | [] => []
  | (w, n) :: rest => num w n ++ items rest

/-- An optional number, none as all ones of the width given. -/
def opt (w : Nat) (o : Option Nat) : Nat × Nat := (w, orOnes w o)

/-- A yes-or-no item. -/
def flagItem (b : Bool) : Nat × Nat := (1, yes b)

/-- The code of a position of an actuator, or none. -/
def posItem (a : Actr) (p : Option Pos) : Nat × Nat := opt 1 (p.map (posIndex a))

/-- The code of an outcome (R98), or absent. -/
def outcomeItem (o : Option RunOutcome) : Nat × Nat :=
  opt 1 (o.map fun x => match x with | .complete => 0 | .cancelled => 1 | .abandoned => 2 | .faulted => 3)

/-- The code of a requester, or none (4.6). -/
def requesterItem (r : Option Requester) : Nat × Nat :=
  opt 1 (r.map fun x => match x with | .regen => 0 | .backwash => 1 | .test => 2)

/-- The code of a tank's state: its position in the table of R98, whose list of meanings has another order (R169,
assumption 50). -/
def tankCode : TankState → Nat
  | .unconfigured => 0 | .standby => 1 | .service => 2 | .exhausted => 3 | .regenerating => 4

/-- The code of a tracker's state (3.1). -/
def trackCode : TrackState → Nat
  | .idle => 0 | .search => 1 | .locked => 2 | .hold => 3

/-- A filtered level: unadopted reads as none. -/
def filterItem (f : Filter) : Nat × Nat := opt 1 (f.level.map yes)

/-- The code of a fault kind (R173). -/
def faultCode : FaultKind → Nat
  | .actNoResponse => 0 | .actStall => 1 | .actDisplaced => 2 | .rgsAbandoned => 3 | .rgsFaulted => 4 | .fltAbandoned => 5
  | .fieldLost => 6

/-- Whether an object is held, then its items, all 0 when it is absent. -/
def optItems {α : Type} (o : Option α) (blank : α) (f : α → List (Nat × Nat)) : List (Nat × Nat) :=
  match o with
  | some x => (1, 1) :: f x
  | none => (1, 0) :: (f blank).map fun p => (p.1, 0)

/-! ### READ_ENTRY (R169) -/

/-- A lane's fields as they are read: the mark lane, which is held for kind VALUE alone, reads 0 for the other kinds
(1.2.1, R169 "fields not held"; their W and moisture intake are stored 0). -/
def laneRead (d : LaneDesc) : List Nat :=
  [yes d.enabled, d.slot, d.start, d.width, yes d.invert, laneKinds.idxOf d.kind, d.w,
    if d.kind = .value then orOnes 1 d.mark else 0, yes d.moisture]

/-- The contents of an entry; the index has been checked. -/
def entryBytes (s : State) (table i : Nat) : List Byte :=
  match table with
  | 0 => pack laneWidths (laneRead (s.lane i).desc)
  | 1 => if h : i < 24 then pack reportWidths (reportNums s.link.reportFields[i]) else []
  | 2 => if h : i < 6 then [s.link.reportConst[i]] else []
  | 3 => if h : i < 6 then [s.link.driveMask[i]] else []
  | 4 => pack channelWidths (channelNums (s.channel i).conf)
  | 5 => if h : i < 4 then num 1 s.presets[i] else []
  | 6 => if h : i < 7 then pack trackerWidths (trackerNums s.trackers[i].conf) else []
  | 7 => curveBytes s.acc.hardnessCurve
  | 8 => curveBytes s.acc.brineCurve
  | 9 => curveBytes s.acc.efficiencyCurve
  | 10 => pack softenerWidths (softenerNums s.acc.settings)
  | 11 => match TankId.ofIndex i with | some t => items [(4, (s.tank t).nominal), (4, (s.tank t).remaining)] | none => []
  | 12 => if h : i < 8 then pack regenStepWidths (regenStepNums s.rgs.program[i]) else []
  | 13 => pack saltWidths (saltNums s.slt.settings)
  | 14 => if h : i < 4 then pack stageRecWidths (stageRecNums s.flt.stages[i].conf) else []
  | 15 => if h : i < 4 then pack backwashStepWidths (backwashStepNums s.flt.program[i]) else []
  | 16 => if h : i < 16 then pack leakRuleWidths (leakRuleNums s.lkg.rules[i].conf) else []
  | 17 => if h : i < 8 then pack zoneWindowWidths (zoneWindowNums s.lkg.windows[i]) else []
  | 18 => pack leakConfigWidths (leakConfigNums s.lkg.config)
  | 19 => match Actr.ofIndex i with | some a => pack actuatorWidths (actuatorNums (s.act a).conf) | none => []
  | _ => []

/-- The checks of READ_ENTRY (R169). -/
def checkRead (table i : Nat) : Option Status :=
  firstFailing [(decide (19 < table), .badTable), (decide (tableTop table < i), .badIndex)]

/-! ### READ_RESULT (R38) -/

/-- The progress of the open window, as the mode counts it (R38). -/
def progress (c : Channel) : Nat :=
  match c.conf.mode with
  | .period => c.run.n
  | .valueMean => c.run.k
  | _ => c.run.g

/-- The code of a channel's condition (R38). -/
def condCode : ChanCond → Nat
  | .off => 0 | .unstarted => 1 | .opened => 2 | .suspended => 3

/-- The report of a channel (R38): each of the four flags is one byte (DESIGN CHOICE, assumption 55). -/
def resultBytes (c : Channel) : List Byte :=
  items ([(1, channelModes.idxOf c.conf.mode), (1, condCode c.run.cond)]
    ++ optItems c.run.last { z := 0, e := 0, timeout := false } (fun r => [(4, r.z), (4, r.e), flagItem r.timeout])
    ++ [flagItem c.run.ready, flagItem c.run.overrun, flagItem c.run.timeout, flagItem c.run.glitch, (2, progress c),
      (4, c.run.e), (1, if c.conf.mode = .period then yes c.run.timing else 0)])

/-- READ_RESULT with acknowledge clears the four flags (R38). -/
def ackResult (c : Channel) : Channel :=
  { c with run := { c.run with ready := false, overrun := false, timeout := false, glitch := false } }

/-! ### READ_STATE (R170) -/

/-- LANE (R14). An invalid COUNT reference is reported at the value it is held at (DESIGN CHOICE, assumption 52). -/
def laneState (l : Lane) : List Byte :=
  let v := l.desc.kind == .value
  let c := l.desc.kind == .count
  pack laneWidths (laneRead l.desc) ++ items [(1, if v || c then 0 else yes l.run.level),
    (1, if c then l.run.reference else 0), (1, if c then yes l.run.refValid else 0), (1, if v then l.run.h else 0),
    (1, if v then yes (!l.run.waiting) else 0), (3, if v then orOnes 3 l.run.lastSample else 0),
    (1, if v then yes l.run.misalign else 0)]

/-- Why a tracker is not bound: disabled, its channel's mode does not suit, K is 0 (R54). Of several reasons the first of
that list is reported (DESIGN CHOICE, assumption 53). -/
def unboundCode (s : State) (i : Fin 7) : Nat :=
  if !s.trackers[i].conf.enabled then 0
  else if !modeSuits i (s.channel s.trackers[i].conf.source).conf.mode then 1 else 2

/-- TRACKER (R54). The sign of the last difference outside the band is reported as 0 positive, 1 negative, 0xFF none
(DESIGN CHOICE, assumption 10), and NOISE, STEP and RANGE as one byte each (DESIGN CHOICE, assumption 55). -/
def trackerState (s : State) (i : Fin 7) : List Byte :=
  let r := s.trackers[i].run
  items [(1, trackCode r.st), flagItem r.awaiting, flagItem (bound s i),
    (1, if bound s i then 0 else unboundCode s i), opt 2 r.est, opt 2 r.lastIn, (2, r.m), (1, r.nIn), (1, r.nOut),
    (1, r.nStep), opt 1 (r.sign.map yes), flagItem r.noise, flagItem r.step, flagItem r.range]

/-- The code of an actuator's state (4.1), with its position and attempt. -/
def actStateItems (a : Actr) : ActState → List (Nat × Nat)
  | .unknown => [(1, 0), (1, 0), (1, 0)]
  | .at p => [(1, 1), (1, posIndex a p), (1, 0)]
  | .moving t n => [(1, 2), (1, posIndex a t), (1, n)]
  | .paused t n => [(1, 3), (1, posIndex a t), (1, n)]
  | .faultNoResponse => [(1, 4), (1, 0), (1, 0)]
  | .faultStall => [(1, 5), (1, 0), (1, 0)]

/-- The timer that is running (R71). -/
def ActuatorRun.timer (r : ActuatorRun) : Option Nat := r.travel.orElse fun _ => r.pause.orElse fun _ => r.displace

/-- The feedback of an actuator (R71): the switch levels and the stall level, the encoder's filtered and raw
recognition; an unadopted recognition reads 0xFE. -/
def feedbackItems (a : Actr) (x : Actuator) : List (Nat × Nat) :=
  let sw := x.conf.kind == .switches
  ((List.finRange 6).map fun i => if sw && decide (i.val < (positions a).length) then filterItem x.run.switches[i] else (1, 0))
    ++ [if x.conf.stallLane.isSome then filterItem x.run.stall else (1, 0),
      if sw then (1, 0) else match x.run.enc.filtered with | some p => posItem a p | none => (1, 0xFE),
      if sw then (1, 0) else posItem a x.run.enc.raw]

/-- ACTUATOR (R71). -/
def actuatorState (a : Actr) (x : Actuator) : List Byte :=
  items (actStateItems a x.run.st ++ [opt 2 x.run.timer, posItem a x.run.recognised] ++ feedbackItems a x
    ++ [posItem a x.run.lastConfirmed, opt 1 (x.run.lastFault.map faultCode), (1, driveCode a x)])

/-- A meter of the account is on (R96): its pulses per 10 L are in range and its channel counts. -/
def meterOn (s : State) (k : Nat) (ch : Option Nat) : Bool :=
  decide (1 ≤ k ∧ k ≤ 60000) && (match ch with | some c => countingMode (s.channel c).conf.mode | none => false)

/-- Why a meter is off: K is 0, no channel is named, the mode does not count (R96). Of several reasons the first of that list
is reported (DESIGN CHOICE, assumption 53). -/
def meterReason (s : State) (k : Nat) (ch : Option Nat) : Nat :=
  if meterOn s k ch then 0 else if k = 0 then 0 else if ch.isNone then 1 else 2

/-- TANK: the tank record and the accounting state (R96, R99). -/
def tankState (s : State) (t : TankId) : List Byte :=
  let x := s.tank t
  let a := s.acc
  items ([(4, x.nominal), (4, x.remaining), (1, tankCode x.st), (4, x.seconds), outcomeItem x.lastOutcome,
      flagItem (meterOn s a.settings.k a.settings.inlet), (1, meterReason s a.settings.k a.settings.inlet),
      flagItem (meterOn s a.settings.kb a.settings.brine), (1, meterReason s a.settings.kb a.settings.brine),
      (2, a.pulseCarry), (2, a.allowCarry), (2, a.brineCarry), (1, hardnessModes.idxOf a.settings.mode), (2, a.h),
      (2, a.hc), opt 2 a.held, (5, a.totalInlet), (5, a.totalTreated), (5, a.slip), (5, a.bypassVolume),
      flagItem a.clamp, flagItem a.slipSet,
      (1, match a.phase with | .none => 0 | .draw => 1 | .refill => 2), flagItem a.draw.isOpen, (5, a.draw.saltDg),
      (5, a.draw.volume), opt 2 a.draw.lastConc, flagItem a.draw.measured])

/-- The code of a regeneration's trigger (R117). -/
def triggerCode : RegenTrigger → Nat
  | .reserve => 0 | .calendar => 1 | .command => 2

/-- The values of a closed accumulator. -/
def drawItems (v : DrawValues) : List (Nat × Nat) := [(5, v.volume), (5, v.saltG), opt 2 v.mean, flagItem v.measured]

/-- No values of a draw. -/
def noDraw : DrawValues := { saltG := 0, mean := none, volume := 0, measured := false }

/-- The regeneration record (R117). The SHORT marks of the eight steps are one byte of flags (DESIGN CHOICE,
assumption 55). -/
def recordItems (r : RegenRecord) : List (Nat × Nat) :=
  [(1, r.tank.index), (1, triggerCode r.trigger), (5, r.queuedAt), opt 5 r.startedAt, opt 5 r.endedAt,
    outcomeItem r.outcome, (1, r.stepsDone), (1, flagBits r.short.toList)]
  ++ optItems r.brine noDraw drawItems
  ++ optItems r.restoration { dose := 0, efficiency := 0, restored := 0 }
      (fun x => [(2, x.dose), (2, x.efficiency), (4, x.restored)])

/-- The selector move in flight: NONE, SWAP, BYPASS_ON, BYPASS_OFF, with its tank (6.1). -/
def moveItems : SelMove → List (Nat × Nat)
  | .none => [(1, 0), (1, 0)]
  | .swap t => [(1, 1), (1, t.index)]
  | .bypassOn => [(1, 2), (1, 0)]
  | .bypassOff t => [(1, 3), (1, t.index)]

/-- The code of the phase a hold interrupted; 0 outside HELD. -/
def heldPhase (q : SeqState) (p : Option SeqState) : Nat := if q = .held then seqCode (p.getD .held) else 0

/-- SEQUENCER (R117). -/
def sequencerState (s : State) : List Byte :=
  let r := s.rgs.run
  items ([(1, seqCode s.rgs.seq), (1, heldPhase s.rgs.seq r.interrupted), opt 1 (r.tank.map TankId.index),
      opt 1 (r.prior.map tankCode), opt 1 (r.trigger.map triggerCode), opt 1 (r.step.map Fin.val), (2, r.elapsed),
      (5, r.brine), (2, r.hold), flagItem r.drawBegun]
    ++ moveItems s.rgs.move ++ [opt 1 (s.rgs.remembered.map TankId.index)]
    ++ optItems s.rgs.record (newRecord .a .reserve 0) recordItems)

/-- SALT (R131): each cause of SALT_LOW is one byte (DESIGN CHOICE, assumption 55). -/
def saltState (x : Salt) : List Byte :=
  items ([(3, x.store), flagItem x.saltLow, flagItem x.storeCause, flagItem x.levelCause, (1, x.bridgeCount),
      flagItem x.bridge, flagItem x.refillShort,
      (1, match x.refill.phase with | .none => 0 | .inRefill => 1 | .settling => 2), opt 2 x.refill.timer,
      opt 2 x.refill.startSample, opt 2 x.refill.endSample, (2, x.refill.volume),
      opt 1 (x.refill.result.map fun r => match r with | .pass => 0 | .lowRise => 1 | .short => 2 | .unchecked => 3)]
    ++ optItems x.lastDraw { values := noDraw, bridge := .weak }
        (fun d => [(5, d.values.saltG), (5, d.values.volume), opt 2 d.values.mean, flagItem d.values.measured,
          (1, match d.bridge with | .weak => 0 | .normal => 1 | .notChecked => 2)])
    ++ [(1, trackCode x.levelState), opt 2 x.levelEst])

/-- The conditions of R137 that hold of a stage (R145). -/
def dueConditions (s : State) (x : Stage) : List Bool :=
  [reached x.conf.volumeLimit 1 x.volRep, reached x.conf.dayLimit 86400 x.secRep,
    x.conf.kind == .cartridge && decide (x.conf.persistence ≤ x.dpCount), recIsMedia x.conf && s.flt.fouled]

/-- The code of a backwash's trigger (R145). -/
def bwTriggerCode : BwTrigger → Nat
  | .volume => 0 | .days => 1 | .pressure => 2 | .command => 3

/-- STAGE (R145). The conditions of R137 that hold are one byte of flags (DESIGN CHOICE, assumption 55). -/
def stageState (s : State) (i : Fin 4) : List Byte :=
  let x := s.flt.stages[i]
  let m := recIsMedia x.conf
  pack stageRecWidths (stageRecNums x.conf)
    ++ items [(5, x.volRep), (4, x.secRep), (5, x.volBw), (4, x.secBw), (1, x.dpCount), flagItem x.due,
      (1, flagBits ((dueConditions s x).map (· && x.conf.enabled))), opt 2 x.lastDp,
      (1, if m then orOnes 1 (s.flt.demand.map bwTriggerCode) else 0), flagItem (m && s.flt.fouled),
      flagItem (m && s.flt.watch)]

/-- The backwash record (R145). -/
def bwRecordItems (r : BwRecord) : List (Nat × Nat) :=
  [(1, r.stage.val), (1, bwTriggerCode r.trigger), (5, r.queuedAt), opt 5 r.startedAt, opt 5 r.endedAt,
    outcomeItem r.outcome, (1, r.stepsDone)]

/-- BACKWASH (R145). -/
def backwashState (s : State) : List Byte :=
  let r := s.flt.run
  items ([(1, seqCode s.flt.st), (1, heldPhase s.flt.st r.interrupted), opt 1 (r.step.map Fin.val), (2, r.elapsed),
    (2, r.hold)] ++ optItems s.flt.record (newBwRecord 0 .volume 0) bwRecordItems)

/-- The code of the reason of a closing or closed main; 0 for another state. -/
def reasonCode : MainState → Nat
  | .closing r | .closed r => match r with | .leak => 0 | .test => 1 | .manual => 2
  | _ => 0

/-- The code of the latch's cause: a rule's index, then TEST_FAIL and FIELD_LOST after the indices (R151, R169,
assumption 51). -/
def causeCode : LatchCause → Nat
  | .rule r => r.val
  | .testFail => 16
  | .fieldLost => 17

/-- A rule's run state; a disabled rule reads as none (R155). -/
def ruleItems (x : Rule) : List (Nat × Nat) :=
  [(1, if x.conf.enabled then (match x.st with | .dormant => 0 | .armed => 1 | .timing => 2 | .tripped => 3) else 255),
    (2, x.timer), (1, x.trips), opt 5 x.lastTrip]

/-- LEAK_GUARD (R165). DRA's waiting list is one byte of flags: REGEN bit 0, BACKWASH bit 1, TEST bit 2 (DESIGN CHOICE,
assumption 54). -/
def leakGuardState (s : State) : List Byte :=
  let l := s.lkg
  items ([(1, mainCode l.main), (1, reasonCode l.main)]
    ++ optItems l.latch { cause := .testFail, seconds := 0 } (fun x => [(1, causeCode x.cause), (4, x.seconds)])
    ++ [(2, s.estimate flow), (2, s.drain.allowance), requesterItem s.drain.kind, (2, s.netFlow)]
    ++ optItems l.event { start := 0, volume := 0, idle := 0 } (fun e => [(4, e.start), (5, e.volume), (4, e.idle)])
    ++ optItems l.lastEvent { start := 0, volume := 0, ended := 0 } (fun e => [(4, e.start), (5, e.volume), (4, e.ended)])
    ++ [(4, l.lossTimer)] ++ l.rules.toList.flatMap ruleItems
    ++ [flagItem l.unknownSensor, opt 2 l.lastUnknown, requesterItem s.drain.holder,
      (1, flagBits [s.drain.waitRegen, s.drain.waitBackwash, s.drain.waitTest])])

/-- ZONE (R159): WET, LOW_BATTERY and TAMPER are one byte each (DESIGN CHOICE, assumption 55). -/
def zoneState (z : Zone) : List Byte :=
  items [flagItem z.wet, flagItem z.lowBattery, flagItem z.tamper, (4, z.lastReport), flagItem z.reported, flagItem z.silent]

/-- The code of a test's result: PASS, FAIL and SKIPPED, then the aborts in the order of the table of R164
(assumption 10). -/
def testResultCode : TestResult → Nat
  | .pass => 0 | .fail => 1 | .skipped => 2 | .abortedManual => 3 | .abortedLeak => 4 | .abortedUnstable => 5
  | .abortedDemand => 6 | .abortedStale => 7 | .abortedValve => 8

/-- The test's record, the items that R165 names (the fail count it holds besides is assumption 42). -/
def testRecordItems (r : TestRecord) : List (Nat × Nat) :=
  [(1, match r.trigger with | .calendar => 0 | .command => 1), (5, r.startedAt), opt 5 r.endedAt, opt 2 r.p0, opt 2 r.p1,
    opt 2 r.decay, opt 1 (r.result.map testResultCode)]

/-- TEST (R165). -/
def testStateBytes (t : DecayTest) : List Byte :=
  items ([(1, testCode t.st), opt 2 t.timer, opt 2 t.p0, opt 2 t.previous, (1, t.failCount)]
    ++ optItems t.record
        { trigger := .calendar, startedAt := 0, endedAt := none, p0 := none, p1 := none, decay := none, failCount := none
          result := none }
        testRecordItems)

/-- LINK (R3). -/
def linkState (l : Link) : List Byte :=
  items [(1, yes (!l.fieldFresh)), (1, l.fieldMissing), (1, yes (!l.gwFresh)), (1, l.gwMissing)]

/-- FAULT_RECORD (R173). -/
def faultState (f : FaultRecord) : List Byte :=
  items [flagItem f.valid, (1, faultCode f.kind), (1, f.source), (4, f.seconds)] ++ f.detail.toList ++ items [flagItem f.lost]

/-- TIME (R174). -/
def timeState (m : Mgu) : List Byte :=
  items [flagItem m.timeValid, (2, m.day), (3, m.secondOfDay), (4, m.seconds)]

/-- The run of items of an object (table of R170). -/
def stateBytes (s : State) (object i : Nat) : List Byte :=
  match object with
  | 0 => laneState (s.lane i)
  | 1 => if h : i < 7 then trackerState s ⟨i, h⟩ else []
  | 2 => match Actr.ofIndex i with | some a => actuatorState a (s.act a) | none => []
  | 3 => match TankId.ofIndex i with | some t => tankState s t | none => []
  | 4 => sequencerState s
  | 5 => saltState s.slt
  | 6 => if h : i < 4 then stageState s ⟨i, h⟩ else []
  | 7 => backwashState s
  | 8 => leakGuardState s
  | 9 => if h : i < 8 then zoneState s.lkg.zones[i] else []
  | 10 => testStateBytes s.lkg.test
  | 11 => linkState s.link
  | 12 => faultState s.mgu.fault
  | 13 => timeState s.mgu
  | _ => []

/-- The highest index of each object (table of R170). -/
def objectTop : Nat → Nat
  | 0 => 31 | 1 => 6 | 2 => 3 | 3 => 1 | 6 => 3 | 9 => 7 | _ => 0

/-- The number of parts of 45 bytes of a run of items (R170). -/
def partCount (bs : List Byte) : Nat := (bs.length + 44) / 45

/-- A part of a run of items (R170). -/
def partBytes (bs : List Byte) (p : Nat) : List Byte := (bs.drop (45 * p)).take 45

/-- The checks of READ_STATE (R170). -/
def checkState (s : State) (object i part mode : Nat) : Option Status :=
  firstFailing [(decide (13 < object), .badTable), (decide (objectTop object < i), .badIndex),
    (decide (1 < mode), .range), (decide (partCount (stateBytes s object i) ≤ part), .badIndex)]

/-- A lane with MISALIGN cleared (R14). -/
def clearMisalign (l : Lane) : Lane := { l with run := { l.run with misalign := false } }

/-- A tracker with STEP and RANGE cleared (R54). -/
def clearStepRange (t : Tracker) : Tracker := { t with run := { t.run with step := false, range := false } }

/-- What an acknowledging read of an object clears (R14, R54, R71, R96, R165); other objects clear nothing. -/
def acknowledge (object i : Nat) (s : State) : State :=
  match object with
  | 0 => if h : i < 32 then
      { s with lanes := s.lanes.set i (clearMisalign s.lanes[i]) } else s
  | 1 => if h : i < 7 then
      { s with trackers := s.trackers.set i (clearStepRange s.trackers[i]) } else s
  | 2 => match Actr.ofIndex i with | some a => setRun a { (s.act a).run with lastFault := none } s | none => s
  | 3 => { s with acc := { s.acc with clamp := false } }
  | 8 => { s with lkg := { s.lkg with unknownSensor := false } }
  | _ => s

end Sys2Proof.Machine
end

