-- ==== Sys2Proof/Machine/Notices.lean ====
section
/-! DEFINITION. ACT's notices to the owners (R69) and the events that give them, and the events of DRA, RGS, SLT, FLT and
LKG that fall due. Each event is taken when its command comes, and one that is not due changes nothing (assumption 1). -/

namespace Sys2Proof.Machine

/-! ### Notices (R69) -/

/-- A completion naming `p`; `old` is the SELECTOR's last confirmed position before it. -/
def notifyDone (a : Actr) (old : Option Pos) (p : Pos) (s : State) : State :=
  match a with
  | .main => mainDone onGrant p s
  | .selector => selDone onGrant old p s
  | .regenRotor => rgsRotorDone onGrant p s
  | .filterRotor => bwRotorDone onGrant p s

/-- A fault notice; `code` is the second detail byte of RGS_FAULTED for the kind (R173). -/
def notifyFault (a : Actr) (code : Byte) (s : State) : State :=
  match a with
  | .main => mainFault onGrant s
  | .selector => selFailed s
  | .regenRotor => rgsRotorFailed onGrant code s
  | .filterRotor => bwRotorFailed onGrant s

/-- A displacement notice naming the position recognised, or none. RGS does nothing at one of the SELECTOR (R102). -/
def notifyDisplaced (a : Actr) (at? : Option Pos) (s : State) : State :=
  match a with
  | .main => mainDisplaced onGrant at? s
  | .selector => s
  | .regenRotor => rgsRotorMoved onGrant false at? s
  | .filterRotor => bwRotorMoved onGrant false at? s

/-- An adoption naming `p`. -/
def notifyAdopted (a : Actr) (old : Option Pos) (p : Pos) (s : State) : State :=
  match a with
  | .main => mainAdopted onGrant p s
  | .selector => selReached onGrant old p s
  | .regenRotor => rgsRotorAdopted p s
  | .filterRotor => bwRotorAdopted p s

/-- A reset notice (R58). RGS does nothing at one of the SELECTOR. -/
def notifyReset (a : Actr) (s : State) : State :=
  match a with
  | .main => mainReset onGrant s
  | .selector => s
  | .regenRotor => rgsRotorMoved onGrant true none s
  | .filterRotor => bwRotorMoved onGrant true none s

/-! ### Events of ACT and DRA -/

/-- ARRIVAL (R64). -/
def arrivalEvent (a : Actr) (s : State) : State :=
  match arrivalDue (s.act a) with
  | some p => notifyDone a s.confirmed p (enterPosition a p s)
  | none => s

/-- TRAVEL_TIMEOUT (R65, R69). -/
def timeoutEvent (a : Actr) (s : State) : State :=
  match timeoutDue (s.act a) with
  | some (t, n) =>
    if n ≤ (s.act a).conf.retry then enterPaused a t n s else notifyFault a 0 (faultNoResponse a t n s)
  | none => s

/-- PAUSE_EXPIRY (R65). -/
def pauseEvent (a : Actr) (s : State) : State :=
  match pauseDue (s.act a) with
  | some (t, n) => nextAttempt a t n s
  | none => s

/-- STALL (R66, R69). -/
def stallEvent (a : Actr) (s : State) : State :=
  match stallDue (s.act a) with
  | some (t, n) => notifyFault a 1 (faultStall a t n s)
  | none => s

/-- DISPLACEMENT (R67, R69). -/
def displacementEvent (a : Actr) (s : State) : State :=
  match displacementDue (s.act a) with
  | some p => notifyDisplaced a (s.act a).run.recognised (displace a p s)
  | none => s

/-- ADOPTION (R68). -/
def adoptionEvent (a : Actr) (s : State) : State :=
  match adoptionDue (s.act a) with
  | some p => notifyAdopted a s.confirmed p (enterPosition a p s)
  | none => s

/-- DRAIN_GRANT (R73). -/
def drainGrantEvent (s : State) : State := drainRegrant onGrant s

/-! ### Events of RGS and SLT -/

/-- CALENDAR_REGEN_TRIGGER (R105). -/
def calendarRegenEvent (s : State) : State := if s.rgs.calendarDue then rgsCalendar onGrant s else s

/-- REGEN_STEP_END (R110). -/
def regenStepEndEvent (s : State) : State :=
  match stepEndDue s with
  | some short => endStep onGrant short s
  | none => s

/-- SETTLING_EXPIRY (R128). -/
def settlingEvent (s : State) : State := if settlingDue s then settle600 s else s

/-- The hold of a regeneration has reached its limit (R113). -/
def State.regenHoldDue (s : State) : Bool := s.rgs.seq == .held && s.rgs.holdDue

/-- REGEN_HOLD_LIMIT (R113). -/
def regenHoldEvent (s : State) : State := if s.regenHoldDue then rgsAbandon onGrant s else s

/-! ### Events of FLT -/

/-- A stage's volume or day limit is reached and it is not DUE yet (R137). -/
def stageDueNow (x : Stage) : Bool := x.conf.enabled && !x.due && limitReached x

/-- STAGE_DUE (R137). -/
def stageDueEvent (i : Fin 4) (s : State) : State := if stageDueNow s.flt.stages[i] then markDue i s else s

/-- BACKWASH_DEMAND (R140). -/
def demandEvent (s : State) : State := judgeDemand s

/-- BACKWASH_QUEUE (R140, R141). -/
def queueEvent (s : State) : State := if s.flt.queueDue then queueForDemand onGrant s else s

/-- BACKWASH_STEP_END (R142). -/
def bwStepEndEvent (s : State) : State := if bwStepEndDue s then endBwStep onGrant s else s

/-- The hold of a backwash has reached its limit (R143). -/
def State.bwHoldDue (s : State) : Bool := s.flt.st == .held && s.flt.holdDue

/-- BACKWASH_HOLD_LIMIT (R143). -/
def bwHoldEvent (s : State) : State := if s.bwHoldDue then bwAbandon onGrant s else s

/-! ### Events of LKG -/

/-- RULE_TIMER_TRIP (R156, R157). -/
def ruleTripEvent (i : Fin 16) (s : State) : State := if ruleTripDue s.lkg.rules[i] then tripRule onGrant i s else s

/-- DRAW_EVENT_END (R153). -/
def drawEndEvent (s : State) : State := if s.lkg.drawDue then endDraw s else s

/-- ZONE_SILENT (R159). -/
def zoneSilentEvent (i : Fin 8) (s : State) : State := if s.lkg.zones[i].silentDue then silentTaken onGrant i s else s

/-- FIELD_LOST (R160). -/
def fieldLostEvent (s : State) : State := if s.lkg.lostDue then fieldLostTaken onGrant s else s

/-- LATCHED_CLOSE_RETRY (R152, R179). -/
def retryEvent (s : State) : State := if s.lkg.retryDue then latchedRetry onGrant s else s

/-- TEST_CALENDAR_TRIGGER (R161). -/
def testCalendarEvent (s : State) : State := if s.lkg.calendarDue then testCalendar onGrant s else s

/-- TEST_WINDOW_EXPIRY (R161). -/
def testWindowEvent (s : State) : State := if s.testExpired .waiting then testWindow onGrant s else s

/-- TEST_SETTLE_EXPIRY (R162). -/
def testSettleEvent (s : State) : State := if s.testExpired .settle then testSettled onGrant s else s

/-- TEST_MEASURE_EXPIRY (R162, R163). -/
def testMeasureEvent (s : State) : State := if s.testExpired .measure then testMeasured onGrant s else s

/-! ### Events of LNK -/

/-- The field link is to become FIELD_STALE (R4). -/
def State.fieldStaleDue (s : State) : Bool := s.link.fieldFresh && decide (250 ≤ s.link.fieldMissing)

/-- The notices of staleness to TRK, RGS, FLT and LKG (R4). -/
def staleNotices (s : State) : State := lkgStale onGrant (fltHold (rgsHold (trkStale s)))

/-- FIELD_LINK_STALE (R4), with the emission trigger of the expiry that brought it about (R6); its frames are composed after
the staleness notices (assumption 44). -/
def fieldStaleEvent (s : State) : State :=
  if s.fieldStaleDue then
    emissionTrigger (staleNotices (lxStale (raise .field { s with link := { s.link with fieldFresh := false } })))
  else s

/-- GATEWAY_STALE (R5). -/
def gatewayStaleEvent (s : State) : State :=
  if s.link.gwFresh ∧ 250 ≤ s.link.gwMissing then { s with link := { s.link with gwFresh := false } } else s

end Sys2Proof.Machine
end

