-- ==== Sys2Proof/Machine/EventCommands.lean ====
section
/-! DEFINITION. The event commands: each names one event of a channel, an actuator or a block, taken when it is due (assumption 1). -/

namespace Sys2Proof.Machine

/-- CHANNEL_RESULT: a full window of a channel is closed and its result published (R25, R35). -/
def execChannelResult (ch : Fin 8) (s : State) : Host.Outcome State Fault Refusal := .next (channelResult ch s)

/-- PERIOD_TIMEOUT: a PERIOD window that has waited Y samples ends with timeout set (R33). -/
def execPeriodTimeout (ch : Fin 8) (s : State) : Host.Outcome State Fault Refusal := .next (periodTimeout ch s)

/-- WINDOW_ABANDONED: a window with 250 consecutive missing frames is abandoned (R26). -/
def execWindowAbandoned (ch : Fin 8) (s : State) : Host.Outcome State Fault Refusal := .next (windowAbandoned ch s)

/-- ARRIVAL: a move ends at its target, and the owner is told (R64, R69). -/
def execArrival (a : Actr) (s : State) : Host.Outcome State Fault Refusal := .next (arrivalEvent a s)

/-- TRAVEL_TIMEOUT: an attempt runs out of its travel time: a pause before the next attempt, or FAULT_NO_RESPONSE
(R65, R69). -/
def execTravelTimeout (a : Actr) (s : State) : Host.Outcome State Fault Refusal := .next (timeoutEvent a s)

/-- PAUSE_EXPIRY: the pause ends and the next attempt starts (R65). -/
def execPauseExpiry (a : Actr) (s : State) : Host.Outcome State Fault Refusal := .next (pauseEvent a s)

/-- STALL: a stall in a move sets FAULT_STALL (R66, R69). -/
def execStall (a : Actr) (s : State) : Host.Outcome State Fault Refusal := .next (stallEvent a s)

/-- DISPLACEMENT: an actuator in position is found elsewhere for the time of R67. -/
def execDisplacement (a : Actr) (s : State) : Host.Outcome State Fault Refusal := .next (displacementEvent a s)

/-- ADOPTION: an actuator in UNKNOWN adopts the position recognised (R68). -/
def execAdoption (a : Actr) (s : State) : Host.Outcome State Fault Refusal := .next (adoptionEvent a s)

/-- DRAIN_GRANT: the drain line, when free, is granted to the first requester that waits (R73). -/
def execDrainGrant (s : State) : Host.Outcome State Fault Refusal := .next (drainGrantEvent s)

/-- CALENDAR_REGEN_TRIGGER: the calendar has reached the regeneration hour (R105). -/
def execCalendarRegenTrigger (s : State) : Host.Outcome State Fault Refusal := .next (calendarRegenEvent s)

/-- REGEN_STEP_END: the running regeneration step reaches its end (R110). -/
def execRegenStepEnd (s : State) : Host.Outcome State Fault Refusal := .next (regenStepEndEvent s)

/-- SETTLING_EXPIRY: the settling time of a refill is over and the refill is judged (R128). -/
def execSettlingExpiry (s : State) : Host.Outcome State Fault Refusal := .next (settlingEvent s)

/-- REGEN_HOLD_LIMIT: a held regeneration reaches its hold limit and is abandoned (R113). -/
def execRegenHoldLimit (s : State) : Host.Outcome State Fault Refusal := .next (regenHoldEvent s)

/-- STAGE_DUE: a stage reaches its volume or day limit (R137). -/
def execStageDue (st : Fin 4) (s : State) : Host.Outcome State Fault Refusal := .next (stageDueEvent st s)

/-- BACKWASH_DEMAND: the demand for a backwash is judged (R140). -/
def execBackwashDemand (s : State) : Host.Outcome State Fault Refusal := .next (demandEvent s)

/-- BACKWASH_QUEUE: a backwash that is demanded is queued (R140, R141). -/
def execBackwashQueue (s : State) : Host.Outcome State Fault Refusal := .next (queueEvent s)

/-- BACKWASH_STEP_END: the running backwash step reaches its duration (R142). -/
def execBackwashStepEnd (s : State) : Host.Outcome State Fault Refusal := .next (bwStepEndEvent s)

/-- BACKWASH_HOLD_LIMIT: a held backwash reaches its hold limit and is abandoned (R143). -/
def execBackwashHoldLimit (s : State) : Host.Outcome State Fault Refusal := .next (bwHoldEvent s)

/-- RULE_TIMER_TRIP: the timer of a leak rule reaches its duration and the rule trips (R156, R157). -/
def execRuleTimerTrip (r : Fin 16) (s : State) : Host.Outcome State Fault Refusal := .next (ruleTripEvent r s)

/-- DRAW_EVENT_END: the draw event ends after the gap without draw (R153). -/
def execDrawEventEnd (s : State) : Host.Outcome State Fault Refusal := .next (drawEndEvent s)

/-- ZONE_SILENT: a zone has been silent for the time of R159. -/
def execZoneSilent (z : Fin 8) (s : State) : Host.Outcome State Fault Refusal := .next (zoneSilentEvent z s)

/-- FIELD_LOST: the field link has been stale for the time of R160. -/
def execFieldLost (s : State) : Host.Outcome State Fault Refusal := .next (fieldLostEvent s)

/-- LATCHED_CLOSE_RETRY: the close is asked again while the leak is latched (R152, R179). -/
def execLatchedCloseRetry (s : State) : Host.Outcome State Fault Refusal := .next (retryEvent s)

/-- TEST_CALENDAR_TRIGGER: the calendar has reached the test hour (R161). -/
def execTestCalendarTrigger (s : State) : Host.Outcome State Fault Refusal := .next (testCalendarEvent s)

/-- TEST_WINDOW_EXPIRY: the window of a waiting test is over (R161). -/
def execTestWindowExpiry (s : State) : Host.Outcome State Fault Refusal := .next (testWindowEvent s)

/-- TEST_SETTLE_EXPIRY: the settle time of a test is over (R162). -/
def execTestSettleExpiry (s : State) : Host.Outcome State Fault Refusal := .next (testSettleEvent s)

/-- TEST_MEASURE_EXPIRY: the measure time of a test is over and the test is judged (R162, R163). -/
def execTestMeasureExpiry (s : State) : Host.Outcome State Fault Refusal := .next (testMeasureEvent s)

end Sys2Proof.Machine
end

