-- ==== Sys2Proof/Machine/Requests.lean ====
section
/-! DEFINITION. The requests of the gateway: acceptance (R167), the writes of the tables, the reads and the commands (R169
to R171, and the rules they name). Each handler answers the state after the request and the reply's body. -/

namespace Sys2Proof.Machine

/-- What executing a request does: the state after it, and the reply's body, status first. -/
abbrev Handler := State → State × List Byte

/-- A reply joins the queue as its newest entry (R167). -/
def pushReply (tag : Byte) (body : List Byte) (s : State) : State :=
  { s with mgu := { s.mgu with replies := s.mgu.replies ++ [{ tag := tag, body := body }] } }

/-- A request whose message has passed its checks: discarded while a restart is pending, discarded with BACKLOG raised
when the queue holds 4 replies, and otherwise executed and answered under its tag (R167, checks 4 to 7). -/
def answer (tag : Byte) (h : Handler) (s : State) : State :=
  if s.mgu.restartPending then s
  else if 4 ≤ s.mgu.replies.length then raise .backlog s
  else pushReply tag (h s).2 (h s).1

/-- A reply of a status alone that changes nothing. -/
def status (st : Status) : Handler := fun s => (s, [st.byte])

/-- A request that has an effect and is answered with a status. -/
def effect (st : Status) (f : State → State) : Handler := fun s => (f s, [st.byte])

/-- A write: refused by its check, or stored and answered OK. -/
def checked (check : Option Status) (f : State → State) : Handler :=
  match check with
  | some st => status st
  | none => effect .ok f

/-! ### Reads -/

/-- READ_ENTRY (R169). -/
def readEntry (table i : Nat) : Handler := fun s =>
  match checkRead table i with
  | some st => status st s
  | none => (s, Status.ok.byte :: entryBytes s table i)

/-- READ_RESULT (R38, R170). -/
def readResult (ch mode : Nat) : Handler := fun s =>
  if h : ch < 8 then
    if 1 < mode then status .range s
    else (if mode = 1 then setChannel ⟨ch, h⟩ (ackResult s.channels[ch]) s else s,
      Status.ok.byte :: resultBytes s.channels[ch])
  else status .badIndex s

/-- READ_STATE (R170): the reply carries the part, its number and the number of parts; an acknowledging read then clears
what the object's rule names. -/
def readState (object i part mode : Nat) : Handler := fun s =>
  match checkState s object i part mode with
  | some st => status st s
  | none =>
    let bs := stateBytes s object i
    (if mode = 1 then acknowledge object i s else s,
      [Status.ok.byte, toByte part, toByte (partCount bs)] ++ partBytes bs part)

/-- ACK_CHANGES: the reply carries the summary as it stood (R172), flags 0 to 7 in its first byte (DESIGN CHOICE,
assumption 40). -/
def ackChanges (lo hi : Byte) : Handler := fun s =>
  (clearFlags lo hi s, [Status.ok.byte, toByte s.changesLo, toByte s.changesHi])

/-! ### Writes -/

/-- The lanes whose run state a write of lane `i` resets: the lane, and the VALUE lanes that name it as their mark lane
(R9). The write is one to a MARK lane when the lane is of kind MARK before it or after it (DEDUCED, assumption 61). -/
def laneHit (s : State) (i : Nat) (d : LaneDesc) (j : Nat) : Bool :=
  j == i || ((d.kind == .mark || (s.lane i).desc.kind == .mark) && (s.lane j).desc.kind == .value
    && (s.lane j).desc.mark == some i)

/-- An accepted write of a lane: the descriptor, the resets and the reset notices (R8, R9, R27, R62). -/
def storeLane (i : Nat) (d : LaneDesc) (s : State) : State :=
  let hit := laneHit s i d
  let s1 := { s with lanes := Vector.ofFn fun j =>
    if j.val = i then laneReset { s.lanes[j] with desc := storedLane d }
    else if (hit j.val) then laneReset s.lanes[j] else s.lanes[j] }
  actsLaneReset hit (mchLaneReset hit s1)

/-- WRITE_ENTRY(LANE) (R8). -/
def writeLane (i : Nat) (c : Option LaneDesc) : Handler := fun s =>
  checked (checkTyped 31 i (checkLane s i) c) (match c with | some d => storeLane i d | none => id) s

/-- A report field stored. -/
def storeReportField (i : Nat) (f : ReportField) (s : State) : State :=
  if h : i < 24 then { s with link := { s.link with reportFields := s.link.reportFields.set i f } } else s

/-- WRITE_ENTRY(REPORT_FIELD) (R16). -/
def writeReportField (i : Nat) (c : Option ReportField) : Handler := fun s =>
  checked (checkTyped 23 i (checkReportField s i) c) (match c with | some f => storeReportField i f | none => id) s

/-- A channel stored: its run state is reset and the trackers it feeds judge their binding (R22, R42). -/
def storeChannel (i : Nat) (c : ChannelRec) (s : State) : State :=
  if h : i < 8 then rebindChannel i (setChannel ⟨i, h⟩ (channelReset { s.channels[i] with conf := c }) s) else s

/-- WRITE_ENTRY(CHANNEL) (R21, R22). -/
def writeChannel (i : Nat) (c : Option ChannelRec) : Handler := fun s =>
  checked (checkTyped 7 i (checkChannel s i) c) (match c with | some r => storeChannel i r | none => id) s

/-- A preset stored. -/
def storePreset (i r : Nat) (s : State) : State := if h : i < 4 then { s with presets := s.presets.set i r } else s

/-- WRITE_ENTRY(PRESET) (R23). -/
def writePreset (i r : Nat) : Handler := checked (checkPreset i r) (storePreset i r)

/-- A tracker stored: its run state is set back (R41). -/
def storeTracker (i : Nat) (c : TrackerRec) (s : State) : State :=
  if h : i < 7 then
    let s1 := setTracker ⟨i, h⟩ { s.trackers[i] with conf := c } s
    moveTracker ⟨i, h⟩ (freshRun s1 ⟨i, h⟩) s1
  else s

/-- WRITE_ENTRY(TRACKER) (R40, R41). -/
def writeTracker (i : Nat) (c : Option TrackerRec) : Handler := fun s =>
  checked (checkTyped 6 i (checkTracker i) c) (match c with | some r => storeTracker i r | none => id) s

/-- WRITE_ENTRY of a curve (R86). -/
def writeCurve (id : CurveId) (i : Nat) (pts : List (Nat × Nat)) : Handler :=
  checked (checkCurve id i pts) (setCurve id pts)

/-- WRITE_ENTRY(SOFTENER) (R80, R81). -/
def writeSoftenerEntry (i : Nat) (c : Option Softener) : Handler := fun s =>
  checked (checkTyped 0 i (checkSoftener i) c) (match c with | some r => writeSoftener r | none => id) s

/-- WRITE_ENTRY(TANK) (R99). -/
def writeTankEntry (i : Nat) (c : TankContents) : Handler := fun s =>
  match TankId.ofIndex i with
  | some t => checked (checkTank s t c) (writeTank t c) s
  | none => status .badIndex s

/-- WRITE_ENTRY(SALT) (R120). -/
def writeSaltEntry (i : Nat) (c : SaltSettings) : Handler := checked (checkSalt i c) (writeSalt c)

/-- WRITE_ENTRY(STAGE) (R134). -/
def writeStageEntry (i : Nat) (c : Option StageContents) : Handler := fun s =>
  if h : i < 4 then
    match c with
    | some r => checked (checkStage s ⟨i, h⟩ r) (writeStage ⟨i, h⟩ r) s
    | none => status .range s
  else status .badIndex s

/-- WRITE_ENTRY(LEAK_RULE) (R154). -/
def writeLeakRuleEntry (i : Nat) (c : Option LeakRule) : Handler := fun s =>
  if h : i < 16 then
    match c with
    | some r => checked (checkLeakRule r) (writeRule ⟨i, h⟩ r) s
    | none => status .range s
  else status .badIndex s

/-- An actuator stored: its run state is set back and its owner given a reset notice (R58). -/
def storeActuator (a : Actr) (c : ActuatorRec) (s : State) : State :=
  notifyReset a (setAct a { conf := storedActuator a c, run := (s.act a).run.unread } s)

/-- WRITE_ENTRY(ACTUATOR) (R57, R58). -/
def writeActuatorEntry (i : Nat) (c : Option ActuatorRec) : Handler := fun s =>
  match Actr.ofIndex i with
  | some a =>
    if actuatorBusy s a then status .busy s
    else match c with
      | some r => checked (checkActuator s a r) (storeActuator a r) s
      | none => status .range s
  | none => status .badIndex s

/-- A constant byte stored (R16). -/
def storeConst (i : Nat) (b : Byte) (s : State) : State :=
  if h : i < 6 then { s with link := { s.link with reportConst := s.link.reportConst.set i b } } else s

/-- A drive mask stored (R18). -/
def storeMask (i : Nat) (b : Byte) (s : State) : State :=
  if h : i < 6 then { s with link := { s.link with driveMask := s.link.driveMask.set i b } } else s

/-- A regeneration step stored (R104). The duration of a VOLUME step, and the volume and the timeout of a DURATION step, are
stored as written and so read back (DESIGN CHOICE, assumption 56). -/
def storeRegenStep (i : Nat) (c : RegenStep) (s : State) : State :=
  if h : i < 8 then { s with rgs := { s.rgs with program := s.rgs.program.set i c } } else s

/-- A backwash step stored (R139). -/
def storeBackwashStep (i : Nat) (c : BackwashStep) (s : State) : State :=
  if h : i < 4 then { s with flt := { s.flt with program := s.flt.program.set i c } } else s

/-- A zone window stored (R158). -/
def storeZoneWindow (i : Nat) (c : ZoneWindow) (s : State) : State :=
  if h : i < 8 then { s with lkg := { s.lkg with windows := s.lkg.windows.set i c } } else s

/-- The leak configuration stored (R160). -/
def storeLeakConfig (c : LeakConfig) (s : State) : State := { s with lkg := { s.lkg with config := c } }

/-- WRITE_ENTRY to the tables with no effect beyond the entry, and the refusals of a table number or a length (R16, R18,
R104, R139, R158, R160, R169). -/
def writePlain (i : Nat) (c : PlainContents) : Handler :=
  match c with
  | .reportConst b => checked (firstFailing [(decide (5 < i), .badIndex)]) (storeConst i b)
  | .driveMask b => checked (firstFailing [(decide (5 < i), .badIndex)]) (storeMask i b)
  | .regenStep r => checked (checkTyped 7 i (checkRegenStep i) r) (match r with | some x => storeRegenStep i x | none => id)
  | .backwashStep r =>
    checked (checkTyped 3 i (checkBackwashStep i) r) (match r with | some x => storeBackwashStep i x | none => id)
  | .zoneWindow r =>
    checked (checkTyped 7 i (checkZoneWindow i) r) (match r with | some x => storeZoneWindow i x | none => id)
  | .leakConfig r =>
    checked (checkTyped 0 i (checkLeakConfig i) r) (match r with | some x => storeLeakConfig x | none => id)
  | .unusable table => status (if 19 < table then .badTable else .malformed)

/-! ### Commands (R171) -/

/-- The status of a command that makes a move request (R149, R150). -/
def moveStatus : Answer → Status
  | .moving => .accepted
  | .completed => .ok
  | .faulted => .wrongState
  | .disabled => .wrongState

/-- The test stands in a state that bars OPEN_MAIN (R150). -/
def testBarsOpen : TestState → Bool
  | .closing | .settle | .measure | .reopening => true
  | _ => false

/-- OPEN_MAIN (R150). -/
def openMainCmd : Handler := fun s =>
  if s.lkg.latch.isSome then status .latched s
  else if testBarsOpen s.lkg.test.st then status .busy s
  else if s.lkg.main = .opened ∨ s.lkg.main = .opening then status .ok s
  else effect (moveStatus (s.answer .main .mainOpen)) (openMainAsk onGrant) s

/-- The status of CLOSE_MAIN by the main valve state (table of R149). -/
def closeStatus (s : State) : Status :=
  match s.lkg.main with
  | .opened => moveStatus (s.answer .main .mainClosed)
  | .opening => moveStatus (s.answer .main .mainClosed)
  | .unknown => moveStatus (s.answer .main .mainClosed)
  | .closing .test => .accepted
  | .fault => .wrongState
  | _ => .ok

/-- CLOSE_MAIN (R149). -/
def closeMainCmd : Handler := fun s => effect (closeStatus s) (closeMainTaken onGrant) s

/-- CLEAR_LEAK_LATCH (R152). -/
def clearLatchCmd : Handler := effect .ok fun s => if s.lkg.latch.isSome then clearLatch s else s

/-- The refusals of START_REGEN for a tank (R106, checks 2 to 4). -/
def checkStartRegen (s : State) (t : TankId) : Option Status :=
  firstFailing [(s.rgs.seq != .idle || s.rgs.move != .none, .busy),
    (s.serviceTank == some t || (s.tank t).st == .unconfigured, .wrongState), (!s.hasRegenStep, .conflict)]

/-- START_REGEN (R106). -/
def startRegenCmd (tank : Nat) : Handler := fun s =>
  match TankId.ofIndex tank with
  | none => status .badIndex s
  | some t =>
    match checkStartRegen s t with
    | some st => status st s
    | none => effect .accepted (rgsQueue onGrant t .command (s.tank t).st) s

/-- CANCEL_REGEN (R114). -/
def cancelRegenCmd : Handler := fun s =>
  match s.rgs.seq with
  | .idle => status .wrongState s
  | .parking => status .wrongState s
  | .queued => effect .ok (cancelQueued onGrant) s
  | _ => effect .accepted (cancelRun onGrant) s

/-- BYPASS_ON (R103). -/
def bypassOnCmd : Handler := fun s =>
  if s.rgs.move ≠ .none then status .busy s
  else if s.confirmed = some .bypass then status .ok s
  else effect .accepted (bypassOnTaken onGrant) s

/-- BYPASS_OFF (R103, R178). -/
def bypassOffCmd : Handler := fun s =>
  if s.rgs.move ≠ .none then status .busy s
  else if s.confirmed ≠ some .bypass then status .wrongState s
  else match bypassTarget s with
    | some t => effect .accepted (bypassOffTaken onGrant t) s
    | none => status .wrongState s

/-- START_BACKWASH (R140). -/
def startBackwashCmd : Handler := fun s =>
  match s.mediaStage with
  | none => status .wrongState s
  | some i =>
    if s.flt.st ≠ .idle then status .busy s
    else if (firstBwStep s.flt.program 0).isNone then status .conflict s
    else effect .accepted (fltQueue onGrant i .command) s

/-- START_LEAK_TEST (R161). -/
def startTestCmd : Handler := fun s =>
  if s.lkg.latch.isSome then status .latched s
  else if s.lkg.test.st ≠ .idle then status .busy s
  else effect .accepted (testStart onGrant .command) s

/-- The status of ABORT_LEAK_TEST (R164). -/
def abortStatus : TestState → Status
  | .idle => .wrongState
  | .waiting => .ok
  | .reopening => .ok
  | _ => .accepted

/-- ABORT_LEAK_TEST (R164). -/
def abortTestCmd : Handler := fun s => effect (abortStatus s.lkg.test.st) (abortTest onGrant) s

/-- SALT_REFILLED (R121). -/
def saltRefilledCmd (mass : Nat) : Handler := checked (firstFailing [(decide (500000 < mass), .range)]) (saltRefilled mass)

/-- FILTER_REPLACED (R138). -/
def filterReplacedCmd (stage : Nat) : Handler := fun s =>
  if h : stage < 4 then checked (firstFailing [(s.stageBusy ⟨stage, h⟩, .busy)]) (filterReplacedTaken ⟨stage, h⟩) s
  else status .badIndex s

/-- The first-fault record cleared: valid and LOST (R173). -/
def clearRecord (s : State) : State :=
  { s with mgu := { s.mgu with fault := { s.mgu.fault with valid := false, lost := false } } }

/-- CLEAR_FAULT of the first-fault record (R173). -/
def clearRecordCmd : Handler := effect .ok clearRecord

/-- CLEAR_FAULT by its argument: an actuator 0 to 3, or 4 for the first-fault record (R70, R171, R173). -/
def clearFaultCmd (arg : Nat) : Handler := fun s =>
  match Actr.ofIndex arg with
  | some a => if (s.act a).run.inFault then effect .ok (clearActFault a) s else status .wrongState s
  | none => if arg = 4 then clearRecordCmd s else status .badIndex s

/-- CLEAR_SLIP (R91). -/
def clearSlipCmd : Handler := effect .ok clearSlip

/-- The calendar set (R174). -/
def setCalendar (day second : Nat) (s : State) : State :=
  { s with mgu := { s.mgu with timeValid := true, day := day, secondOfDay := second } }

/-- SET_TIME (R174). -/
def setTimeCmd (day second : Nat) : Handler :=
  checked (firstFailing [(decide (86399 < second), .range)]) (setCalendar day second)

/-- RESTART: the restart-pending mark is set (R175). -/
def restartCmd : Handler := effect .accepted fun s => { s with mgu := { s.mgu with restartPending := true } }

/-- A message of an unknown type, a wrong length or an unknown verb (R167, R171). -/
def malformed : Handler := status .malformed

end Sys2Proof.Machine
end

