-- ==== Sys2Proof/Machine/Messages.lean ====
section
/-! DEFINITION. Requests as messages: the body of each (R169 to R172, R177), written and read; the request receiver (R166)
and the judgement of a message that closes (R167). -/

namespace Sys2Proof.Machine

/-! ### Bodies of requests -/

/-- A body as its type, tag and bytes (R177). -/
def request (type tag : Byte) (body : List Byte) : List Byte := type :: tag :: body

/-- WRITE_ENTRY's message: table, index, contents (R169, R177). -/
def writeMessage (tag : Byte) (table i : Nat) (contents : List Byte) : List Byte :=
  request 2 tag (toByte table :: toByte i :: contents)

/-- READ_STATE's message (R170, R177). -/
def stateMessage (tag : Byte) (object i part mode : Nat) : List Byte :=
  request 4 tag [toByte object, toByte i, toByte part, toByte mode]

/-- COMMAND's message: the verb and five argument bytes (R171, R177). -/
def commandMessage (tag : Byte) (verb : Nat) (args : List Byte) : List Byte :=
  request 6 tag (toByte verb :: (args ++ List.replicate (5 - args.length) 0))

/-- The table of a curve (R169). -/
def curveTable : CurveId → Nat
  | .hardness => 7 | .brine => 8 | .efficiency => 9

/-- The table and contents of a plain write (R169); `none` for contents that no message spells. -/
def plainBytes : PlainContents → Option (Nat × List Byte)
  | .reportConst b => some (2, [b])
  | .driveMask b => some (3, [b])
  | .regenStep c => c.map fun x => (12, pack regenStepWidths (regenStepNums x))
  | .backwashStep c => c.map fun x => (15, pack backwashStepWidths (backwashStepNums x))
  | .zoneWindow c => c.map fun x => (17, pack zoneWindowWidths (zoneWindowNums x))
  | .leakConfig c => c.map fun x => (18, pack leakConfigWidths (leakConfigNums x))
  | .unusable _ => none

/-- The message of a request, before its CRC-16 and its escaping; `none` for an event, which no message spells, and for
contents that hold no record. -/
def encodeRequest : Instr → Option (List Byte)
  | .readEntry tag t i => some (request 1 tag [toByte t, toByte i])
  | .writeEntry tag i c => (plainBytes c).map fun p => writeMessage tag p.1 i p.2
  | .writeEntryLane tag i c => c.map fun x => writeMessage tag 0 i (pack laneWidths (laneNums x))
  | .writeEntryReportField tag i c => c.map fun x => writeMessage tag 1 i (pack reportWidths (reportNums x))
  | .writeEntryChannel tag i c => c.map fun x => writeMessage tag 4 i (pack channelWidths (channelNums x))
  | .writeEntryPreset tag i r => some (writeMessage tag 5 i (num 1 r))
  | .writeEntryTracker tag i c => c.map fun x => writeMessage tag 6 i (pack trackerWidths (trackerNums x))
  | .writeEntryCurve tag id i pts => some (writeMessage tag (curveTable id) i (curveBytes pts))
  | .writeEntrySoftener tag i c => c.map fun x => writeMessage tag 10 i (pack softenerWidths (softenerNums x))
  | .writeEntryTank tag i c => some (writeMessage tag 11 i (pack tankWidths (tankNums c)))
  | .writeEntrySalt tag i c => some (writeMessage tag 13 i (pack saltWidths (saltNums c)))
  | .writeEntryStage tag i c => c.map fun x => writeMessage tag 14 i (pack stageWidths (stageNums x))
  | .writeEntryLeakRule tag i c => c.map fun x => writeMessage tag 16 i (pack leakRuleWidths (leakRuleNums x))
  | .writeEntryActuator tag i c => c.map fun x => writeMessage tag 19 i (pack actuatorWidths (actuatorNums x))
  | .readResult tag ch mode => some (request 3 tag [toByte ch, toByte mode])
  | .readState tag o i p m => some (stateMessage tag o i p m)
  | .readStateLane tag i p m => some (stateMessage tag 0 i p m)
  | .readStateTracker tag i p m => some (stateMessage tag 1 i p m)
  | .readStateActuator tag i p m => some (stateMessage tag 2 i p m)
  | .readStateTank tag i p m => some (stateMessage tag 3 i p m)
  | .readStateLeakGuard tag i p m => some (stateMessage tag 8 i p m)
  | .ackChanges tag lo hi => some (request 5 tag [lo, hi])
  | .openMain tag => some (commandMessage tag 0 [])
  | .closeMain tag => some (commandMessage tag 1 [])
  | .clearLeakLatch tag => some (commandMessage tag 2 [])
  | .startRegen tag t => some (commandMessage tag 3 (num 1 t))
  | .cancelRegen tag => some (commandMessage tag 4 [])
  | .bypassOn tag => some (commandMessage tag 5 [])
  | .bypassOff tag => some (commandMessage tag 6 [])
  | .startBackwash tag => some (commandMessage tag 7 [])
  | .startLeakTest tag => some (commandMessage tag 8 [])
  | .abortLeakTest tag => some (commandMessage tag 9 [])
  | .saltRefilled tag m => some (commandMessage tag 10 (num 3 m))
  | .filterReplaced tag st => some (commandMessage tag 11 (num 1 st))
  | .clearFault tag arg => some (commandMessage tag 12 (num 1 arg))
  | .clearFaultRecord tag => some (commandMessage tag 12 (num 1 4))
  | .clearSlip tag => some (commandMessage tag 13 [])
  | .setTime tag d sec => some (commandMessage tag 14 (num 2 d ++ num 3 sec))
  | .restart tag => some (commandMessage tag 15 [])
  | _ => none

/-! ### Reading a body -/

/-- The write of a table whose contents have the right length (R169). -/
def decodeContents (tag : Byte) (table i : Nat) (cs : List Byte) : Instr :=
  match table with
  | 0 => .writeEntryLane tag i (laneOf (unpack laneWidths cs))
  | 1 => .writeEntryReportField tag i (reportOf (unpack reportWidths cs))
  | 2 => .writeEntry tag i (.reportConst (cs.getD 0 0))
  | 3 => .writeEntry tag i (.driveMask (cs.getD 0 0))
  | 4 => .writeEntryChannel tag i (channelOf (unpack channelWidths cs))
  | 5 => .writeEntryPreset tag i (ofBytes cs)
  | 6 => .writeEntryTracker tag i (trackerOf (unpack trackerWidths cs))
  | 10 => .writeEntrySoftener tag i (softenerOf (unpack softenerWidths cs))
  | 11 => match tankOf (unpack tankWidths cs) with
    | some c => .writeEntryTank tag i c
    | none => .writeEntry tag i (.unusable table)
  | 12 => .writeEntry tag i (.regenStep (regenStepOf (unpack regenStepWidths cs)))
  | 13 => match saltOf (unpack saltWidths cs) with
    | some c => .writeEntrySalt tag i c
    | none => .writeEntry tag i (.unusable table)
  | 14 => .writeEntryStage tag i (stageOf (unpack stageWidths cs))
  | 15 => .writeEntry tag i (.backwashStep (backwashStepOf (unpack backwashStepWidths cs)))
  | 16 => .writeEntryLeakRule tag i (leakRuleOf (unpack leakRuleWidths cs))
  | 17 => .writeEntry tag i (.zoneWindow (zoneWindowOf (unpack zoneWindowWidths cs)))
  | 18 => .writeEntry tag i (.leakConfig (leakConfigOf (unpack leakConfigWidths cs)))
  | 19 => .writeEntryActuator tag i (actuatorOf (unpack actuatorWidths cs))
  | _ => .writeEntry tag i (.unusable table)

/-- The curve of a table. -/
def curveOfTable : Nat → Option CurveId
  | 7 => some .hardness | 8 => some .brine | 9 => some .efficiency | _ => none

/-- The write of a curve: the length must be that of its count (R169). -/
def decodeCurve (tag : Byte) (id : CurveId) (i : Nat) (cs : List Byte) : Instr :=
  match cs with
  | n :: pts =>
    if pts.length = 4 * n.toNat then .writeEntryCurve tag id i (unCurve n.toNat pts)
    else .writeEntry tag i (.unusable (curveTable id))
  | [] => .writeEntry tag i (.unusable (curveTable id))

/-- WRITE_ENTRY read from its table, index and contents: a table above 19 and contents of the wrong length stand as
unusable (R169). -/
def decodeWrite (tag : Byte) (table i : Nat) (cs : List Byte) : Instr :=
  match curveOfTable table with
  | some id => decodeCurve tag id i cs
  | none =>
    if contentsLength table = some cs.length then decodeContents tag table i cs
    else .writeEntry tag i (.unusable table)

/-- READ_STATE read from its object (R170). -/
def decodeState (tag : Byte) (object i part mode : Nat) : Instr :=
  match object with
  | 0 => .readStateLane tag i part mode
  | 1 => .readStateTracker tag i part mode
  | 2 => .readStateActuator tag i part mode
  | 3 => .readStateTank tag i part mode
  | 8 => .readStateLeakGuard tag i part mode
  | _ => .readState tag object i part mode

/-- COMMAND read from its verb and argument bytes (R171); a verb above 15 is malformed. -/
def decodeCommand (tag : Byte) (verb : Nat) (args : List Byte) : Option Instr :=
  match verb with
  | 0 => some (.openMain tag)
  | 1 => some (.closeMain tag)
  | 2 => some (.clearLeakLatch tag)
  | 3 => some (.startRegen tag (numAt args 0 1))
  | 4 => some (.cancelRegen tag)
  | 5 => some (.bypassOn tag)
  | 6 => some (.bypassOff tag)
  | 7 => some (.startBackwash tag)
  | 8 => some (.startLeakTest tag)
  | 9 => some (.abortLeakTest tag)
  | 10 => some (.saltRefilled tag (numAt args 0 3))
  | 11 => some (.filterReplaced tag (numAt args 0 1))
  | 12 => some (if numAt args 0 1 = 4 then .clearFaultRecord tag else .clearFault tag (numAt args 0 1))
  | 13 => some (.clearSlip tag)
  | 14 => some (.setTime tag (numAt args 0 2) (numAt args 2 3))
  | 15 => some (.restart tag)
  | _ => none

/-- A message of a known type read from its body; `none` for a length that is wrong for the type (R167, check 6). -/
def decodeBody (type tag : Byte) (body : List Byte) : Option Instr :=
  match type.toNat, body with
  | 1, [t, i] => some (.readEntry tag t.toNat i.toNat)
  | 2, t :: i :: cs => some (decodeWrite tag t.toNat i.toNat cs)
  | 3, [ch, mode] => some (.readResult tag ch.toNat mode.toNat)
  | 4, [o, i, p, m] => some (decodeState tag o.toNat i.toNat p.toNat m.toNat)
  | 5, [lo, hi] => some (.ackChanges tag lo hi)
  | 6, [v, a, b, c, d, e] => decodeCommand tag v.toNat [a, b, c, d, e]
  | _, _ => none

/-- A message, its CRC-16 taken off, read as a request; `none` is answered MALFORMED (R167). -/
def decodeRequest : List Byte → Option Instr
  | type :: tag :: body => decodeBody type tag body
  | _ => none

/-! ### Executing a request -/

/-- The tag and the handler of a request; `none` for a command that is no request. -/
def handlerOf : Instr → Option (Byte × Handler)
  | .readEntry tag t i => some (tag, readEntry t i)
  | .writeEntry tag i c => some (tag, writePlain i c)
  | .writeEntryLane tag i c => some (tag, writeLane i c)
  | .writeEntryReportField tag i c => some (tag, writeReportField i c)
  | .writeEntryChannel tag i c => some (tag, writeChannel i c)
  | .writeEntryPreset tag i r => some (tag, writePreset i r)
  | .writeEntryTracker tag i c => some (tag, writeTracker i c)
  | .writeEntryCurve tag id i pts => some (tag, writeCurve id i pts)
  | .writeEntrySoftener tag i c => some (tag, writeSoftenerEntry i c)
  | .writeEntryTank tag i c => some (tag, writeTankEntry i c)
  | .writeEntrySalt tag i c => some (tag, writeSaltEntry i c)
  | .writeEntryStage tag i c => some (tag, writeStageEntry i c)
  | .writeEntryLeakRule tag i c => some (tag, writeLeakRuleEntry i c)
  | .writeEntryActuator tag i c => some (tag, writeActuatorEntry i c)
  | .readResult tag ch mode => some (tag, readResult ch mode)
  | .readState tag o i p m => some (tag, readState o i p m)
  | .readStateLane tag i p m => some (tag, readState 0 i p m)
  | .readStateTracker tag i p m => some (tag, readState 1 i p m)
  | .readStateActuator tag i p m => some (tag, readState 2 i p m)
  | .readStateTank tag i p m => some (tag, readState 3 i p m)
  | .readStateLeakGuard tag i p m => some (tag, readState 8 i p m)
  | .ackChanges tag lo hi => some (tag, ackChanges lo hi)
  | .openMain tag => some (tag, openMainCmd)
  | .closeMain tag => some (tag, closeMainCmd)
  | .clearLeakLatch tag => some (tag, clearLatchCmd)
  | .startRegen tag t => some (tag, startRegenCmd t)
  | .cancelRegen tag => some (tag, cancelRegenCmd)
  | .bypassOn tag => some (tag, bypassOnCmd)
  | .bypassOff tag => some (tag, bypassOffCmd)
  | .startBackwash tag => some (tag, startBackwashCmd)
  | .startLeakTest tag => some (tag, startTestCmd)
  | .abortLeakTest tag => some (tag, abortTestCmd)
  | .saltRefilled tag m => some (tag, saltRefilledCmd m)
  | .filterReplaced tag st => some (tag, filterReplacedCmd st)
  | .clearFault tag arg => some (tag, clearFaultCmd arg)
  | .clearFaultRecord tag => some (tag, clearRecordCmd)
  | .clearSlip tag => some (tag, clearSlipCmd)
  | .setTime tag d sec => some (tag, setTimeCmd d sec)
  | .restart tag => some (tag, restartCmd)
  | _ => none

/-- A request executed (R167). -/
def runRequest (i : Instr) (s : State) : State :=
  match handlerOf i with
  | some (tag, h) => answer tag h s
  | none => s

/-- A message that has passed its CRC executed, or answered MALFORMED (R167). -/
def runMessage (bytes : List Byte) (s : State) : State :=
  match decodeRequest bytes with
  | some i => runRequest i s
  | none => answer (bytes.getD 1 0) malformed s

/-- A message that closes, judged by its count and its CRC (R167, checks 1 to 3). -/
def closeMessage (bytes : List Byte) (count : Nat) (s : State) : State :=
  if 53 < count ∨ count < 4 then s
  else
    let body := bytes.take (bytes.length - 2)
    if crc16Bytes body = bytes.drop (bytes.length - 2) then runMessage body s else s

/-! ### The request receiver (R166) -/

/-- COLLECTING with no bytes. -/
def ReqReceiver.fresh : ReqReceiver := { collecting := true, escape := false, bytes := [], count := 0 }

/-- A byte appended: counted, and kept while the count is 53 or less (R166). -/
def ReqReceiver.append (r : ReqReceiver) (b : Byte) : ReqReceiver :=
  { r with
    escape := false
    bytes := if r.count + 1 ≤ 53 then r.bytes ++ [b] else r.bytes
    count := satAdd 255 r.count 1 }

/-- The receiver after a byte, and whether the byte closes a message (table of R166). -/
def receiverStep (b : Byte) (r : ReqReceiver) : ReqReceiver × Bool :=
  if r.collecting then
    if r.escape then (if b = delimiter then ReqReceiver.fresh else r.append (b ^^^ 0x20), false)
    else if b = delimiter then (ReqReceiver.fresh, decide (0 < r.count))
    else if b = escapeByte then ({ r with escape := true }, false)
    else (r.append b, false)
  else (if b = delimiter then ReqReceiver.fresh else r, false)

/-- Replaces the request receiver. -/
def setReceiver (r : ReqReceiver) (s : State) : State := { s with mgu := { s.mgu with rx := r } }

/-- A message byte taken (R166). -/
def receiveByte (b : Byte) (s : State) : State :=
  let r := s.mgu.rx
  let s1 := setReceiver (receiverStep b r).1 s
  if (receiverStep b r).2 then closeMessage r.bytes r.count s1 else s1

end Sys2Proof.Machine
end

