-- ==== Sys2Proof/Machine/Frames.lean ====
section
/-! DEFINITION. What drives the block in time: events still due (assumption 1), the good frames of both ports, the frame
timer, the internal second, the end of a sent frame, the warm restart and the power-on reset (R1 to R6, R174, R175). -/

namespace Sys2Proof.Machine

/-! ### Events still due -/

/-- The eight channels. -/
def allChannels : List (Fin 8) := List.finRange 8

/-- Every event, in the order in which those still due are taken before time goes on (assumption 1). -/
def events : List (State → State) :=
  allChannels.map periodTimeout ++ allChannels.map channelResult ++ allChannels.map windowAbandoned
    ++ [fieldStaleEvent, gatewayStaleEvent]
    ++ allActrs.map arrivalEvent ++ allActrs.map stallEvent ++ allActrs.map adoptionEvent ++ allActrs.map timeoutEvent
    ++ allActrs.map pauseEvent ++ allActrs.map displacementEvent
    ++ [drainGrantEvent, regenStepEndEvent, regenHoldEvent, settlingEvent, bwStepEndEvent, bwHoldEvent, testWindowEvent,
      testSettleEvent, testMeasureEvent, testCalendarEvent, calendarRegenEvent]
    ++ (List.finRange 16).map ruleTripEvent ++ [drawEndEvent] ++ (List.finRange 8).map zoneSilentEvent
    ++ [fieldLostEvent, retryEvent] ++ (List.finRange 4).map stageDueEvent ++ [demandEvent, queueEvent]

/-- The events of a list taken in order. -/
def takeAll (l : List (State → State)) (s : State) : State := l.foldl (fun s f => f s) s

/-- Every event still due is taken (assumption 1). -/
def settle (s : State) : State := takeAll events s

/-! ### Good frames (R2, R5) -/

/-- The notices of freshness to TRK, RGS, FLT and LKG (R4). -/
def freshNotices (s : State) : State := lkgFresh (fltResume onGrant (rgsResume onGrant (trkFresh s)))

/-- The field link FRESH, at a good field frame (R4). -/
def linkFresh (s : State) : State :=
  if s.link.fieldFresh then s
  else freshNotices (raise .field { s with link := { s.link with fieldFresh := true } })

/-- The moisture sample of a frame: that of the enabled lane with the intake flag (R15). -/
def moistureOut (s : State) (outs : Vector LaneOut 32) : Option Nat :=
  match (List.finRange 32).find? fun i => s.lanes[i].desc.is .value && s.lanes[i].desc.moisture with
  | some i => outs[i].sample
  | none => none

/-- The moisture sample handed to LKG (R15, R158). -/
def moistureFrame (outs : Vector LaneOut 32) (s : State) : State :=
  match moistureOut s outs with
  | some v => moistureSample onGrant v s
  | none => s

/-- A good frame handed to LX and on to its consumers (R2, step 4). -/
def lanesFrame (slots : Vector Byte 20) (s : State) : State :=
  let outs := laneOuts s.lanes slots
  moistureFrame outs (actsFrame outs (mchFrame outs (lxFrame slots s)))

/-- A good field frame taken (R2). -/
def fieldFrame (slots : Vector Byte 20) (s : State) : State :=
  let s1 := linkFresh { s with link := { s.link with fieldMissing := 0, fieldSeen := true } }
  emissionTrigger (lanesFrame slots { s1 with link := { s1.link with lastField := some slots } })

/-- A good control frame taken (R5). -/
def controlFrame (drive : Vector Byte 6) (first second : Byte) (s : State) : State :=
  let s1 := { s with link := { s.link with gwMissing := 0, gwSeen := true, driveBytes := drive } }
  let s2 := receiveByte second (receiveByte first s1)
  { s2 with link := { s2.link with gwFresh := true } }

/-! ### Runs of bytes (R1) -/

/-- The length of a port's frame kind (R1, R176). -/
def frameLength : Port → Nat
  | .frx => 22
  | .grx => 10

/-- A byte collected by a receiver: counted, and kept while it is at most one more than the length (R1). -/
def Receiver.collect (limit : Nat) (r : Receiver) (b : Byte) : Receiver :=
  { r with kept := if r.count ≤ limit then r.kept ++ [b] else r.kept, count := r.count + 1 }

/-- A run collected, `framing` saying whether a byte of it had a framing error (R1). -/
def collectRun (limit : Nat) (bytes : List Byte) (framing : Bool) : Receiver :=
  bytes.foldl (Receiver.collect limit) { Receiver.empty with framing := framing }

/-- The run is a good frame of a length (R1). -/
def Receiver.good (len : Nat) (r : Receiver) : Bool :=
  !r.framing && r.kept.head? == some syncByte && r.count == len
    && crc8 ((r.kept.drop 1).take (len - 2)) == r.kept.getD (len - 1) 0

/-- A run judged at its end: a good one is taken as its frame, any other discarded whole (R1). -/
def runTaken (p : Port) (bytes : List Byte) (framing : Bool) (s : State) : State :=
  let r := collectRun (frameLength p) bytes framing
  if r.good (frameLength p) then
    match p with
    | .frx => fieldFrame (Vector.ofFn fun i => r.kept.getD (i.val + 1) 0) (settle s)
    | .grx => controlFrame (Vector.ofFn fun i => r.kept.getD (i.val + 1) 0) (r.kept.getD 7 0) (r.kept.getD 8 0) s
  else s

/-! ### The frame timer (R3) -/

/-- A missing frame (R3, R26). -/
def missingFrame (s : State) : State :=
  mchMissing (lxMissing { s with link := { s.link with fieldMissing := satAdd 250 s.link.fieldMissing 1 } })

/-- The field side of an expiry (R3). -/
def timerField (s : State) : State :=
  let s1 := if s.link.fieldSeen then s else missingFrame s
  { s1 with link := { s1.link with fieldSeen := false } }

/-- The gateway side of an expiry (R3). -/
def timerGateway (s : State) : State :=
  { s with link := { s.link with
    gwMissing := if s.link.gwSeen then s.link.gwMissing else satAdd 250 s.link.gwMissing 1, gwSeen := false } }

/-- An expiry of the frame timer (R3); it is an emission trigger while the link is FIELD_STALE (R6). The drive frame of the
very expiry that brings the gateway count to 250 is composed before GATEWAY_STALE is taken (assumption 36), and those of an
expiry while FIELD_STALE after its missing-frame notice, which may raise LANE (assumption 45). -/
def frameTimer (s : State) : State :=
  let s1 := timerGateway (timerField s)
  if s.link.fieldFresh then s1 else emissionTrigger s1

/-! ### The internal second (R174) -/

/-- The second of day after an advance, and whether the day ends (R174). -/
def nextOfDay (n : Nat) : Nat × Bool := if n + 1 = 86400 then (0, true) else (n + 1, false)

/-- The calendar's advance, with the calendar triggers it reaches (R105, R161, R174). -/
def calendarSecond (s : State) : State :=
  if s.mgu.timeValid then
    let n := nextOfDay s.mgu.secondOfDay
    { s with
      mgu := { s.mgu with secondOfDay := n.1, day := if n.2 then wrapAdd 65536 s.mgu.day 1 else s.mgu.day }
      rgs := { s.rgs with calendarDue := (match s.acc.settings.regenHour with
        | some h => decide (n.1 = h * 3600) | none => false) }
      lkg := { s.lkg with calendarDue := decide (n.1 = s.lkg.config.testHour * 3600) } }
  else s

/-- The settling timer at an internal second (R127). -/
def saltSecond (s : State) : State :=
  { s with slt := { s.slt with refill := { s.slt.refill with timer := tick s.slt.refill.timer } } }

/-- The seconds counters and timers of ACT, RGS, SLT and FLT. -/
def countersSecond (s : State) : State :=
  fltSecond (stagesSecond (saltSecond (rgsSecond (tanksSecond (actsSecond s)))))

/-- The judgements of LKG: rules, zones, draw event, field loss and test. -/
def guardSecond (s : State) : State :=
  testSecond onGrant (lossSecond (drawSecond (judgeZoneRules onGrant (zonesSecond (rulesSecond s)))))

/-- An internal second (R174): the count, the calendar, every seconds counter and every judgement of a second. -/
def secondPassed (s : State) : State :=
  queueSecond (retrySecond (guardSecond (countersSecond (calendarSecond (nextSecond s)))))

/-! ### Resets (R175 and each chapter's) -/

/-- MGU at a warm restart (R175). -/
def mguRestart (s : State) : State :=
  { s with mgu := { s.mgu with rx := ReqReceiver.hunt, restartPending := false } }

/-- The warm restart, block by block (R175; the order between the blocks is assumption 6). The lanes' reset notices change
no channel that the restart has reset (R9, R27, assumption 35). -/
def warmRestart (s : State) : State :=
  mguRestart (lkgRestart (drainRestart (fltRestart (sltRestart (accRestart
    (rgsRestart (actsRestart (trkRestart (mchRestart (lxRestart s))))))))))

/-- The restart takes effect: it is pending and its reply, the newest, has been sent (R175). -/
def State.restartDue (s : State) : Bool := s.mgu.restartPending && s.mgu.replies.isEmpty

/-- The end of a transmitted frame (R6, R175): on GTX a restart that is due is taken before the pending frame starts. -/
def frameEnd (p : OutPort) (s : State) : State :=
  if (s.transmitter p).sending.isSome then
    afterFrame p (if p = .gtx ∧ s.restartDue then warmRestart s else s)
  else s

/-- The power-on reset: the state of every chapter's power-on values. The queue and the count of free choices are the
model's own and stay. -/
def powerOn (s : State) : State := { State.reset with choices := s.choices, pending := s.pending }

end Sys2Proof.Machine
end

