-- ==== Sys2Proof/Machine/LinkCommands.lean ====
section
/-! DEFINITION. The commands of the link and of time: resets, frames, runs, the frame timer and the internal second (R1 to R6, R174). -/

namespace Sys2Proof.Machine

/-- POWER_ON_RESET: every chapter's power-on values are set (R3 and each chapter's Resets). The queue of waiting
commands and the count of free choices are the model's own and stay. -/
def execPowerOnReset (s : State) : Host.Outcome State Fault Refusal := .next (powerOn s)

/-- GOOD_FIELD_FRAME: a good field frame is taken: lanes, channels, actuators, moisture intake and the emission
trigger (R2, R4). Events still due are taken first (assumption 1). -/
def execGoodFieldFrame (slots : Vector Byte 20) (s : State) : Host.Outcome State Fault Refusal :=
  .next (fieldFrame slots (settle s))

/-- DISCARDED_RUN: a run that is no good frame is discarded whole (R1). A run that is in truth good is taken as its
frame, as the receiver would take it (assumption 15). -/
def execDiscardedRun (port : Port) (bytes : List Byte) (framingError : Bool) (s : State) : Host.Outcome State Fault Refusal :=
  .next (runTaken port bytes framingError s)

/-- GOOD_CONTROL_FRAME: a good control frame is taken: the stored drive bytes and the two message bytes (R5). -/
def execGoodControlFrame (drive : Vector Byte 6) (first second : Byte) (s : State) : Host.Outcome State Fault Refusal :=
  .next (controlFrame drive first second s)

/-- FRAME_TIMER_EXPIRY: an expiry of the frame timer is judged for both ports (R3), and is an emission trigger while
FIELD_STALE (R6). Events still due are taken first (assumption 1). -/
def execFrameTimerExpiry (s : State) : Host.Outcome State Fault Refusal := .next (frameTimer (settle s))

/-- FIELD_LINK_STALE: the field link becomes FIELD_STALE when its count has reached 250 (R4). -/
def execFieldLinkStale (s : State) : Host.Outcome State Fault Refusal := .next (fieldStaleEvent s)

/-- GATEWAY_STALE: the gateway link becomes GW_STALE when its count has reached 250 (R5). -/
def execGatewayStale (s : State) : Host.Outcome State Fault Refusal := .next (gatewayStaleEvent s)

/-- TRANSMITTER_FRAME_END: a transmitter ends its frame and starts the pending one, if any (R6); a restart that is due
is taken at the end of a report frame (R175). -/
def execTransmitterFrameEnd (port : OutPort) (s : State) : Host.Outcome State Fault Refusal := .next (frameEnd port s)

/-- INTERNAL_SECOND: an internal second: the count, the calendar, every seconds counter and every judgement made at a
second (R174). Events still due are taken first (assumption 1). -/
def execInternalSecond (s : State) : Host.Outcome State Fault Refusal := .next (secondPassed (settle s))

end Sys2Proof.Machine
end

