-- ==== Sys2Proof/Machine/StateCommands.lean ====
section
/-! DEFINITION. The state requests READ_RESULT, READ_STATE and ACK_CHANGES, one meaning for each row (R38, R170, R172). -/

namespace Sys2Proof.Machine

/-- READ_RESULT: a channel's last result is read, and perhaps acknowledged (R38). -/
def execReadResult (tag : Byte) (channel mode : Nat) (s : State) : Host.Outcome State Fault Refusal :=
  .next (answer tag (readResult channel mode) s)

/-- READ_STATE: a part of an object's state record is read (R170). -/
def execReadState (tag : Byte) (object index part mode : Nat) (s : State) : Host.Outcome State Fault Refusal :=
  .next (answer tag (readState object index part mode) s)

/-- READ_STATE_LANE: a lane's state is read, and perhaps its MISALIGN flag cleared (R14, R170). -/
def execReadStateLane (tag : Byte) (index part mode : Nat) (s : State) : Host.Outcome State Fault Refusal :=
  .next (answer tag (readState 0 index part mode) s)

/-- READ_STATE_TRACKER: a tracker's state is read, and perhaps its flags cleared (R54, R170). -/
def execReadStateTracker (tag : Byte) (index part mode : Nat) (s : State) : Host.Outcome State Fault Refusal :=
  .next (answer tag (readState 1 index part mode) s)

/-- READ_STATE_ACTUATOR: an actuator's state is read (R71, R170). -/
def execReadStateActuator (tag : Byte) (index part mode : Nat) (s : State) : Host.Outcome State Fault Refusal :=
  .next (answer tag (readState 2 index part mode) s)

/-- READ_STATE_TANK: a tank's state is read, and perhaps the CLAMP flag cleared (R96, R170). -/
def execReadStateTank (tag : Byte) (index part mode : Nat) (s : State) : Host.Outcome State Fault Refusal :=
  .next (answer tag (readState 3 index part mode) s)

/-- READ_STATE_LEAK_GUARD: the leak guard's state is read, and perhaps UNKNOWN_SENSOR cleared (R165, R170). -/
def execReadStateLeakGuard (tag : Byte) (index part mode : Nat) (s : State) : Host.Outcome State Fault Refusal :=
  .next (answer tag (readState 8 index part mode) s)

/-- ACK_CHANGES: the change summary is answered and the masked flags cleared (R172). -/
def execAckChanges (tag : Byte) (maskLo maskHi : Byte) (s : State) : Host.Outcome State Fault Refusal :=
  .next (answer tag (ackChanges maskLo maskHi) s)

end Sys2Proof.Machine
end

