-- ==== Sys2Proof/Machine/TableCommands.lean ====
section
/-! DEFINITION. The table requests READ_ENTRY and WRITE_ENTRY, one meaning for each row (R169). -/

namespace Sys2Proof.Machine

/-- READ_ENTRY: a table entry is read (R169). -/
def execReadEntry (tag : Byte) (table index : Nat) (s : State) : Host.Outcome State Fault Refusal :=
  .next (answer tag (readEntry table index) s)

/-- WRITE_ENTRY: a table entry with no effect of its own is written, or the table number or the length is refused
(R169). -/
def execWriteEntry (tag : Byte) (index : Nat) (c : PlainContents) (s : State) : Host.Outcome State Fault Refusal :=
  .next (answer tag (writePlain index c) s)

/-- WRITE_ENTRY_LANE: a lane is written and the run states it bears on are reset (R8, R9). -/
def execWriteEntryLane (tag : Byte) (index : Nat) (c : Option LaneDesc) (s : State) : Host.Outcome State Fault Refusal :=
  .next (answer tag (writeLane index c) s)

/-- WRITE_ENTRY_REPORT_FIELD: a report field is written (R16). -/
def execWriteEntryReportField (tag : Byte) (index : Nat) (c : Option ReportField) (s : State) : Host.Outcome State Fault Refusal :=
  .next (answer tag (writeReportField index c) s)

/-- WRITE_ENTRY_CHANNEL: a channel is written and reset (R21, R22). -/
def execWriteEntryChannel (tag : Byte) (index : Nat) (c : Option ChannelRec) (s : State) : Host.Outcome State Fault Refusal :=
  .next (answer tag (writeChannel index c) s)

/-- WRITE_ENTRY_PRESET: a filter preset is written (R23). -/
def execWriteEntryPreset (tag : Byte) (index : Nat) (r : Nat) (s : State) : Host.Outcome State Fault Refusal :=
  .next (answer tag (writePreset index r) s)

/-- WRITE_ENTRY_TRACKER: a tracker is written and set back (R40, R41). -/
def execWriteEntryTracker (tag : Byte) (index : Nat) (c : Option TrackerRec) (s : State) : Host.Outcome State Fault Refusal :=
  .next (answer tag (writeTracker index c) s)

/-- WRITE_ENTRY_CURVE: a curve is written (R86). -/
def execWriteEntryCurve (tag : Byte) (curve : CurveId) (index : Nat) (points : List (Nat × Nat)) (s : State) : Host.Outcome State Fault Refusal :=
  .next (answer tag (writeCurve curve index points) s)

/-- WRITE_ENTRY_SOFTENER: the softener settings are written (R80, R81). -/
def execWriteEntrySoftener (tag : Byte) (index : Nat) (c : Option Softener) (s : State) : Host.Outcome State Fault Refusal :=
  .next (answer tag (writeSoftenerEntry index c) s)

/-- WRITE_ENTRY_TANK: a tank is written (R99). -/
def execWriteEntryTank (tag : Byte) (index : Nat) (c : TankContents) (s : State) : Host.Outcome State Fault Refusal :=
  .next (answer tag (writeTankEntry index c) s)

/-- WRITE_ENTRY_SALT: the salt settings are written (R120). -/
def execWriteEntrySalt (tag : Byte) (index : Nat) (c : SaltSettings) (s : State) : Host.Outcome State Fault Refusal :=
  .next (answer tag (writeSaltEntry index c) s)

/-- WRITE_ENTRY_STAGE: a filter stage is written (R134). -/
def execWriteEntryStage (tag : Byte) (index : Nat) (c : Option StageContents) (s : State) : Host.Outcome State Fault Refusal :=
  .next (answer tag (writeStageEntry index c) s)

/-- WRITE_ENTRY_LEAK_RULE: a leak rule is written (R154). -/
def execWriteEntryLeakRule (tag : Byte) (index : Nat) (c : Option LeakRule) (s : State) : Host.Outcome State Fault Refusal :=
  .next (answer tag (writeLeakRuleEntry index c) s)

/-- WRITE_ENTRY_ACTUATOR: an actuator is written and set back (R57, R58). -/
def execWriteEntryActuator (tag : Byte) (index : Nat) (c : Option ActuatorRec) (s : State) : Host.Outcome State Fault Refusal :=
  .next (answer tag (writeActuatorEntry index c) s)

end Sys2Proof.Machine
end

