-- ==== Sys2Proof/Machine/VerbCommands.lean ====
section
/-! DEFINITION. The requests of type COMMAND, one meaning for each verb (R171). -/

namespace Sys2Proof.Machine

/-- OPEN_MAIN: the main valve is asked to open (R150). -/
def execOpenMain (tag : Byte) (s : State) : Host.Outcome State Fault Refusal := .next (answer tag openMainCmd s)

/-- CLOSE_MAIN: the main valve is asked to close (R149). -/
def execCloseMain (tag : Byte) (s : State) : Host.Outcome State Fault Refusal := .next (answer tag closeMainCmd s)

/-- CLEAR_LEAK_LATCH: the leak latch is cleared (R152). -/
def execClearLeakLatch (tag : Byte) (s : State) : Host.Outcome State Fault Refusal := .next (answer tag clearLatchCmd s)

/-- START_REGEN: a regeneration is queued by command (R106). -/
def execStartRegen (tag : Byte) (tank : Nat) (s : State) : Host.Outcome State Fault Refusal :=
  .next (answer tag (startRegenCmd tank) s)

/-- CANCEL_REGEN: a regeneration is cancelled (R114). -/
def execCancelRegen (tag : Byte) (s : State) : Host.Outcome State Fault Refusal := .next (answer tag cancelRegenCmd s)

/-- BYPASS_ON: the SELECTOR is asked to BYPASS (R103). -/
def execBypassOn (tag : Byte) (s : State) : Host.Outcome State Fault Refusal := .next (answer tag bypassOnCmd s)

/-- BYPASS_OFF: the SELECTOR is asked back to a tank (R103, R178). -/
def execBypassOff (tag : Byte) (s : State) : Host.Outcome State Fault Refusal := .next (answer tag bypassOffCmd s)

/-- START_BACKWASH: a backwash is queued by command (R140). -/
def execStartBackwash (tag : Byte) (s : State) : Host.Outcome State Fault Refusal :=
  .next (answer tag startBackwashCmd s)

/-- START_LEAK_TEST: a decay test is started by command (R161). -/
def execStartLeakTest (tag : Byte) (s : State) : Host.Outcome State Fault Refusal := .next (answer tag startTestCmd s)

/-- ABORT_LEAK_TEST: a decay test is aborted (R164). -/
def execAbortLeakTest (tag : Byte) (s : State) : Host.Outcome State Fault Refusal := .next (answer tag abortTestCmd s)

/-- SALT_REFILLED: a mass of salt joins the store (R121). -/
def execSaltRefilled (tag : Byte) (mass : Nat) (s : State) : Host.Outcome State Fault Refusal :=
  .next (answer tag (saltRefilledCmd mass) s)

/-- FILTER_REPLACED: a stage's cartridge was replaced (R138). -/
def execFilterReplaced (tag : Byte) (stage : Nat) (s : State) : Host.Outcome State Fault Refusal :=
  .next (answer tag (filterReplacedCmd stage) s)

/-- CLEAR_FAULT: an actuator's fault is cleared (R70); the argument 4 names the record (R173). -/
def execClearFault (tag : Byte) (arg : Nat) (s : State) : Host.Outcome State Fault Refusal :=
  .next (answer tag (clearFaultCmd arg) s)

/-- CLEAR_FAULT_RECORD: the first-fault record is cleared (R173). -/
def execClearFaultRecord (tag : Byte) (s : State) : Host.Outcome State Fault Refusal :=
  .next (answer tag clearRecordCmd s)

/-- CLEAR_SLIP: the slip total and its flag are cleared (R91). -/
def execClearSlip (tag : Byte) (s : State) : Host.Outcome State Fault Refusal := .next (answer tag clearSlipCmd s)

/-- SET_TIME: the calendar is set (R174). -/
def execSetTime (tag : Byte) (day second : Nat) (s : State) : Host.Outcome State Fault Refusal :=
  .next (answer tag (setTimeCmd day second) s)

/-- RESTART: a warm restart is asked, and taken after the reply is sent (R175). -/
def execRestart (tag : Byte) (s : State) : Host.Outcome State Fault Refusal := .next (answer tag restartCmd s)

end Sys2Proof.Machine
end

