-- ==== Sys2Proof/Machine/Dispatch.lean ====
section
/-! DEFINITION. The dispatch: one arm for each row of spec/opcode_table.json, each one call of that row's meaning. -/

namespace Sys2Proof.Machine

open Sys2Proof

def exec (i : Instr) (s : State) : Host.Outcome State Fault Refusal :=
  match i with
  | .powerOnReset => Sys2Proof.Machine.execPowerOnReset s
  | .goodFieldFrame slots => Sys2Proof.Machine.execGoodFieldFrame slots s
  | .discardedRun port bytes framingError => Sys2Proof.Machine.execDiscardedRun port bytes framingError s
  | .goodControlFrame drive first second => Sys2Proof.Machine.execGoodControlFrame drive first second s
  | .frameTimerExpiry => Sys2Proof.Machine.execFrameTimerExpiry s
  | .fieldLinkStale => Sys2Proof.Machine.execFieldLinkStale s
  | .gatewayStale => Sys2Proof.Machine.execGatewayStale s
  | .transmitterFrameEnd port => Sys2Proof.Machine.execTransmitterFrameEnd port s
  | .channelResult ch => Sys2Proof.Machine.execChannelResult ch s
  | .periodTimeout ch => Sys2Proof.Machine.execPeriodTimeout ch s
  | .windowAbandoned ch => Sys2Proof.Machine.execWindowAbandoned ch s
  | .arrival a => Sys2Proof.Machine.execArrival a s
  | .travelTimeout a => Sys2Proof.Machine.execTravelTimeout a s
  | .pauseExpiry a => Sys2Proof.Machine.execPauseExpiry a s
  | .stall a => Sys2Proof.Machine.execStall a s
  | .displacement a => Sys2Proof.Machine.execDisplacement a s
  | .adoption a => Sys2Proof.Machine.execAdoption a s
  | .drainGrant => Sys2Proof.Machine.execDrainGrant s
  | .calendarRegenTrigger => Sys2Proof.Machine.execCalendarRegenTrigger s
  | .regenStepEnd => Sys2Proof.Machine.execRegenStepEnd s
  | .settlingExpiry => Sys2Proof.Machine.execSettlingExpiry s
  | .regenHoldLimit => Sys2Proof.Machine.execRegenHoldLimit s
  | .internalSecond => Sys2Proof.Machine.execInternalSecond s
  | .stageDue st => Sys2Proof.Machine.execStageDue st s
  | .backwashDemand => Sys2Proof.Machine.execBackwashDemand s
  | .backwashQueue => Sys2Proof.Machine.execBackwashQueue s
  | .backwashStepEnd => Sys2Proof.Machine.execBackwashStepEnd s
  | .backwashHoldLimit => Sys2Proof.Machine.execBackwashHoldLimit s
  | .ruleTimerTrip r => Sys2Proof.Machine.execRuleTimerTrip r s
  | .drawEventEnd => Sys2Proof.Machine.execDrawEventEnd s
  | .zoneSilent z => Sys2Proof.Machine.execZoneSilent z s
  | .fieldLost => Sys2Proof.Machine.execFieldLost s
  | .latchedCloseRetry => Sys2Proof.Machine.execLatchedCloseRetry s
  | .testCalendarTrigger => Sys2Proof.Machine.execTestCalendarTrigger s
  | .testWindowExpiry => Sys2Proof.Machine.execTestWindowExpiry s
  | .testSettleExpiry => Sys2Proof.Machine.execTestSettleExpiry s
  | .testMeasureExpiry => Sys2Proof.Machine.execTestMeasureExpiry s
  | .readEntry tag table index => Sys2Proof.Machine.execReadEntry tag table index s
  | .writeEntry tag index c => Sys2Proof.Machine.execWriteEntry tag index c s
  | .writeEntryLane tag index c => Sys2Proof.Machine.execWriteEntryLane tag index c s
  | .writeEntryReportField tag index c => Sys2Proof.Machine.execWriteEntryReportField tag index c s
  | .writeEntryChannel tag index c => Sys2Proof.Machine.execWriteEntryChannel tag index c s
  | .writeEntryPreset tag index r => Sys2Proof.Machine.execWriteEntryPreset tag index r s
  | .writeEntryTracker tag index c => Sys2Proof.Machine.execWriteEntryTracker tag index c s
  | .writeEntryCurve tag curve index points => Sys2Proof.Machine.execWriteEntryCurve tag curve index points s
  | .writeEntrySoftener tag index c => Sys2Proof.Machine.execWriteEntrySoftener tag index c s
  | .writeEntryTank tag index c => Sys2Proof.Machine.execWriteEntryTank tag index c s
  | .writeEntrySalt tag index c => Sys2Proof.Machine.execWriteEntrySalt tag index c s
  | .writeEntryStage tag index c => Sys2Proof.Machine.execWriteEntryStage tag index c s
  | .writeEntryLeakRule tag index c => Sys2Proof.Machine.execWriteEntryLeakRule tag index c s
  | .writeEntryActuator tag index c => Sys2Proof.Machine.execWriteEntryActuator tag index c s
  | .readResult tag channel mode => Sys2Proof.Machine.execReadResult tag channel mode s
  | .readState tag object index part mode => Sys2Proof.Machine.execReadState tag object index part mode s
  | .readStateLane tag index part mode => Sys2Proof.Machine.execReadStateLane tag index part mode s
  | .readStateTracker tag index part mode => Sys2Proof.Machine.execReadStateTracker tag index part mode s
  | .readStateActuator tag index part mode => Sys2Proof.Machine.execReadStateActuator tag index part mode s
  | .readStateTank tag index part mode => Sys2Proof.Machine.execReadStateTank tag index part mode s
  | .readStateLeakGuard tag index part mode => Sys2Proof.Machine.execReadStateLeakGuard tag index part mode s
  | .ackChanges tag maskLo maskHi => Sys2Proof.Machine.execAckChanges tag maskLo maskHi s
  | .openMain tag => Sys2Proof.Machine.execOpenMain tag s
  | .closeMain tag => Sys2Proof.Machine.execCloseMain tag s
  | .clearLeakLatch tag => Sys2Proof.Machine.execClearLeakLatch tag s
  | .startRegen tag tank => Sys2Proof.Machine.execStartRegen tag tank s
  | .cancelRegen tag => Sys2Proof.Machine.execCancelRegen tag s
  | .bypassOn tag => Sys2Proof.Machine.execBypassOn tag s
  | .bypassOff tag => Sys2Proof.Machine.execBypassOff tag s
  | .startBackwash tag => Sys2Proof.Machine.execStartBackwash tag s
  | .startLeakTest tag => Sys2Proof.Machine.execStartLeakTest tag s
  | .abortLeakTest tag => Sys2Proof.Machine.execAbortLeakTest tag s
  | .saltRefilled tag mass => Sys2Proof.Machine.execSaltRefilled tag mass s
  | .filterReplaced tag stage => Sys2Proof.Machine.execFilterReplaced tag stage s
  | .clearFault tag arg => Sys2Proof.Machine.execClearFault tag arg s
  | .clearFaultRecord tag => Sys2Proof.Machine.execClearFaultRecord tag s
  | .clearSlip tag => Sys2Proof.Machine.execClearSlip tag s
  | .setTime tag day second => Sys2Proof.Machine.execSetTime tag day second s
  | .restart tag => Sys2Proof.Machine.execRestart tag s

end Sys2Proof.Machine
end

