-- ==== Sys2Proof/Safety.lean ====
section
/-! DEFINITION. What claims about the block speak of: the parts of the state that the machine events leave alone, the
kinds of command, what an emission trigger leaves, and the laws that every step keeps. -/

namespace Sys2Proof.Machine

/-! ### Parts of the state -/

/-- What a move changes of an actuator's run state (R59, R63 to R68): a run state with these parts blanked. -/
def ActuatorRun.still (r : ActuatorRun) : ActuatorRun :=
  { r with st := .unknown, travel := none, pause := none, displace := none, lastConfirmed := none, stallSeen := false
           adoptSeen := false }

/-- An actuator with what a move changes blanked: its record, its filters, its recognised position and its last fault
stay. -/
def Actuator.still (x : Actuator) : Actuator := { x with run := x.run.still }

/-- A stage with all but its record blanked. -/
def Stage.still (x : Stage) : Stage := { Stage.reset with conf := x.conf }

/-- A leak rule with all but its record blanked. -/
def Rule.still (x : Rule) : Rule := { Rule.reset with conf := x.conf }

/-- The state with blanked: the moves of the actuators; the drain line; the allowance carry, the brine phase and the draw
accumulator; and all of RGS, SLT, FLT and LKG but their settings, programs, records and windows; the change summary and
the first-fault record. What is left is the state the machine events leave alone. -/
def State.apart (s : State) : State :=
  { s with
    main := s.main.still, selector := s.selector.still, regenRotor := s.regenRotor.still
    filterRotor := s.filterRotor.still
    drain := Drain.reset
    acc := { s.acc with allowCarry := 0, phase := .none, draw := DrawAcc.reset }
    rgs := { Rgs.reset with program := s.rgs.program }
    slt := { Salt.reset with settings := s.slt.settings }
    flt := { Flt.reset with program := s.flt.program, stages := Vector.ofFn fun i => s.flt.stages[i].still }
    lkg := { Lkg.reset with
      config := s.lkg.config, windows := s.lkg.windows, rules := Vector.ofFn fun i => s.lkg.rules[i].still }
    mgu := { s.mgu with changes := 0, fault := FaultRecord.reset } }

/-- An actuator with its last fault blanked. -/
def Actuator.unfaulted (x : Actuator) : Actuator := { x with run := { x.run with lastFault := none } }

/-- The state with what its faults too change blanked: what the faults of ACT leave alone (R69). -/
def State.apartFaults (s : State) : State :=
  let t := s.apart
  { t with
    main := t.main.unfaulted, selector := t.selector.unfaulted, regenRotor := t.regenRotor.unfaulted
    filterRotor := t.filterRotor.unfaulted }

end Sys2Proof.Machine

namespace Sys2Proof

/-! ### Kinds of command -/

/-- A request of the gateway: a command that a message spells (R167). -/
def Instr.isRequest (c : Instr) : Bool := (Machine.handlerOf c).isSome

/-- A command whose bytes may carry a request within: a frame of the gateway port. -/
def Instr.mayCarry : Instr → Bool
  | .goodControlFrame _ _ _ => true
  | .discardedRun .grx _ _ => true
  | _ => false

/-- A write whose contents READ_ENTRY reports as they were written: that of a table other than LANE, TANK, STAGE and
ACTUATOR, whose stored records differ from what was written (R8, R99, R134, R169). -/
def Instr.readsBack : Instr → Bool
  | .writeEntry _ _ _ | .writeEntryReportField _ _ _ | .writeEntryChannel _ _ _ | .writeEntryPreset _ _ _ => true
  | .writeEntryTracker _ _ _ | .writeEntryCurve _ _ _ _ | .writeEntrySoftener _ _ _ | .writeEntrySalt _ _ _ => true
  | .writeEntryLeakRule _ _ _ => true
  | _ => false

end Sys2Proof

namespace Sys2Proof.Machine

/-- A request that comes now is executed and answered: no restart is pending and the reply queue has room (R167). -/
abbrev State.takesRequests (s : State) : Prop := s.mgu.restartPending = false ∧ s.mgu.replies.length < 4

/-- Nobody waits for the drain line (R73). -/
abbrev State.noneWaits (s : State) : Prop :=
  s.drain.waitRegen = false ∧ s.drain.waitBackwash = false ∧ s.drain.waitTest = false

/-- An emission trigger that `u` meets has left `t`: a sending transmitter has a frame pending; an idle one sends a frame
composed as the state then stands, the report frame with the next two bytes that the reply transmitter offers; a trigger
that starts no report frame takes no reply byte (R6, R7, R19). -/
abbrev State.triggered (u t : State) : Prop :=
  (∀ p f, (u.transmitter p).sending = some f → t.transmitter p = { sending := some f, waiting := true })
    ∧ (u.link.ftx.sending = none → t.link.ftx = { sending := some (frameOf (driveSlots t)), waiting := false })
    ∧ (u.link.gtx.sending = none →
        t.link.gtx = { sending := some (frameOf (fieldSlots t ++ reportSlots t
          ++ [offeredByte u, offeredByte (offerByte u)])), waiting := false }
        ∧ t.mgu.replies = (offerByte (offerByte u)).mgu.replies ∧ t.mgu.sent = (offerByte (offerByte u)).mgu.sent)
    ∧ (u.link.gtx.sending ≠ none → t.mgu.replies = u.mgu.replies ∧ t.mgu.sent = u.mgu.sent)

/-! ### Laws that every step keeps -/

/-- The counts of LNK and MGU stay in their ranges (R3, R23, R166, R167, R174). -/
abbrev State.countLaw (s : State) : Prop :=
  s.link.fieldMissing ≤ 250 ∧ s.link.gwMissing ≤ 250 ∧ s.mgu.replies.length ≤ 4 ∧ s.mgu.rx.count ≤ 255
    ∧ s.mgu.rx.bytes.length ≤ min 53 s.mgu.rx.count ∧ s.mgu.seconds ≤ max32 ∧ s.mgu.secondOfDay ≤ 86399
    ∧ ∀ i : Fin 4, 1 ≤ s.presets[i] ∧ s.presets[i] ≤ 15

/-- Each carry is less than one increment (R81, R83, R84, R93). -/
abbrev State.carryLaw (s : State) : Prop :=
  (s.acc.pulseCarry = 0 ∨ s.acc.pulseCarry < s.acc.settings.k)
    ∧ (s.acc.brineCarry = 0 ∨ s.acc.brineCarry < s.acc.settings.kb) ∧ s.acc.allowCarry < 30000

/-- A tank holds at most its nominal and its seconds since regeneration stay in their range; the efficiency curve, on
which a restoration rests, gives at most 1024 (R86, R95, R98, R99). -/
abbrev State.tankLaw (s : State) : Prop :=
  s.rgs.tankA.remaining ≤ s.rgs.tankA.nominal ∧ s.rgs.tankB.remaining ≤ s.rgs.tankB.nominal
    ∧ s.rgs.tankA.seconds ≤ max32 ∧ s.rgs.tankB.seconds ≤ max32 ∧ ∀ p ∈ s.acc.efficiencyCurve, p.2 ≤ 1024

/-- The store holds at most the capacity (R120 to R122). -/
abbrev State.storeLaw (s : State) : Prop := s.slt.store ≤ s.slt.settings.capacity

/-- A step of a regeneration or a backwash is RUNNING only while the main is OPEN and the field link FRESH (R112,
R143). -/
abbrev State.supplyLaw (s : State) : Prop :=
  (s.rgs.seq = .running ∨ s.flt.st = .running) → s.lkg.main = .opened ∧ s.link.fieldFresh = true

/-- The law of the test and the drain, and its like for the runs: a regeneration or a backwash that is POSITIONING, RUNNING
or HELD, or PARKING with its outcome not decided, and a test past WAITING, holds the drain line (R109, R142, R162). -/
abbrev State.holderLaw (s : State) : Prop :=
  ((s.rgs.seq = .positioning ∨ s.rgs.seq = .running ∨ s.rgs.seq = .held
      ∨ (s.rgs.seq = .parking ∧ s.rgs.run.tank ≠ none)) → s.drain.holder = some .regen)
    ∧ ((s.flt.st = .positioning ∨ s.flt.st = .running ∨ s.flt.st = .held
      ∨ (s.flt.st = .parking ∧ s.flt.run.decided = false)) → s.drain.holder = some .backwash)
    ∧ (s.lkg.test.st ≠ .idle → s.lkg.test.st ≠ .waiting → s.drain.holder = some .test)

/-- MAIN is in a move toward OPEN only while the main valve state is OPENING, and a disabled MAIN is in no move (R58, R63,
R148, R150). -/
abbrev State.mainLaw (s : State) : Prop :=
  (s.main.run.target = some .mainOpen → s.lkg.main = .opening)
    ∧ (s.main.conf.enabled = false → s.main.run.target = none)

/-- The law of the latch: while the leak latch is set the main valve state is neither OPEN nor OPENING, MAIN is in no move
toward OPEN, and no decay test is in progress (R150, R151, R161, R164). -/
abbrev State.latchLaw (s : State) : Prop :=
  s.lkg.latch.isSome → s.lkg.main ≠ .opened ∧ s.lkg.main ≠ .opening ∧ s.main.run.target ≠ some .mainOpen
    ∧ s.lkg.test.st = .idle

/-- The position that a selector move in flight asks for (R101, R103). -/
def SelMove.target : SelMove → Option Pos
  | .none => Option.none
  | .swap x | .bypassOff x => some x.pos
  | .bypassOn => some .bypass

/-- The law of the regenerated tank: the tank of a run is REGENERATING and is not the one at the SELECTOR's last confirmed
position, the SELECTOR is in a move only as the selector move in flight has asked, that move does not target a REGENERATING
tank, and a SELECTOR at a position has that as its last confirmed one (R59, R101 to R103, R107). -/
abbrev State.runTankLaw (s : State) : Prop :=
  (∀ x, s.rgs.run.tank = some x → s.rgs.seq ≠ .idle ∧ (s.tank x).st = .regenerating ∧ s.confirmed ≠ some x.pos)
    ∧ s.selector.run.target = s.rgs.move.target
    ∧ (∀ x : TankId, s.rgs.move.target = some x.pos → (s.tank x).st ≠ .regenerating)
    ∧ ∀ p, s.selector.run.st = .at p → s.confirmed = some p

/-- A LOCKED tracker has an estimate, and every estimate and every clamp bound stays in the tracker's range (table of 3.1,
R40, R44, R45). -/
abbrev State.trackerLaw (s : State) : Prop :=
  ∀ i : Fin 7, (s.trackers[i].run.st = .locked → s.trackers[i].run.est.isSome)
    ∧ s.trackers[i].run.est.getD 0 ≤ roleMax i ∧ s.trackers[i].conf.lo ≤ roleMax i ∧ s.trackers[i].conf.hi ≤ roleMax i

/-- The allowance in force belongs to the holder of the drain line and is 0 without one; the holder does not wait (R73 to
R77). -/
abbrev State.drainLaw (s : State) : Prop :=
  (∀ r, s.drain.kind = some r → s.drain.holder = some r) ∧ (s.drain.kind = none → s.drain.allowance = 0)
    ∧ ∀ r, s.drain.holder = some r → s.drain.waits r = false

end Sys2Proof.Machine
end

