-- ==== Sys2Proof/WellFormed.lean ====
section
/-! DEFINITION. Well-formed commands: those that can come at the pins or from the gateway as they are written. A request's
numbers fit the bytes that carry them (R169 to R171, R177), an optional value differs from the number that spells none,
a READ_STATE or CLEAR_FAULT that has a row of its own stands under that row, and a discarded run is no good frame (R1).
No meaning in Machine/ rests on these checks. -/

namespace Sys2Proof

open Sys2Proof.Machine

/-- A number fits `w` bytes. -/
def fits (w n : Nat) : Bool := decide (n < 256 ^ w)

/-- A list of numbers fits a list of widths, entry by entry. -/
def fitsAll : List Nat → List Nat → Bool
  | w :: ws, n :: ns => fits w n && fitsAll ws ns
  | [], [] => true
  | _, _ => false

/-- An optional number that is written differs from the all-ones value that spells none (R169). -/
def notOnes (w : Nat) (o : Option Nat) : Bool := o != some (256 ^ w - 1)

/-- An optional number that is written differs from the 0 that spells none (R169). -/
def notZero (o : Option Nat) : Bool := o != some 0

/-- Contents that hold no record, or a record that passes a check. -/
def held {α : Type} (check : α → Bool) : Option α → Bool
  | some c => check c
  | none => true

/-- A lane's fields fit (1.2.1, R169). -/
def laneFits (d : LaneDesc) : Bool := fitsAll laneWidths (laneNums d) && notOnes 1 d.mark

/-- A report field's fields fit (R16, R169). -/
def reportFits (f : ReportField) : Bool := fitsAll reportWidths (reportNums f)

/-- A channel's fields fit (2.1, R169). -/
def channelFits (c : ChannelRec) : Bool :=
  fitsAll channelWidths (channelNums c) && notOnes 1 c.inB && notOnes 1 c.preset

/-- A tracker's fields fit (R39, R169). -/
def trackerFits (c : TrackerRec) : Bool := fitsAll trackerWidths (trackerNums c)

/-- The softener's fields fit (R79, R169). -/
def softenerFits (c : Softener) : Bool :=
  fitsAll softenerWidths (softenerNums c) && notOnes 1 c.regenHour && notZero c.maxDays && notOnes 1 c.inlet
    && notOnes 1 c.brine

/-- A tank's fields fit (R99, R169). -/
def tankFits (c : TankContents) : Bool :=
  fitsAll tankWidths (tankNums c) && notOnes 4 c.remaining && notOnes 5 c.seconds

/-- A regeneration step's fields fit (R104, R169). -/
def regenStepFits (c : RegenStep) : Bool := fitsAll regenStepWidths (regenStepNums c)

/-- The salt settings' fields fit (R119, R169). -/
def saltFits (c : SaltSettings) : Bool := fitsAll saltWidths (saltNums c)

/-- A stage's fields fit (R133, R134, R169). -/
def stageFits (c : StageContents) : Bool :=
  fitsAll stageWidths (stageNums c) && notZero c.record.volumeLimit && notZero c.record.dayLimit
    && notOnes 2 c.record.dpLimit && notZero c.record.bwVolume && notZero c.record.bwDays && notOnes 6 c.volRep
    && notOnes 5 c.secRep && notOnes 6 c.volBw && notOnes 5 c.secBw

/-- A backwash step's fields fit (R139, R169). -/
def backwashStepFits (c : BackwashStep) : Bool := fitsAll backwashStepWidths (backwashStepNums c)

/-- A leak rule's fields fit (R154, R169). -/
def leakRuleFits (c : LeakRule) : Bool := fitsAll leakRuleWidths (leakRuleNums c) && notOnes 1 c.zone

/-- A zone window's fields fit (R158, R169). -/
def zoneWindowFits (c : ZoneWindow) : Bool := fitsAll zoneWindowWidths (zoneWindowNums c)

/-- The leak configuration's fields fit (R160, R169). -/
def leakConfigFits (c : LeakConfig) : Bool := fitsAll leakConfigWidths (leakConfigNums c) && notZero c.silence

/-- An actuator's fields fit (R56, R169). -/
def actuatorFits (c : ActuatorRec) : Bool :=
  fitsAll actuatorWidths (actuatorNums c) && notOnes 1 c.preset && notOnes 1 c.stallLane

/-- A curve fits a message of at most 53 bytes (R166, R169), each coordinate two bytes. -/
def curveFits (pts : List (Nat × Nat)) : Bool :=
  decide (pts.length ≤ 11) && pts.all fun p => fits 2 p.1 && fits 2 p.2

/-- The contents of a plain write fit (R169). -/
def plainFits : PlainContents → Bool
  | .reportConst _ => true
  | .driveMask _ => true
  | .regenStep c => held regenStepFits c
  | .backwashStep c => held backwashStepFits c
  | .zoneWindow c => held zoneWindowFits c
  | .leakConfig c => held leakConfigFits c
  | .unusable table => fits 1 table

/-- A command is well formed. -/
def Instr.wellFormed : Instr → Bool
  | .powerOnReset => true
  | .goodFieldFrame _ => true
  | .discardedRun port bytes framing => !(collectRun (frameLength port) bytes framing).good (frameLength port)
  | .goodControlFrame _ _ _ => true
  | .frameTimerExpiry => true
  | .fieldLinkStale => true
  | .gatewayStale => true
  | .transmitterFrameEnd _ => true
  | .channelResult _ => true
  | .periodTimeout _ => true
  | .windowAbandoned _ => true
  | .arrival _ => true
  | .travelTimeout _ => true
  | .pauseExpiry _ => true
  | .stall _ => true
  | .displacement _ => true
  | .adoption _ => true
  | .drainGrant => true
  | .calendarRegenTrigger => true
  | .regenStepEnd => true
  | .settlingExpiry => true
  | .regenHoldLimit => true
  | .internalSecond => true
  | .stageDue _ => true
  | .backwashDemand => true
  | .backwashQueue => true
  | .backwashStepEnd => true
  | .backwashHoldLimit => true
  | .ruleTimerTrip _ => true
  | .drawEventEnd => true
  | .zoneSilent _ => true
  | .fieldLost => true
  | .latchedCloseRetry => true
  | .testCalendarTrigger => true
  | .testWindowExpiry => true
  | .testSettleExpiry => true
  | .testMeasureExpiry => true
  | .readEntry _ table index => fits 1 table && fits 1 index
  | .writeEntry _ index c => fits 1 index && plainFits c
  | .writeEntryLane _ index c => fits 1 index && held laneFits c
  | .writeEntryReportField _ index c => fits 1 index && held reportFits c
  | .writeEntryChannel _ index c => fits 1 index && held channelFits c
  | .writeEntryPreset _ index r => fits 1 index && fits 1 r
  | .writeEntryTracker _ index c => fits 1 index && held trackerFits c
  | .writeEntryCurve _ _ index points => fits 1 index && curveFits points
  | .writeEntrySoftener _ index c => fits 1 index && held softenerFits c
  | .writeEntryTank _ index c => fits 1 index && tankFits c
  | .writeEntrySalt _ index c => fits 1 index && saltFits c
  | .writeEntryStage _ index c => fits 1 index && held stageFits c
  | .writeEntryLeakRule _ index c => fits 1 index && held leakRuleFits c
  | .writeEntryActuator _ index c => fits 1 index && held actuatorFits c
  | .readResult _ channel mode => fits 1 channel && fits 1 mode
  | .readState _ object index part mode =>
    fits 1 object && !([0, 1, 2, 3, 8].contains object) && fits 1 index && fits 1 part && fits 1 mode
  | .readStateLane _ index part mode => fits 1 index && fits 1 part && fits 1 mode
  | .readStateTracker _ index part mode => fits 1 index && fits 1 part && fits 1 mode
  | .readStateActuator _ index part mode => fits 1 index && fits 1 part && fits 1 mode
  | .readStateTank _ index part mode => fits 1 index && fits 1 part && fits 1 mode
  | .readStateLeakGuard _ index part mode => fits 1 index && fits 1 part && fits 1 mode
  | .ackChanges _ _ _ => true
  | .openMain _ => true
  | .closeMain _ => true
  | .clearLeakLatch _ => true
  | .startRegen _ tank => fits 1 tank
  | .cancelRegen _ => true
  | .bypassOn _ => true
  | .bypassOff _ => true
  | .startBackwash _ => true
  | .startLeakTest _ => true
  | .abortLeakTest _ => true
  | .saltRefilled _ mass => fits 3 mass
  | .filterReplaced _ stage => fits 1 stage
  | .clearFault _ arg => fits 1 arg && arg != 4
  | .clearFaultRecord _ => true
  | .clearSlip _ => true
  | .setTime _ day second => fits 2 day && fits 3 second
  | .restart _ => true

end Sys2Proof
end

