-- ==== Sys2Proof/Certificates/Slice0/Obligations.lean ====
section
/-! DEFINITION. The statements for the provers. Each docstring names the rules of the data book it follows; a clause that
rests on a choice of the model names the assumption. -/

open Sys2Proof Sys2Proof.Machine

/-! ### The queue and the power-on reset -/

/-- A step takes the command at the front of the queue and executes it on the state with the queue's rest; with no
command waiting the block idles (assumption 2). -/
def Obligations.StepTakesTheFrontCommand : Prop :=
  (∀ (c : Instr) (rest : List Instr) (s : State),
    step { s with pending := c :: rest } = exec c { s with pending := rest })
    ∧ ∀ s : State, s.pending = [] → step s = .next s

/-- POWER_ON_RESET sets every chapter's power-on values, whatever the state before (R3, R8, R20, R23, R39, R56, R72,
R78, R97, R98, R118, R132, R146, R147, R165, R173, R174). The queue and the count of free choices are the model's own
and stay, and a value of State.reset that the data book does not give is the model's choice (assumption 8). -/
def Obligations.PowerOnResetSetsThePowerOnValues : Prop :=
  ∀ s : State, ∃ t, exec .powerOnReset s = .next t
    ∧ t = { State.reset with choices := s.choices, pending := s.pending }
    ∧ t.link.fieldMissing = 250 ∧ t.link.gwMissing = 250 ∧ t.link.fieldFresh = false ∧ t.link.gwFresh = false
    ∧ t.link.lastField = none ∧ t.link.gtx.sending = none ∧ t.link.ftx.sending = none
    ∧ (∀ i : Fin 32, t.lanes[i].desc.enabled = false ∧ t.lanes[i].run.misalign = false)
    ∧ (∀ i : Fin 8, t.channels[i].conf.mode = .off ∧ t.channels[i].conf.x = 1 ∧ t.channels[i].run.cond = .off
        ∧ t.channels[i].run.last = none)
    ∧ (∀ i : Fin 4, t.presets[i] = 1)
    ∧ (∀ i : Fin 7, t.trackers[i].conf.enabled = false ∧ t.trackers[i].run.st = .idle ∧ t.trackers[i].run.est = none)
    ∧ (∀ a : Actr, (t.act a).conf.enabled = false ∧ (t.act a).run.st = .unknown ∧ (t.act a).run.lastConfirmed = none)
    ∧ t.drain.holder = none ∧ t.drain.allowance = 0 ∧ t.noneWaits
    ∧ t.acc.settings.k = 0 ∧ t.acc.settings.mode = .forced ∧ t.acc.totalInlet = 0 ∧ t.acc.slip = 0 ∧ t.acc.held = none
    ∧ (∀ x : TankId, (t.tank x).st = .unconfigured ∧ (t.tank x).seconds = 4294967295)
    ∧ t.rgs.seq = .idle ∧ t.rgs.record = none
    ∧ t.slt.store = 0 ∧ t.slt.saltLow = true ∧ t.slt.bridge = false ∧ t.slt.refillShort = false
    ∧ t.flt.st = .idle ∧ t.flt.demand = none ∧ t.flt.fouled = false
    ∧ t.lkg.main = .unknown ∧ t.lkg.latch = none ∧ t.lkg.test.st = .idle ∧ t.lkg.test.failCount = 0
    ∧ t.mgu.rx.collecting = false ∧ t.mgu.replies = [] ∧ t.mgu.restartPending = false ∧ t.mgu.changes = 0
    ∧ t.mgu.fault.valid = false ∧ t.mgu.seconds = 0 ∧ t.mgu.timeValid = false

/-! ### Frames and runs -/

/-- A good field frame clears the field missing count, makes the link FRESH and is kept as the last good frame (R2 to
R4); every channel acts on what the lanes offer in it (R25). It is an emission trigger: an idle transmitter starts its
frame, composed when the frame has been taken, and a sending one has a frame pending (R2, R6). Events still due are
taken first (assumption 1). -/
def Obligations.GoodFieldFrameIsTaken : Prop :=
  ∀ (slots : Vector Byte 20) (s : State), ∃ t, exec (.goodFieldFrame slots) s = .next t
    ∧ t.link.fieldMissing = 0 ∧ t.link.fieldSeen = true ∧ t.link.fieldFresh = true ∧ t.link.lastField = some slots
    ∧ (∀ i : Fin 8, t.channels[i] =
        channelOnFrame (settle s).presets (laneOuts (settle s).lanes slots) (settle s).channels[i])
    ∧ t.presets = (settle s).presets ∧ t.mgu.seconds = (settle s).mgu.seconds
    ∧ (settle s).triggered t
    ∧ t.pending = s.pending

/-- The lanes at a good field frame, and what each offers its consumers in it: a LEVEL or MARK lane takes and offers
the level of its field, a COUNT lane keeps the field as its reference and offers the delta, 0 without a valid reference
and otherwise the field less the reference modulo 2 to the width, a VALUE lane without a mark lane appends the field to
its assembler, and publishes and offers the sample that it completes; a disabled lane does and offers nothing (R10 to
R12). A VALUE lane with a mark lane that waits appends nothing until its mark reads 1 and starts its sample then; a
mark within a sample sets MISALIGN and starts the sample afresh; with its mark at 0, or at 1 before any bit, it
appends; a sample that reaches W is published, of one field when W is the width, and the lane waits for its mark again.
LANE is raised by a MISALIGN that any lane sets so, and by nothing else of the frame (R12, R14). Events still due are
taken first (assumption 1). -/
def Obligations.LanesActOnAGoodFieldFrame : Prop :=
  ∀ (slots : Vector Byte 20) (s : State) (i : Fin 32), ∃ t, exec (.goodFieldFrame slots) s = .next t
    ∧ let u := settle s
      let l := u.lanes[i]
      let raw := (slotByte slots l.desc.slot) / 2 ^ l.desc.start % 2 ^ l.desc.width
      let field := if l.desc.invert then 2 ^ l.desc.width - 1 - raw else raw
      let out := (laneOuts u.lanes slots)[i]
      let delta := if l.run.refValid then (field + 2 ^ l.desc.width - l.run.reference) % 2 ^ l.desc.width else 0
      let breaks := fun x : Lane => x.desc.enabled = true ∧ x.desc.kind = .value ∧ x.run.waiting = false ∧ 0 < x.run.h
        ∧ markLevel u.lanes slots x.desc.mark = true
      t.lanes[i].desc = l.desc
      ∧ (t.flagSet .lane = true ↔ u.flagSet .lane = true ∨ ∃ j : Fin 32, breaks u.lanes[j])
      ∧ (l.desc.enabled = false → t.lanes[i] = l ∧ out = { level := false, delta := none, sample := none })
      ∧ (l.desc.enabled = true → (l.desc.kind = .level ∨ l.desc.kind = .mark) →
          t.lanes[i].run = { l.run with level := decide (field = 1) }
          ∧ out = { level := decide (field = 1), delta := none, sample := none })
      ∧ (l.desc.enabled = true → l.desc.kind = .count →
          t.lanes[i].run = { l.run with reference := field, refValid := true }
          ∧ out = { level := false, delta := some delta, sample := none })
      ∧ (l.desc.enabled = true → l.desc.kind = .value → l.desc.mark = none → l.run.h + l.desc.width < l.desc.w →
          t.lanes[i].run = { l.run with
            assembler := l.run.assembler + field * 2 ^ l.run.h, h := l.run.h + l.desc.width, waiting := false }
          ∧ out = { level := false, delta := none, sample := none })
      ∧ (l.desc.enabled = true → l.desc.kind = .value → l.desc.mark = none → l.desc.w ≤ l.run.h + l.desc.width →
          let v := l.run.assembler + field * 2 ^ l.run.h
          t.lanes[i].run = { l.run with assembler := 0, h := 0, waiting := false, lastSample := some v }
          ∧ out = { level := false, delta := none, sample := some v })
      ∧ (l.desc.enabled = true → l.desc.kind = .value → ∀ m, l.desc.mark = some m →
          let mark := markLevel u.lanes slots (some m)
          let broken := l.run.waiting = false ∧ mark = true ∧ 0 < l.run.h
          let afresh := l.run.waiting = true ∨ broken
          let a := if afresh then 0 else l.run.assembler
          let h := if afresh then 0 else l.run.h
          (l.run.waiting = true → mark = false →
            t.lanes[i] = l ∧ out = { level := false, delta := none, sample := none })
          ∧ (l.run.waiting = false ∨ mark = true →
              (h + l.desc.width < l.desc.w →
                t.lanes[i].run = { l.run with
                  assembler := a + field * 2 ^ h, h := h + l.desc.width, waiting := false
                  misalign := l.run.misalign || decide broken }
                ∧ out = { level := false, delta := none, sample := none })
              ∧ (l.desc.w ≤ h + l.desc.width →
                t.lanes[i].run = { l.run with
                  assembler := 0, h := 0, waiting := true, lastSample := some (a + field * 2 ^ h)
                  misalign := l.run.misalign || decide broken }
                ∧ out = { level := false, delta := none, sample := some (a + field * 2 ^ h) })))

/-- An OPEN channel at a good field frame: E counts the frame; EDGE_COUNT adds a rising edge of the filtered input,
COUNT_DELTA the lane's delta unless it is above a glitch limit Y greater than 0, GATED_COUNT what it counts, an edge or
a delta judged by the same limit, while filtered input B reads 1, HIGH_TIME a filtered level of 1, VALUE_MEAN the
sample the frame publishes, and PERIOD times the frames between rising edges (R24, R25, R28 to R32, R34, R35). Events
still due are taken first (assumption 1). -/
def Obligations.OpenChannelsMeasureAGoodFieldFrame : Prop :=
  ∀ (slots : Vector Byte 20) (s : State) (i : Fin 8), ∃ t, exec (.goodFieldFrame slots) s = .next t
    ∧ let c := (settle s).channels[i]
      let o := outOf (laneOuts (settle s).lanes slots) c.conf.inA
      let f := filterStep (runLength (settle s).presets c.conf.preset) o.level c.run.fa
      let r := t.channels[i].run
      c.run.cond = .opened →
        t.channels[i].conf = c.conf ∧ r.e = min max32 (c.run.e + 1) ∧ r.missing = 0 ∧ r.cond = .opened
        ∧ (c.conf.mode = .edgeCount → o.delta = none → r.g = c.run.g + 1 ∧ r.fa = f
            ∧ r.acc = min max32 (c.run.acc + if c.run.fa.level = some false ∧ f.level = some true then 1 else 0))
        ∧ (c.conf.mode = .countDelta → ∀ d, o.delta = some d → (c.conf.y = 0 ∨ d ≤ c.conf.y) →
            r.g = c.run.g + 1 ∧ r.acc = min max32 (c.run.acc + d) ∧ r.glitch = c.run.glitch)
        ∧ (c.conf.mode = .countDelta → ∀ d, o.delta = some d → 0 < c.conf.y → c.conf.y < d →
            r.g = c.run.g + 1 ∧ r.acc = c.run.acc ∧ r.glitch = true)
        ∧ (c.conf.mode = .highTime → o.delta = none → r.g = c.run.g + 1
            ∧ r.acc = min max32 (c.run.acc + if f.level = some true then 1 else 0))
        ∧ (c.conf.mode = .valueMean → ∀ v, o.sample = some v →
            r.k = c.run.k + 1 ∧ r.acc = min max32 (c.run.acc + v))
        ∧ (c.conf.mode = .valueMean → o.sample = none → r.k = c.run.k ∧ r.acc = c.run.acc)
        ∧ (c.conf.mode = .gatedCount → ∀ b, c.conf.inB = some b →
            let fb := filterStep (runLength (settle s).presets c.conf.preset)
              (outOf (laneOuts (settle s).lanes slots) b).level c.run.fb
            r.g = c.run.g + 1 ∧ r.fb = fb ∧ (fb.level ≠ some true → r.acc = c.run.acc ∧ r.glitch = c.run.glitch)
            ∧ (fb.level = some true → o.delta = none →
                r.acc = min max32 (c.run.acc + if c.run.fa.level = some false ∧ f.level = some true then 1 else 0))
            ∧ (fb.level = some true → ∀ d, o.delta = some d →
                (c.conf.y = 0 ∨ d ≤ c.conf.y → r.acc = min max32 (c.run.acc + d) ∧ r.glitch = c.run.glitch)
                ∧ (0 < c.conf.y → c.conf.y < d → r.acc = c.run.acc ∧ r.glitch = true)))
        ∧ (c.conf.mode = .period → o.delta = none →
            (c.run.fa.level = some false ∧ f.level = some true → c.run.timing = false →
              r.timing = true ∧ r.f = 0 ∧ r.n = 0 ∧ r.s = 0)
            ∧ (c.run.fa.level = some false ∧ f.level = some true → c.run.timing = true →
              r.f = min max32 (c.run.f + 1) ∧ r.n = c.run.n + 1 ∧ r.s = 0)
            ∧ (¬ (c.run.fa.level = some false ∧ f.level = some true) → r.s = c.run.s + 1 ∧ r.n = c.run.n
              ∧ r.f = if c.run.timing then min max32 (c.run.f + 1) else c.run.f))

/-- A run that has a framing error, or does not begin with the sync byte, or has another length than the port's frame,
or whose CRC-8 does not agree is discarded whole: nothing changes (R1). The bytes of a frame as R176 lays it out are
read by the receiver as that frame: a run of them without a framing error is no discarded run (assumption 15), and does
what the good frame does (R2, R5, R176). -/
def Obligations.ARunOfBytesIsJudgedByItsChecks : Prop :=
  (∀ (p : Port) (bytes : List Byte) (framing : Bool) (s : State),
    (framing = true ∨ bytes.head? ≠ some syncByte ∨ bytes.length ≠ frameLength p
      ∨ crc8 ((bytes.drop 1).take (frameLength p - 2)) ≠ bytes.getD (frameLength p - 1) 0) →
    exec (.discardedRun p bytes framing) s = .next s)
    ∧ (∀ (slots : Vector Byte 20) (s : State),
      exec (.discardedRun .frx (frameOf slots.toList) false) s = exec (.goodFieldFrame slots) s)
    ∧ ∀ (drive : Vector Byte 6) (first second : Byte) (s : State),
      exec (.discardedRun .grx (frameOf (drive.toList ++ [first, second])) false) s
        = exec (.goodControlFrame drive first second) s

/-- A good control frame stores the drive bytes, clears the gateway missing count, hands its two message bytes to the
request receiver and makes the gateway link FRESH (R5). When neither byte closes a message nothing else changes. -/
def Obligations.GoodControlFrameIsTaken : Prop :=
  ∀ (drive : Vector Byte 6) (first second : Byte) (s : State),
    (∃ t, exec (.goodControlFrame drive first second) s = .next t ∧ t.link.driveBytes = drive ∧ t.link.gwMissing = 0
      ∧ t.link.gwSeen = true ∧ t.link.gwFresh = true ∧ t.mgu.seconds = s.mgu.seconds)
    ∧ (first ≠ delimiter → second ≠ delimiter → exec (.goodControlFrame drive first second) s = .next { s with
        link := { s.link with gwMissing := 0, gwSeen := true, driveBytes := drive, gwFresh := true }
        mgu := { s.mgu with rx := (receiverStep second (receiverStep first s.mgu.rx).1).1 } })

/-- An expiry of the frame timer: a port without a good frame since the previous expiry counts one missing frame, up to
250, and a missing field frame is noticed by the VALUE lanes that span several frames, whose MISALIGN raises LANE, and
by every OPEN channel (R3, R13, R14, R26). While the link is FRESH the expiry starts no frame; while it is FIELD_STALE
it is an emission trigger (R6), whose frames are composed after the missing-frame notice (assumption 45) and before
GATEWAY_STALE (assumption 36). Events still due are taken first (assumption 1). -/
def Obligations.FrameTimerExpiryCountsMissingFrames : Prop :=
  let breaks := fun l : Lane =>
    l.desc.enabled = true ∧ l.desc.kind = .value ∧ l.desc.width < l.desc.w ∧ l.run.waiting = false
  ∀ s : State, ∃ t, exec .frameTimerExpiry s = .next t
    ∧ let u := settle s
      t.link.fieldMissing = (if u.link.fieldSeen then u.link.fieldMissing else min 250 (u.link.fieldMissing + 1))
      ∧ t.link.gwMissing = (if u.link.gwSeen then u.link.gwMissing else min 250 (u.link.gwMissing + 1))
      ∧ t.link.fieldSeen = false ∧ t.link.gwSeen = false
      ∧ t.link.fieldFresh = u.link.fieldFresh ∧ t.link.gwFresh = u.link.gwFresh
      ∧ (u.link.fieldFresh = true → t.link.gtx = u.link.gtx ∧ t.link.ftx = u.link.ftx
          ∧ t.mgu.replies = u.mgu.replies ∧ t.mgu.sent = u.mgu.sent)
      ∧ (u.link.fieldFresh = false → u.triggered t)
      ∧ (u.link.fieldSeen = true → t.lanes = u.lanes ∧ t.channels = u.channels)
      ∧ (t.flagSet .lane = true ↔ u.flagSet .lane = true ∨ (u.link.fieldSeen = false ∧ ∃ i : Fin 32, breaks u.lanes[i]))
      ∧ (u.link.fieldSeen = false → ∀ i : Fin 32,
          let l := u.lanes[i]
          t.lanes[i] =
            if breaks l then
              { l with run := { l.run with assembler := 0, h := 0, waiting := l.desc.mark.isSome, misalign := true } }
            else l)
      ∧ (u.link.fieldSeen = false → ∀ i : Fin 8,
          let c := u.channels[i]
          t.channels[i].conf = c.conf
          ∧ (c.run.cond ≠ .opened → t.channels[i] = c)
          ∧ (c.run.cond = .opened → t.channels[i].run.e = min max32 (c.run.e + 1)
              ∧ t.channels[i].run.missing = c.run.missing + 1 ∧ t.channels[i].run.acc = c.run.acc
              ∧ (c.conf.mode = .period → t.channels[i].run.s = c.run.s + 1)))

/-- FIELD_LINK_STALE: at a field missing count of 250 a FRESH field link becomes FIELD_STALE and raises FIELD; COUNT
lanes lose their reference, VALUE lanes their assembly, trackers in SEARCH or LOCKED hold with their estimates kept
(R4, R9, R51), and the expiry that brought it about is an emission trigger (R6), whose frames are composed after the
notices (assumption 44). GATEWAY_STALE: at a gateway missing count of 250 a FRESH gateway link becomes GW_STALE (R5).
Either command is without effect when its event is not due (assumption 1). -/
def Obligations.LinksBecomeStaleAtTwoHundredFiftyMissingFrames : Prop :=
  (∀ s : State, s.link.fieldFresh = true → 250 ≤ s.link.fieldMissing → ∃ t, exec .fieldLinkStale s = .next t
    ∧ t.link.fieldFresh = false ∧ t.link.fieldMissing = s.link.fieldMissing ∧ t.flagSet .field
    ∧ (∀ i : Fin 32, t.lanes[i].desc = s.lanes[i].desc
        ∧ (s.lanes[i].desc.kind = .count → t.lanes[i].run.refValid = false)
        ∧ (s.lanes[i].desc.kind = .value → t.lanes[i].run.h = 0 ∧ t.lanes[i].run.assembler = 0))
    ∧ (∀ i : Fin 7, t.trackers[i].conf = s.trackers[i].conf ∧ t.trackers[i].run.est = s.trackers[i].run.est
        ∧ t.trackers[i].run.st =
            if s.trackers[i].run.st = .search ∨ s.trackers[i].run.st = .locked then .hold else s.trackers[i].run.st)
    ∧ t.channels = s.channels ∧ s.triggered t)
  ∧ (∀ s : State, (s.link.fieldFresh = false ∨ s.link.fieldMissing < 250) → exec .fieldLinkStale s = .next s)
  ∧ ∀ s : State, exec .gatewayStale s = .next
      (if s.link.gwFresh = true ∧ 250 ≤ s.link.gwMissing then { s with link := { s.link with gwFresh := false } } else s)

/-- The end of a frame: a transmitter with no pending frame becomes idle; one with a pending frame starts it, composed
as the state then stands (R6, R7, R19). On GTX this holds when no restart is due. At an idle transmitter the event is
not due and the command changes nothing (assumption 1). A frame is the sync byte, its contents and their CRC-8 (R176).
The field slots are those of the last good frame while FRESH and 0xFF while FIELD_STALE (R7). A bit of a report slot
that no enabled descriptor covers is that of the constant, and one that a single descriptor covers is the bit of its
source, each source as it stands (R17, R176). A bit of a drive slot outside every enabled actuator's command field is
the gateway's, from its drive bytes while GATEWAY FRESH and from the drive mask while stale; one that a single field
covers is that of the actuator's drive code, the code of the target while MOVING and STOP otherwise (R19, R59). The
reply transmitter offers 0xE7 with no reply waiting; otherwise it offers the oldest reply byte by byte, its type 0x80,
tag, body and CRC-16 escaped between two bytes 0xE7, and the reply leaves the queue with the closing one (R168,
R177). -/
def Obligations.FramesAreComposedAsTheirTransmitterStartsThem : Prop :=
  ∀ s : State,
    (∀ p, (s.transmitter p).sending = none → exec (.transmitterFrameEnd p) s = .next s)
    ∧ (∀ p, (s.transmitter p).sending ≠ none → (s.transmitter p).waiting = false → (p = .gtx → s.restartDue = false) →
        exec (.transmitterFrameEnd p) s = .next (setTransmitter p { sending := none, waiting := false } s))
    ∧ (s.link.ftx.sending ≠ none → s.link.ftx.waiting = true → exec (.transmitterFrameEnd .ftx) s = .next
        { s with link := { s.link with ftx := { sending := some (frameOf (driveSlots s)), waiting := false } } })
    ∧ (s.link.gtx.sending ≠ none → s.link.gtx.waiting = true → s.restartDue = false →
        ∃ t, exec (.transmitterFrameEnd .gtx) s = .next t
          ∧ t.link = { s.link with gtx := { sending := some (frameOf (fieldSlots s ++ reportSlots s
              ++ [offeredByte s, offeredByte (offerByte s)])), waiting := false } }
          ∧ t.lanes = s.lanes ∧ t.rgs = s.rgs ∧ t.lkg = s.lkg ∧ t.mgu.changes = s.mgu.changes)
    ∧ (∀ contents : List Byte, frameOf contents = 0xB6 :: (contents ++ [crc8 contents]))
    ∧ (s.mgu.replies = [] → offeredByte s = 0xE7 ∧ offerByte s = s)
    ∧ (∀ r rest, s.mgu.replies = r :: rest →
        let body : List Byte := 0x80 :: r.tag :: r.body
        let shift := fun (x : BitVec 16) (_ : Nat) => if x.msb then (x <<< 1) ^^^ 0x1021 else x <<< 1
        let crc : BitVec 16 := body.foldl
          (fun (c : BitVec 16) (b : Byte) =>
            (List.range 8).foldl shift (c ^^^ (BitVec.zeroExtend 16 b <<< (8 : Nat)))) 0xFFFF
        let message := body ++ [toByte (crc.toNat / 256), toByte (crc.toNat % 256)]
        let escaped := message.flatMap fun b => if b = 0xE7 ∨ b = 0xE8 then [0xE8, b ^^^ 0x20] else [b]
        let sent := 0xE7 :: (escaped ++ [0xE7])
        let i := s.mgu.sent.getD 0
        offeredByte s = sent.getD i 0xE7
        ∧ (i + 1 < sent.length → offerByte s = { s with mgu := { s.mgu with sent := some (i + 1) } })
        ∧ (sent.length ≤ i + 1 → offerByte s = { s with mgu := { s.mgu with replies := rest, sent := none } }))
    ∧ (s.link.fieldFresh = true → ∀ v, s.link.lastField = some v → fieldSlots s = v.toList)
    ∧ (s.link.fieldFresh = false → fieldSlots s = List.replicate 20 0xFF)
    ∧ (∀ (i : Fin 6) (b : Nat), b < 8 →
        let covers := fun j : Fin 24 => s.link.reportFields[j].enabled = true ∧ s.link.reportFields[j].slot = i.val
          ∧ s.link.reportFields[j].start ≤ b ∧ b < s.link.reportFields[j].start + s.link.reportFields[j].width
        let number := fun x : Indicator => match x with
          | .chgLo => s.mgu.changes.toNat % 256
          | .chgHi => s.mgu.changes.toNat / 256
          | .mainState => match s.lkg.main with
            | .opened => 0 | .closing _ => 1 | .closed _ => 2 | .opening => 3 | .fault => 4 | .unknown => 5
          | .leakLatch => if s.lkg.latch.isSome then 1 else 0
          | .serviceTank => match s.confirmed with
            | some .tankA => 1 | some .tankB => 2 | some .bypass => 3 | _ => 0
          | .rgsState => match s.rgs.seq with
            | .idle => 0 | .queued => 1 | .positioning => 2 | .running => 3 | .held => 4 | .parking => 5
          | .saltReminder => if s.slt.saltLow || s.slt.bridge || s.slt.refillShort then 1 else 0
          | .fieldStale => if s.link.fieldFresh then 0 else 1
          | .faultValid => if s.mgu.fault.valid then 1 else 0
          | .testState => match s.lkg.test.st with
            | .idle => 0 | .waiting => 1 | .closing => 2 | .settle => 3 | .measure => 4 | .reopening => 5
          | .flowHi => s.trackers[flow].run.est.getD 0 / 256
          | .flowLo => s.trackers[flow].run.est.getD 0 % 256
          | .locks | .filterDue => 0
        let source := fun (x : Indicator) (n : Nat) => match x with
          | .locks => if h : n < 7 then decide (s.trackers[n].run.st = .locked) else false
          | .filterDue => if h : n < 4 then s.flt.stages[n].due else false
          | y => (number y).testBit n
        ((∀ j, ¬ covers j) → ((reportSlots s).getD i.val 0).getLsbD b = s.link.reportConst[i].getLsbD b)
        ∧ (∀ j, covers j → (∀ k, k ≠ j → ¬ covers k) →
            ((reportSlots s).getD i.val 0).getLsbD b
              = source s.link.reportFields[j].source (b - s.link.reportFields[j].start)))
    ∧ (∀ (i : Fin 6) (b : Nat), b < 8 →
        let covers := fun a : Actr => (s.act a).conf.enabled = true ∧ (s.act a).conf.slot = i.val
          ∧ (s.act a).conf.start ≤ b ∧ b < (s.act a).conf.start + (s.act a).conf.width
        ((∀ a, ¬ covers a) → ((driveSlots s).getD i.val 0).getLsbD b
            = if s.link.gwFresh then s.link.driveBytes[i].getLsbD b else s.link.driveMask[i].getLsbD b)
        ∧ (∀ a, covers a → (∀ a', a' ≠ a → ¬ covers a') →
            (∀ p n, (s.act a).run.st = .moving p n → ((driveSlots s).getD i.val 0).getLsbD b
              = (perPos (s.act a).conf.codes (posIndex a p)).testBit (b - (s.act a).conf.start))
            ∧ ((∀ p n, (s.act a).run.st ≠ .moving p n) → ((driveSlots s).getD i.val 0).getLsbD b
              = (s.act a).conf.stopCode.testBit (b - (s.act a).conf.start))))
    ∧ (reportSlots s).length = 6 ∧ (driveSlots s).length = 6

/-- A warm restart, taken at the end of the report frame when it is pending and its reply has been sent (R175): the run
states go back; the tables, the totals, the latch, the change summary's bits, the first-fault record, the times and the
records with no run in progress are kept (R9, R16, R20, R55, R72, R78, R97, R118, R132, R146, R147, R155, R165). A run
of the sequencer is ABANDONED: one in QUEUED leaves its tank in the prior state, one past QUEUED with its tank still
its own leaves it EXHAUSTED with remaining 0 and closes the draw, whose salt leaves the store (R95, R118, R122). The
end seconds of a run abandoned in QUEUED are assumption 17. -/
def Obligations.WarmRestartKeepsTablesAndRecords : Prop :=
  ∀ s : State, s.link.gtx.sending ≠ none → s.mgu.restartPending = true → s.mgu.replies = [] →
    let past := s.rgs.seq ≠ .queued ∧ s.rgs.run.tank ≠ none
    ∃ t, exec (.transmitterFrameEnd .gtx) s = .next t
      ∧ t.link.reportFields = s.link.reportFields ∧ t.link.reportConst = s.link.reportConst
      ∧ t.link.driveMask = s.link.driveMask
      ∧ t.mgu.restartPending = false ∧ t.mgu.rx.collecting = false ∧ t.mgu.fault = s.mgu.fault
      ∧ t.mgu.seconds = s.mgu.seconds ∧ t.mgu.timeValid = s.mgu.timeValid ∧ t.mgu.day = s.mgu.day
      ∧ t.mgu.secondOfDay = s.mgu.secondOfDay ∧ (∀ f, s.flagSet f → t.flagSet f)
      ∧ (∀ i : Fin 32, t.lanes[i].desc = s.lanes[i].desc ∧ t.lanes[i].run.misalign = false
          ∧ t.lanes[i].run.refValid = false ∧ t.lanes[i].run.h = 0)
      ∧ (∀ i : Fin 8, t.channels[i].conf = s.channels[i].conf ∧ t.channels[i].run.last = none
          ∧ t.channels[i].run.ready = false)
      ∧ t.presets = s.presets
      ∧ (∀ i : Fin 7, t.trackers[i].conf = s.trackers[i].conf ∧ t.trackers[i].run.est = none)
      ∧ (∀ a : Actr, (t.act a).conf = (s.act a).conf ∧ (t.act a).run.st = .unknown
          ∧ (t.act a).run.recognised = none ∧ (t.act a).run.lastConfirmed = (s.act a).run.lastConfirmed)
      ∧ t.drain.holder = none ∧ t.drain.allowance = 0 ∧ t.noneWaits
      ∧ t.acc = { s.acc with
          pulseCarry := 0, allowCarry := 0, brineCarry := 0, held := none, phase := .none
          draw := { s.acc.draw with isOpen := if past then false else s.acc.draw.isOpen } }
      ∧ t.rgs.seq = .idle ∧ t.rgs.program = s.rgs.program ∧ t.rgs.run = RegenRun.empty ∧ t.rgs.move = .none
      ∧ t.rgs.remembered = s.rgs.remembered ∧ (s.rgs.seq ≠ .idle ∨ s.rgs.move ≠ .none → t.flagSet .regen)
      ∧ (∀ x : TankId, (s.rgs.run.tank ≠ some x → t.tank x = s.tank x)
          ∧ (s.rgs.run.tank = some x → ∀ p, s.rgs.seq = .queued → s.rgs.run.prior = some p →
              t.tank x = { s.tank x with st := p, lastOutcome := some .abandoned })
          ∧ (s.rgs.run.tank = some x → s.rgs.seq ≠ .queued →
              t.tank x = { s.tank x with st := .exhausted, remaining := 0, lastOutcome := some .abandoned }))
      ∧ (s.rgs.run.tank = none → t.rgs.record = s.rgs.record)
      ∧ (s.rgs.run.tank ≠ none → t.rgs.record = s.rgs.record.map fun r => { r with
          endedAt := some s.mgu.seconds, outcome := some .abandoned
          brine := if past then some (drawValues s.acc.draw) else r.brine })
      ∧ t.slt.settings = s.slt.settings ∧ t.slt.refill.phase = .none ∧ t.slt.bridgeCount = s.slt.bridgeCount
      ∧ t.slt.store = (if past ∧ 0 < s.acc.draw.volume then s.slt.store - s.acc.draw.saltDg / 10 else s.slt.store)
      ∧ t.slt.bridge = s.slt.bridge ∧ t.slt.refillShort = s.slt.refillShort
      ∧ t.flt.st = .idle ∧ t.flt.program = s.flt.program ∧ t.flt.run = BwRun.empty ∧ t.flt.demand = s.flt.demand
      ∧ t.flt.fouled = s.flt.fouled ∧ t.flt.watch = s.flt.watch
      ∧ (∀ i : Fin 4, t.flt.stages[i] = { s.flt.stages[i] with lastDp := none })
      ∧ (s.flt.st = .idle ∨ s.flt.run.decided = true → t.flt.record = s.flt.record)
      ∧ (s.flt.st ≠ .idle → s.flt.run.decided = false → t.flt.record = s.flt.record.map fun r =>
          { r with endedAt := some s.mgu.seconds, outcome := some .abandoned })
      ∧ t.lkg.main = .unknown ∧ t.lkg.latch = s.lkg.latch ∧ t.lkg.config = s.lkg.config
      ∧ (∀ i : Fin 16, t.lkg.rules[i].conf = s.lkg.rules[i].conf ∧ t.lkg.rules[i].trips = s.lkg.rules[i].trips
          ∧ t.lkg.rules[i].lastTrip = s.lkg.rules[i].lastTrip)
      ∧ t.lkg.windows = s.lkg.windows ∧ t.lkg.event = none ∧ t.lkg.test.st = .idle
      ∧ t.lkg.test.failCount = s.lkg.test.failCount ∧ (s.lkg.test.st = .idle → t.lkg.test.record = s.lkg.test.record)

/-! ### Channels and accounting -/

/-- CHANNEL_RESULT and PERIOD_TIMEOUT: an OPEN channel whose window has reached its length publishes Z and E without a
timeout, one whose PERIOD count s has reached Y publishes Z = 0 with the timeout; the new result is held, READY is set,
OVERRUN when READY was set already, and a new window opens at once (R25, R28 to R36). WINDOW_ABANDONED: a window with
250 consecutive missing frames and no timeout to publish is abandoned without publication, the last result and the
flags kept (R26; its missing count back at 0 is assumption 46). A command whose event is not due changes nothing
(assumption 1). -/
def Obligations.WindowsCloseAndPublishOneResult : Prop :=
  ∀ (ch : Fin 8) (s : State),
    let c := s.channels[ch]
    (c.run.cond = .opened →
      (c.conf.x ≤ c.run.g ∧ (c.conf.mode = .edgeCount ∨ c.conf.mode = .countDelta ∨ c.conf.mode = .gatedCount
          ∨ c.conf.mode = .highTime))
        ∨ (c.conf.x ≤ c.run.k ∧ c.conf.mode = .valueMean)
        ∨ (c.conf.x ≤ c.run.n ∧ c.run.timing = true ∧ c.conf.mode = .period) →
      ∃ t, exec (.channelResult ch) s = .next t ∧ t.channels[ch].conf = c.conf
        ∧ t.channels[ch].run.last = some
            { z := match c.conf.mode with | .period => c.run.f | .valueMean => c.run.acc / c.conf.x | _ => c.run.acc
              e := c.run.e, timeout := false }
        ∧ t.channels[ch].run.ready = true ∧ t.channels[ch].run.overrun = (c.run.overrun || c.run.ready)
        ∧ t.channels[ch].run.cond = .opened ∧ t.channels[ch].run.e = 0 ∧ t.channels[ch].run.acc = 0
        ∧ (c.run.ready = true → t.flagSet .channel)
        ∧ (∀ j : Fin 8, j ≠ ch → t.channels[j] = s.channels[j]) ∧ t.lanes = s.lanes ∧ t.link = s.link)
    ∧ (c.run.cond = .opened → c.conf.mode = .period → 0 < c.conf.y → c.conf.y ≤ c.run.s →
      ∃ t, exec (.periodTimeout ch) s = .next t ∧ t.channels[ch].conf = c.conf
        ∧ t.channels[ch].run.last = some { z := 0, e := c.run.e, timeout := true }
        ∧ t.channels[ch].run.ready = true ∧ t.channels[ch].run.overrun = (c.run.overrun || c.run.ready)
        ∧ t.channels[ch].run.timeout = true ∧ t.channels[ch].run.timing = false ∧ t.channels[ch].run.f = 0
        ∧ t.channels[ch].run.s = 0 ∧ t.channels[ch].run.n = 0
        ∧ (∀ j : Fin 8, j ≠ ch → t.channels[j] = s.channels[j]) ∧ t.lanes = s.lanes ∧ t.link = s.link)
    ∧ (c.run.cond = .opened → 250 ≤ c.run.missing →
        ¬ (c.conf.mode = .period ∧ 0 < c.conf.y ∧ c.conf.y ≤ c.run.s) →
      exec (.windowAbandoned ch) s = .next { s with channels := s.channels.set ch { c with run := { c.run with
        cond := .unstarted, g := 0, n := 0, k := 0, acc := 0, e := 0, missing := 0, timing := false, f := 0, s := 0 } } })
    ∧ (c.run.cond ≠ .opened → exec (.channelResult ch) s = .next s ∧ exec (.periodTimeout ch) s = .next s
        ∧ exec (.windowAbandoned ch) s = .next s)

/-- An inlet result goes through the volume, allowance, hardness and charge stages: the pulse count becomes decilitres
and a carry, the hardness in use is compensated, the treated volume is counted and the load charged to the tank in
service, to the bypass or to slip (R82 to R84, R88 to R91). The hardness in use is H_f in FORCED; in AUTO it is the
hardness curve at COND_SUPPLY's estimate while that is LOCKED, which becomes the held hardness, and otherwise the held
hardness, or H_f with none held (R88). A curve gives its first y below its first x, its last y above its last x, the
interpolation of its segment between, and nothing when empty (R87). The bypass volume takes the treated volume whatever
the hardness (assumption 13). A load that leaves the service tank above the reserve takes just that much from its
remaining and changes nothing else of either tank (R90), said with no enabled EVENT_VOLUME rule, whose trip would go on
to the main. -/
def Obligations.AnInletResultIsAccountedAndCharged : Prop :=
  (∀ (ch : Fin 8) (s : State),
      let c := s.channels[ch]
      let q := (s.acc.pulseCarry + c.run.acc * 100) / s.acc.settings.k
      let dv := min 65535 q
      let aVol := min 65535 ((s.acc.allowCarry + s.drain.allowance * c.run.e) / 30000)
      let dvt := if s.drain.kind = some .backwash then dv - min dv aVol else dv
      let measured := if s.acc.settings.mode = .auto ∧ s.trackers[condSupply].run.st = .locked then
        curveEval s.acc.hardnessCurve (s.estimate condSupply) else none
      let h := if s.acc.settings.mode = .forced then s.acc.settings.hf
        else measured.getD (s.acc.held.getD s.acc.settings.hf)
      let hc := min 2000 (h + s.acc.settings.fe * s.acc.settings.kFe / 1000)
      let grow := fun x => if x = 0 then s.acc.slip else min max40 (s.acc.slip + x)
      c.run.cond = .opened → c.conf.x ≤ c.run.g →
      (c.conf.mode = .edgeCount ∨ c.conf.mode = .countDelta ∨ c.conf.mode = .gatedCount) →
      s.acc.settings.inlet = some ch.val → 1 ≤ s.acc.settings.k → s.acc.settings.k ≤ 60000 →
      ∃ t, exec (.channelResult ch) s = .next t
        ∧ t.acc.totalInlet = (s.acc.totalInlet + dv) % mod40
        ∧ t.acc.pulseCarry = s.acc.pulseCarry + c.run.acc * 100 - q * s.acc.settings.k
        ∧ t.acc.h = h ∧ t.acc.hc = hc ∧ t.acc.held = (if measured.isSome then measured else s.acc.held)
        ∧ t.acc.totalTreated = (s.acc.totalTreated + dvt) % mod40
        ∧ (65535 < q → t.acc.clamp = true)
        ∧ (∀ x, s.confirmed = some x.pos → (s.tank x).charged = true →
            t.acc.slip = grow (dvt * hc - (s.tank x).remaining) ∧ t.acc.bypassVolume = s.acc.bypassVolume)
        ∧ (∀ x : TankId, s.confirmed = some x.pos → (s.tank x).charged = false →
            t.acc.slip = grow (dvt * hc) ∧ t.acc.bypassVolume = s.acc.bypassVolume)
        ∧ (s.confirmed = some .bypass →
            t.acc.slip = s.acc.slip ∧ t.acc.bypassVolume = (s.acc.bypassVolume + dvt) % mod40)
        ∧ (s.confirmed = none → t.acc.slip = grow (dvt * hc) ∧ t.acc.bypassVolume = s.acc.bypassVolume))
  ∧ (∀ x, curveEval [] x = none)
  ∧ (∀ (c : List (Nat × Nat)) (x : Nat), (c.Pairwise fun p q => p.1 < q.1 ∧ p.2 ≤ q.2) →
      (∀ p, c.head? = some p → x < p.1 → curveEval c x = some p.2)
      ∧ (∀ p, c.getLast? = some p → p.1 ≤ x → curveEval c x = some p.2)
      ∧ (∀ before p q rest, c = before ++ p :: q :: rest → p.1 ≤ x → x ≤ q.1 →
          curveEval c x = some (p.2 + (x - p.1) * (q.2 - p.2) / (q.1 - p.1))))
  ∧ ∀ (ch : Fin 8) (s : State) (x : TankId),
      let c := s.channels[ch]
      let dv := min 65535 ((s.acc.pulseCarry + c.run.acc * 100) / s.acc.settings.k)
      let measured := if s.acc.settings.mode = .auto ∧ s.trackers[condSupply].run.st = .locked then
        curveEval s.acc.hardnessCurve (s.estimate condSupply) else none
      let h := if s.acc.settings.mode = .forced then s.acc.settings.hf
        else measured.getD (s.acc.held.getD s.acc.settings.hf)
      let dl := dv * min 2000 (h + s.acc.settings.fe * s.acc.settings.kFe / 1000)
      c.run.cond = .opened → c.conf.x ≤ c.run.g →
      (c.conf.mode = .edgeCount ∨ c.conf.mode = .countDelta ∨ c.conf.mode = .gatedCount) →
      s.acc.settings.inlet = some ch.val → 1 ≤ s.acc.settings.k → s.acc.settings.k ≤ 60000 →
      s.drain.kind ≠ some .backwash → s.confirmed = some x.pos → (s.tank x).charged = true →
      s.acc.settings.reserve + dl < (s.tank x).remaining →
      (∀ i : Fin 16, s.lkg.rules[i].conf.enabled = true → s.lkg.rules[i].conf.kind ≠ .eventVolume) →
      ∃ t, exec (.channelResult ch) s = .next t
        ∧ t.tank x = { s.tank x with remaining := (s.tank x).remaining - dl } ∧ t.tank x.other = s.tank x.other
        ∧ t.acc.slip = s.acc.slip ∧ t.rgs.seq = s.rgs.seq

/-- A result of the brine channel, taken while the brine phase is DRAW or REFILL, K_b is set and the mode counts
pulses: the pulse count with the brine carry becomes decilitres and a carry, the decilitres clamped at 65 535 with
CLAMP set (R93). The increment is counted into the brine volume of a RUNNING VOLUME step (R110). In DRAW it is
accumulated at the concentration of COND_BRINE under lock, which becomes the last locked one, else at the last locked
one, else at c_nom with the brine-measured flag cleared (R94). In REFILL it grows the refill volume of a check that is
IN_REFILL (R126). A result that fails a condition moves none of these (R93). Said of a channel that is not the inlet
channel too, which R80 keeps apart; the trackers act after the account (assumption 5). -/
def Obligations.ABrineResultIsCountedAndAccumulated : Prop :=
  ∀ (ch : Fin 8) (s : State),
    let c := s.channels[ch]
    let d := s.acc.draw
    let q := (s.acc.brineCarry + c.run.acc * 100) / s.acc.settings.kb
    let dv := min 65535 q
    let counts := c.conf.mode = .edgeCount ∨ c.conf.mode = .countDelta ∨ c.conf.mode = .gatedCount
    let conc := if s.trackers[condBrine].run.st = .locked ∧ s.acc.brineCurve ≠ [] then
      curveEval s.acc.brineCurve (s.estimate condBrine) else d.lastConc
    let taken := s.acc.phase ≠ .none ∧ 1 ≤ s.acc.settings.kb ∧ s.acc.settings.kb ≤ 60000 ∧ counts
    s.acc.settings.brine = some ch.val → s.acc.settings.inlet ≠ some ch.val → c.run.cond = .opened →
    (c.conf.x ≤ c.run.g ∧ (counts ∨ c.conf.mode = .highTime)) ∨ (c.conf.x ≤ c.run.k ∧ c.conf.mode = .valueMean)
      ∨ (c.conf.x ≤ c.run.n ∧ c.run.timing = true ∧ c.conf.mode = .period) →
    ∃ t, exec (.channelResult ch) s = .next t
      ∧ (taken →
          t.acc = { s.acc with
            brineCarry := s.acc.brineCarry + c.run.acc * 100 - q * s.acc.settings.kb
            clamp := s.acc.clamp || decide (65535 < q), draw := t.acc.draw }
          ∧ (s.acc.clamp = false → 65535 < q → t.flagSet .tank)
          ∧ (∀ i, s.rgs.seq = .running → s.rgs.run.step = some i → s.rgs.snapshot[i].endKind = .volume →
              t.rgs = { s.rgs with run := { s.rgs.run with brine := min max40 (s.rgs.run.brine + dv) } })
          ∧ (∀ i, s.rgs.run.step = some i → s.rgs.snapshot[i].endKind = .duration → t.rgs = s.rgs)
          ∧ (s.rgs.seq ≠ .running ∨ s.rgs.run.step = none → t.rgs = s.rgs)
          ∧ (s.acc.phase = .draw → t.slt.refill = s.slt.refill ∧ t.acc.draw = { d with
              saltDg := min max40 (d.saltDg + dv * conc.getD s.acc.settings.cNom)
              volume := min max40 (d.volume + dv), lastConc := conc, measured := d.measured && conc.isSome })
          ∧ (s.acc.phase = .refill → t.acc.draw = d
              ∧ (s.slt.refill.phase = .inRefill → t.slt.refill = { s.slt.refill with
                  volume := min 65535 (s.slt.refill.volume + dv) })
              ∧ (s.slt.refill.phase ≠ .inRefill → t.slt.refill = s.slt.refill)))
      ∧ (¬ taken → t.acc = s.acc ∧ t.rgs = s.rgs ∧ t.slt.refill = s.slt.refill)

/-- A result that a channel publishes, of a full window or of a PERIOD timeout, is taken by the trackers it feeds
(R43). FLOW turns the pulses or the period into a flow rate of at most 6000 (R44), any other tracker scales and clamps
it (R45). SEARCH takes the input as its estimate and locks when enough inputs in a row lie within the wide band (R46).
LOCKED moves the noise measure, judges the narrow band with its counts and its sign, sets STEP at the input that brings
the same-signed count to J (assumption 12), moves the estimate by the quotient of its mode and loses the lock at K_lose
inputs outside the band (R47 to R50). TRACK and LOCK are raised as R45 to R52 say. A tracker in IDLE or HOLD, disabled
or fed by another channel is left alone. A divisor of 0, which no run reaches, is assumption 33. -/
def Obligations.TrackersTakeThePublishedResult : Prop :=
  ∀ (ch : Fin 8) (timeout : Bool) (s : State) (i : Fin 7),
    let c := s.channels[ch]
    let k := s.trackers[i].conf
    let r := s.trackers[i].run
    let z : Nat := if timeout then 0 else match c.conf.mode with
      | .period => c.run.f
      | .valueMean => c.run.acc / c.conf.x
      | _ => c.run.acc
    let v : Int := ((z : Int) - k.offset) * k.gain / 4096
    let rate := if c.conf.mode = .period then
        (if z = 0 then 0 else 3000000 * c.conf.x / (s.acc.settings.k * z))
      else 3000000 * z / (s.acc.settings.k * c.run.e)
    let x : Nat := if i = flow then min 6000 rate
      else if v < (k.lo : Int) then k.lo else if (k.hi : Int) < v then k.hi else v.toNat
    let clamped : Bool := if i = flow then decide (6000 < rate) else decide (v < (k.lo : Int) ∨ (k.hi : Int) < v)
    let e := r.est.getD 0
    let d : Int := (x : Int) - (e : Int)
    let took := k.enabled = true ∧ k.source = ch.val ∧ (i = flow → c.conf.mode ≠ .highTime ∧ c.conf.mode ≠ .valueMean)
    let r0 := { r with lastIn := some x, range := r.range || clamped }
    c.run.cond = .opened →
    (timeout = true → c.conf.mode = .period ∧ 0 < c.conf.y ∧ c.conf.y ≤ c.run.s) →
    (timeout = false →
      (c.conf.x ≤ c.run.g ∧ (c.conf.mode = .edgeCount ∨ c.conf.mode = .countDelta ∨ c.conf.mode = .gatedCount
          ∨ c.conf.mode = .highTime))
        ∨ (c.conf.x ≤ c.run.k ∧ c.conf.mode = .valueMean)
        ∨ (c.conf.x ≤ c.run.n ∧ c.run.timing = true ∧ c.conf.mode = .period)) →
    ∃ t, exec (if timeout then .periodTimeout ch else .channelResult ch) s = .next t ∧ t.trackers[i].conf = k
      ∧ (k.enabled = false ∨ k.source ≠ ch.val ∨ r.st = .idle ∨ r.st = .hold → t.trackers[i].run = r)
      ∧ (took → (r.st = .search ∨ r.st = .locked) → clamped = true → r.range = false → t.flagSet .track)
      ∧ (took → r.st = .search → r.awaiting = true →
          t.trackers[i].run = { r0 with awaiting := false, est := some x, nIn := 0 })
      ∧ (took → r.st = .search → r.awaiting = false →
          let n := if d.natAbs ≤ k.bw then r.nIn + 1 else 0
          (n < k.mLock → t.trackers[i].run = { r0 with est := some x, nIn := n })
          ∧ (k.mLock ≤ n → t.flagSet .lock ∧ t.trackers[i].run = { r0 with
              st := .locked, est := some x, nIn := n, nOut := 0, nStep := 0, m := 0, sign := none, noise := false }))
      ∧ (took → r.st = .locked →
          let m := ((r.m : Int) + Int.tdiv ((d.natAbs : Int) - r.m) 8).toNat
          let noise := if k.nHi < m then true else if m < k.nLo then false else r.noise
          let inside := d.natAbs ≤ k.bn
          let sign := decide (d < 0)
          let nOut := if inside then 0 else r.nOut + 1
          let nStep := if inside then 0 else if r.sign = some sign then r.nStep + 1 else 1
          let stepped := decide (¬ inside ∧ nStep = k.j)
          let shift := match k.tc with
            | .slow => 4
            | .normal => 2
            | .fast => 0
            | .auto => if k.j ≤ nStep then 0 else if noise then 4 else 2
          let r1 := { r0 with
            m := m, est := some ((e : Int) + Int.tdiv d (2 ^ shift)).toNat, step := r.step || stepped }
          (stepped = true ∨ noise ≠ r.noise → t.flagSet .track)
          ∧ (nOut < k.kLose → t.trackers[i].run = { r1 with
              nOut := nOut, nStep := nStep, sign := if inside then none else some sign, noise := noise })
          ∧ (k.kLose ≤ nOut → t.flagSet .lock ∧ t.trackers[i].run = { r1 with
              st := .search, awaiting := true, nIn := 0, nOut := 0, nStep := 0, sign := none, noise := false }))

/-! ### Actuators -/

/-- ARRIVAL: a move whose target is recognised ends at it, and ADOPTION: an enabled actuator in UNKNOWN takes the
position it recognises; either way the last confirmed position is that position, and the recognised position, the
record and the last fault stay (R59, R64, R68). TRAVEL_TIMEOUT with attempts left pauses the move for the pause time of
the record, and PAUSE_EXPIRY starts the next attempt with the travel time of the record; nothing else changes (R65). A
command whose event is not due, or whose timer has not run out, changes nothing (assumption 1). -/
def Obligations.MovesArriveTimeOutAndTryAgain : Prop :=
  ∀ (a : Actr) (p : Pos) (n : Nat) (s : State),
    ((s.act a).run.st = .moving p n ∨ (s.act a).run.st = .paused p n → (s.act a).run.recognised = some p →
      ∃ t, exec (.arrival a) s = .next t ∧ (t.act a).run.lastConfirmed = some p
        ∧ (t.act a).run.recognised = some p ∧ (t.act a).conf = (s.act a).conf
        ∧ (t.act a).run.lastFault = (s.act a).run.lastFault ∧ t.apart = s.apart)
    ∧ ((s.act a).run.st = .unknown → (s.act a).conf.enabled = true → (s.act a).run.adoptSeen = true →
        (s.act a).run.recognised = some p →
      ∃ t, exec (.adoption a) s = .next t ∧ (t.act a).run.lastConfirmed = some p
        ∧ (t.act a).run.recognised = some p ∧ (t.act a).conf = (s.act a).conf
        ∧ (t.act a).run.lastFault = (s.act a).run.lastFault ∧ t.apart = s.apart)
    ∧ ((s.act a).run.recognised = none → exec (.arrival a) s = .next s ∧ exec (.adoption a) s = .next s)
    ∧ ((s.act a).run.st = .moving p n → (s.act a).run.travel = some 0 → n ≤ (s.act a).conf.retry →
      exec (.travelTimeout a) s = .next (setAct a { s.act a with run := { (s.act a).run with
        st := .paused p n, travel := none, pause := some (s.act a).conf.pause, stallSeen := false } } s))
    ∧ ((s.act a).run.st = .paused p n → (s.act a).run.pause = some 0 →
      exec (.pauseExpiry a) s = .next (setAct a { s.act a with run := { (s.act a).run with
        st := .moving p (n + 1), travel := some (s.act a).conf.travel, pause := none, displace := none
        stallSeen := false, adoptSeen := false } } s))
    ∧ ((s.act a).run.travel ≠ some 0 → exec (.travelTimeout a) s = .next s)
    ∧ ((s.act a).run.pause ≠ some 0 → exec (.pauseExpiry a) s = .next s)

/-- A travel timeout with no attempts left sets FAULT_NO_RESPONSE, a stall FAULT_STALL, and a displacement is a fault
too: the last fault takes the kind, ACTUATOR is raised, and the fault is offered with the actuator's index and its
detail; a fault state is not left by the owner's answer to the notice (R65 to R67, R69, R173). A recognised position of
none is the detail byte 0xFF (assumption 18), and the mark of a stall not yet taken is the model's (assumption 1). -/
def Obligations.ActuatorFaultsAreRecordedAndOffered : Prop :=
  ∀ (a : Actr) (p : Pos) (n : Nat) (s : State),
    ((s.act a).run.st = .moving p n → (s.act a).run.travel = some 0 → (s.act a).conf.retry < n →
      ∃ t, exec (.travelTimeout a) s = .next t ∧ (t.act a).run.st = .faultNoResponse
        ∧ (t.act a).run.lastFault = some .actNoResponse ∧ (t.act a).run.travel = none ∧ t.flagSet .actuator
        ∧ t.mgu.fault.valid = true
        ∧ (s.mgu.fault.valid = false → t.flagSet .fault ∧ t.mgu.fault.kind = .actNoResponse
            ∧ t.mgu.fault.source = a.index ∧ t.mgu.fault.seconds = s.mgu.seconds
            ∧ t.mgu.fault.detail = #v[toByte (posIndex a p), toByte n, 0, 0])
        ∧ (s.mgu.fault.valid = true → t.mgu.fault = { s.mgu.fault with lost := true }))
    ∧ ((s.act a).run.st = .moving p n → (s.act a).run.stallSeen = true → (s.act a).run.recognised ≠ some p →
      ∃ t, exec (.stall a) s = .next t ∧ (t.act a).run.st = .faultStall
        ∧ (t.act a).run.lastFault = some .actStall ∧ (t.act a).run.travel = none ∧ t.flagSet .actuator
        ∧ t.mgu.fault.valid = true
        ∧ (s.mgu.fault.valid = false → t.flagSet .fault ∧ t.mgu.fault.kind = .actStall
            ∧ t.mgu.fault.source = a.index ∧ t.mgu.fault.seconds = s.mgu.seconds
            ∧ t.mgu.fault.detail = #v[toByte (posIndex a p), toByte n, 0, 0])
        ∧ (s.mgu.fault.valid = true → t.mgu.fault = { s.mgu.fault with lost := true }))
    ∧ ((s.act a).run.st = .at p → (s.act a).run.displace = some 0 →
      ∃ t, exec (.displacement a) s = .next t
        ∧ (a = .selector → t.selector.run.st = .unknown
            ∧ t.selector.run.lastConfirmed = s.selector.run.lastConfirmed ∧ t.rgs = s.rgs)
        ∧ (t.act a).run.lastFault = some .actDisplaced ∧ t.flagSet .actuator ∧ t.mgu.fault.valid = true
        ∧ (s.mgu.fault.valid = false → t.flagSet .fault ∧ t.mgu.fault.kind = .actDisplaced
            ∧ t.mgu.fault.source = a.index ∧ t.mgu.fault.seconds = s.mgu.seconds
            ∧ t.mgu.fault.detail = #v[toByte (posIndex a p), posByte a (s.act a).run.recognised, 0, 0])
        ∧ (s.mgu.fault.valid = true → t.mgu.fault = { s.mgu.fault with lost := true }))

/-- The main valve state follows MAIN (R147, R148), and MAIN is raised when it changes. An arrival ends a close or an
open: CLOSING with a reason becomes CLOSED with that reason, OPENING becomes OPEN. MAIN found CLOSED by an adoption or
a displacement makes it CLOSED, for LEAK with the latch set and MANUAL with it clear; MAIN found OPEN makes it OPEN
with the latch clear, and with the latch set MAIN is asked toward CLOSED and it is CLOSING(LEAK); a displacement to
none makes it UNKNOWN. Said with no decay test in progress, nobody waiting for the drain line and no run held, so that
nothing goes on from it. The mark of an adoption not yet taken is the model's (assumption 1). -/
def Obligations.TheMainValveStateFollowsMain : Prop :=
  (∀ (n : Nat) (r : CloseReason) (s : State), s.lkg.test.st = .idle → s.noneWaits → s.rgs.seq ≠ .held →
    s.flt.st ≠ .held →
    (s.main.run.st = .moving .mainClosed n → s.main.run.recognised = some .mainClosed → s.lkg.main = .closing r →
      ∃ t, exec (.arrival .main) s = .next t ∧ t.lkg.main = .closed r ∧ t.main.run.st = .at .mainClosed
        ∧ t.flagSet .main ∧ t.rgs = s.rgs ∧ t.flt = s.flt ∧ t.drain = s.drain)
    ∧ (s.main.run.st = .moving .mainOpen n → s.main.run.recognised = some .mainOpen → s.lkg.main = .opening →
      ∃ t, exec (.arrival .main) s = .next t ∧ t.lkg.main = .opened ∧ t.main.run.st = .at .mainOpen
        ∧ t.flagSet .main ∧ t.rgs = s.rgs ∧ t.flt = s.flt ∧ t.drain = s.drain))
  ∧ ∀ (c : Instr) (s : State), s.lkg.test.st = .idle → s.noneWaits → s.rgs.seq ≠ .held → s.flt.st ≠ .held →
    s.main.conf.enabled = true →
    (c = .adoption .main ∧ s.main.run.st = .unknown ∧ s.main.run.adoptSeen = true ∧ s.main.run.recognised ≠ none)
      ∨ (c = .displacement .main ∧ (∃ p, s.main.run.st = .at p) ∧ s.main.run.displace = some 0) →
    ∃ t, exec c s = .next t ∧ (t.lkg.main ≠ s.lkg.main → t.flagSet .main) ∧ t.lkg.latch = s.lkg.latch
      ∧ (s.lkg.main ≠ .opened → t.rgs = s.rgs ∧ t.flt = s.flt ∧ t.drain = s.drain)
      ∧ (s.main.run.recognised = some .mainClosed →
          t.lkg.main = .closed (if s.lkg.latch.isSome then .leak else .manual))
      ∧ (s.main.run.recognised = some .mainOpen → s.lkg.latch = none → t.lkg.main = .opened)
      ∧ (s.main.run.recognised = some .mainOpen → s.lkg.latch ≠ none →
          t.lkg.main = .closing .leak ∧ t.main.run.target = some .mainClosed)
      ∧ (s.main.run.recognised = none → t.lkg.main = .unknown)

/-! ### The drain line and regeneration -/

/-- DRAIN_GRANT: a free drain line under an open main goes to the waiting requester of highest priority, REGEN before
BACKWASH before TEST, and that requester goes on: REGEN and BACKWASH take their snapshot and ask their rotor toward the
first enabled step, TEST closes the main (R73, R108, R141, R162). With the main not OPEN, the line held or nobody
waiting the event is not due and nothing changes (assumption 1). -/
def Obligations.TheDrainLineGoesToTheFirstInPriority : Prop :=
  (∀ s : State, (s.lkg.main ≠ .opened ∨ s.drain.holder ≠ none ∨ s.noneWaits) → exec .drainGrant s = .next s)
  ∧ (∀ (i : Fin 8) (s : State), s.lkg.main = .opened → s.drain.holder = none → s.drain.waitRegen = true →
      s.rgs.seq = .queued → s.link.fieldFresh = true → s.rgs.program[i].enabled = true →
      (∀ j : Fin 8, j < i → s.rgs.program[j].enabled = false) →
      s.answer .regenRotor (regenPos s.rgs.program[i].pos) = .moving →
      ∃ t, exec .drainGrant s = .next t ∧ t.drain = { s.drain with holder := some .regen, waitRegen := false }
        ∧ t.rgs.seq = .positioning ∧ t.rgs.snapshot = s.rgs.program
        ∧ t.rgs.run = { s.rgs.run with step := some i, elapsed := 0, brine := 0, fromStart := true }
        ∧ t.rgs.record = s.rgs.record.map (fun r => { r with startedAt := some s.mgu.seconds })
        ∧ t.acc.draw = { isOpen := true, saltDg := 0, volume := 0, lastConc := none, measured := true }
        ∧ t.regenRotor.run.target = some (regenPos s.rgs.program[i].pos) ∧ t.flagSet .regen
        ∧ t.flt = s.flt ∧ t.lkg = s.lkg ∧ t.slt = s.slt)
  ∧ (∀ (i : Fin 4) (s : State), s.lkg.main = .opened → s.drain.holder = none → s.drain.waitRegen = false →
      s.drain.waitBackwash = true → s.flt.st = .queued → s.link.fieldFresh = true → s.flt.program[i].enabled = true →
      (∀ j : Fin 4, j < i → s.flt.program[j].enabled = false) →
      s.answer .filterRotor (backwashPos s.flt.program[i].pos) = .moving →
      ∃ t, exec .drainGrant s = .next t ∧ t.drain = { s.drain with holder := some .backwash, waitBackwash := false }
        ∧ t.flt.st = .positioning ∧ t.flt.snapshot = s.flt.program
        ∧ t.flt.run = { s.flt.run with step := some i, elapsed := 0 }
        ∧ t.flt.record = s.flt.record.map (fun r => { r with startedAt := some s.mgu.seconds })
        ∧ t.filterRotor.run.target = some (backwashPos s.flt.program[i].pos) ∧ t.flagSet .filter
        ∧ t.rgs = s.rgs ∧ t.lkg = s.lkg ∧ t.acc = s.acc)
  ∧ ∀ s : State, s.lkg.main = .opened → s.drain.holder = none → s.drain.waitRegen = false →
      s.drain.waitBackwash = false → s.drain.waitTest = true → s.lkg.test.st = .waiting →
      s.answer .main .mainClosed = .moving →
      ∃ t, exec .drainGrant s = .next t ∧ t.drain.holder = some .test ∧ t.noneWaits
        ∧ t.lkg.main = .closing .test ∧ t.lkg.test = { s.lkg.test with st := .closing, timer := none }
        ∧ t.main.run.target = some .mainClosed ∧ t.flagSet .test ∧ t.flagSet .main

/-- CALENDAR_REGEN_TRIGGER and START_REGEN queue a regeneration: the tank becomes REGENERATING with its state recorded
as the prior one, a new run and a new record are set up, the sequencer becomes QUEUED and the drain line is requested;
with the line not to be had REGEN waits for it (R74, R105 to R107). The calendar chooses an EXHAUSTED tank that is not
in service, the longer unregenerated of two; a trigger that falls while one is barred is lost. The mark of a trigger
not yet taken, and a command without it that changes nothing, are assumption 1.

BACKWASH_QUEUE and START_BACKWASH queue a backwash of the media stage: a new run and a new record with the trigger, the
state QUEUED and FILTER raised, and the drain line requested; with the line not to be had BACKWASH waits for it (R74,
R140, R141, R145). The mark queueDue, and a command that finds no backwash to queue and clears it, are assumption 1. -/
def Obligations.ARunIsQueued : Prop :=
  (∀ (x : TankId) (s : State), s.rgs.calendarDue = true → s.acc.settings.regenHour ≠ none → s.mgu.timeValid = true →
      s.rgs.seq = .idle → s.rgs.move = .none → (∃ i : Fin 8, s.rgs.program[i].enabled = true) →
      (s.tank x).st = .exhausted → s.confirmed ≠ some x.pos →
      ((s.tank x.other).st ≠ .exhausted ∨ s.confirmed = some x.other.pos
        ∨ (s.tank x.other).seconds < (s.tank x).seconds) →
      s.drain.holder ≠ some .regen → (s.drain.holder ≠ none ∨ s.lkg.main ≠ .opened) →
      ∃ t, exec .calendarRegenTrigger s = .next t ∧ t.rgs.calendarDue = false ∧ t.rgs.seq = .queued
        ∧ t.rgs.run = { RegenRun.empty with tank := some x, prior := some .exhausted, trigger := some .calendar }
        ∧ t.rgs.record = some (newRecord x .calendar s.mgu.seconds)
        ∧ t.tank x = { s.tank x with st := .regenerating } ∧ t.tank x.other = s.tank x.other
        ∧ t.drain = { s.drain with waitRegen := true } ∧ t.flagSet .regen ∧ t.flagSet .tank
        ∧ t.lkg = s.lkg ∧ t.flt = s.flt ∧ t.acc = s.acc)
  ∧ (∀ s : State, s.rgs.calendarDue = true → (s.acc.settings.regenHour = none ∨ s.mgu.timeValid = false
        ∨ s.rgs.seq ≠ .idle ∨ s.rgs.move ≠ .none ∨ ∀ i : Fin 8, s.rgs.program[i].enabled = false) →
      exec .calendarRegenTrigger s = .next { s with rgs := { s.rgs with calendarDue := false } })
  ∧ (∀ s : State, s.rgs.calendarDue = false → exec .calendarRegenTrigger s = .next s)
  ∧ (∀ (tag : Byte) (x : TankId) (s : State), s.takesRequests → s.rgs.seq = .idle → s.rgs.move = .none →
      (∃ i : Fin 8, s.rgs.program[i].enabled = true) → (s.tank x).st ≠ .unconfigured → s.confirmed ≠ some x.pos →
      s.drain.holder ≠ some .regen → (s.drain.holder ≠ none ∨ s.lkg.main ≠ .opened) →
      ∃ t, exec (.startRegen tag x.index) s = .next t ∧ t.rgs.seq = .queued
        ∧ t.rgs.run = { RegenRun.empty with tank := some x, prior := some (s.tank x).st, trigger := some .command }
        ∧ t.rgs.record = some (newRecord x .command s.mgu.seconds)
        ∧ t.tank x = { s.tank x with st := .regenerating } ∧ t.tank x.other = s.tank x.other
        ∧ t.drain = { s.drain with waitRegen := true } ∧ t.flagSet .regen
        ∧ t.mgu.replies = s.mgu.replies ++ [{ tag := tag, body := [1] }]
        ∧ t.lkg = s.lkg ∧ t.flt = s.flt ∧ t.acc = s.acc)
  ∧ (∀ (tag : Byte) (n : Nat) (s : State), s.takesRequests →
      (1 < n → exec (.startRegen tag n) s = .next (pushReply tag [4] s))
      ∧ (n ≤ 1 → (s.rgs.seq ≠ .idle ∨ s.rgs.move ≠ .none) →
          exec (.startRegen tag n) s = .next (pushReply tag [2] s)))
  ∧ ∀ (i : Fin 4) (s : State),
    s.flt.stages[i].conf.enabled = true → s.flt.stages[i].conf.kind = .media →
    (∀ j : Fin 4, j < i → ¬ (s.flt.stages[j].conf.enabled = true ∧ s.flt.stages[j].conf.kind = .media)) →
    (∀ c, s.flt.queueDue = true → s.flt.demand = some c → s.flt.st = .idle → s.filterRotor.conf.enabled = true →
      s.filterRotor.run.inFault = false → (∃ j : Fin 4, s.flt.program[j].enabled = true) →
      s.drain.holder ≠ some .backwash → (s.drain.holder ≠ none ∨ s.lkg.main ≠ .opened) →
      ∃ t, exec .backwashQueue s = .next t ∧ t.flt.st = .queued ∧ t.flt.queueDue = false ∧ t.flt.demand = some c
        ∧ t.flt.run = { BwRun.empty with stage := some i, trigger := some c }
        ∧ t.flt.record = some (newBwRecord i c s.mgu.seconds) ∧ t.drain = { s.drain with waitBackwash := true }
        ∧ t.flagSet .filter ∧ t.rgs = s.rgs ∧ t.lkg = s.lkg ∧ t.flt.stages = s.flt.stages)
    ∧ (s.flt.queueDue = true → (s.flt.demand = none ∨ s.flt.st ≠ .idle ∨ s.filterRotor.conf.enabled = false
          ∨ s.filterRotor.run.inFault = true) →
        exec .backwashQueue s = .next { s with flt := { s.flt with queueDue := false } })
    ∧ (∀ tag, s.takesRequests → s.flt.st = .idle → (∃ j : Fin 4, s.flt.program[j].enabled = true) →
      s.drain.holder ≠ some .backwash → (s.drain.holder ≠ none ∨ s.lkg.main ≠ .opened) →
      ∃ t, exec (.startBackwash tag) s = .next t ∧ t.flt.st = .queued
        ∧ t.flt.run = { BwRun.empty with stage := some i, trigger := some .command }
        ∧ t.flt.record = some (newBwRecord i .command s.mgu.seconds)
        ∧ t.drain = { s.drain with waitBackwash := true } ∧ t.flagSet .filter
        ∧ t.mgu.replies = s.mgu.replies ++ [{ tag := tag, body := [1] }] ∧ t.rgs = s.rgs ∧ t.lkg = s.lkg)
    ∧ (∀ tag, s.takesRequests → s.flt.st ≠ .idle → exec (.startBackwash tag) s = .next (pushReply tag [2] s))
    ∧ (∀ tag, s.takesRequests → s.flt.st = .idle → (∀ j : Fin 4, s.flt.program[j].enabled = false) →
        exec (.startBackwash tag) s = .next (pushReply tag [6] s))

/-- A completion of the rotor at the position of the step makes a step in POSITIONING RUNNING, under an OPEN main and a
FRESH field link: its elapsed seconds and brine volume go on from their values, its allowance is reported to DRA, a
BRINE_DRAW step sets the brine phase DRAW and records that a draw has begun, a REFILL step sets it REFILL and, entered
from its start, starts the refill check (R109, R126), and REGEN or FILTER is raised (R109, R142). With the main not
OPEN or the link FIELD_STALE the run is HELD instead, with RUNNING as the interrupted phase (R109, R112, R142, R143). A
completion at another position is not taken. -/
def Obligations.AStepRunsAtItsPosition : Prop :=
  (∀ (i : Fin 8) (n : Nat) (s : State),
    let x := s.rgs.snapshot[i]
    let p := regenPos x.pos
    s.rgs.seq = .positioning → s.rgs.run.step = some i →
    s.regenRotor.run.st = .moving p n ∨ s.regenRotor.run.st = .paused p n → s.regenRotor.run.recognised = some p →
    ∃ t, exec (.arrival .regenRotor) s = .next t ∧ t.regenRotor.run.st = .at p ∧ t.flagSet .regen ∧ t.lkg = s.lkg
      ∧ t.flt = s.flt
      ∧ (s.lkg.main = .opened → s.link.fieldFresh = true →
          t.rgs = { s.rgs with seq := .running, run := { s.rgs.run with
            fromStart := false, drawBegun := s.rgs.run.drawBegun || decide (x.pos = .brineDraw) } }
          ∧ t.acc.phase = (match x.pos with | .brineDraw => .draw | .refill => .refill | _ => .none)
          ∧ (s.drain.holder = some .regen → t.drain = { s.drain with allowance := x.allowance, kind := some .regen })
          ∧ (x.pos = .refill → s.rgs.run.fromStart = true → t.slt = { s.slt with refill := {
              phase := .inRefill, endSample := none, volume := 0, timer := none
              startSample :=
                if s.trackers[brineLevel].run.st = .locked then s.trackers[brineLevel].run.est else none
              result := if s.slt.refill.phase = .none then s.slt.refill.result else some .unchecked } })
          ∧ (x.pos ≠ .refill ∨ s.rgs.run.fromStart = false → t.slt = s.slt))
      ∧ (s.lkg.main ≠ .opened ∨ s.link.fieldFresh = false →
          t.rgs = { s.rgs with
            seq := .held, holdDue := false, run := { s.rgs.run with hold := 0, interrupted := some .running } }
          ∧ t.acc = s.acc ∧ t.drain = s.drain ∧ t.slt = s.slt))
  ∧ (∀ (i : Fin 4) (n : Nat) (s : State),
    let x := s.flt.snapshot[i]
    let p := backwashPos x.pos
    s.flt.st = .positioning → s.flt.run.step = some i →
    s.filterRotor.run.st = .moving p n ∨ s.filterRotor.run.st = .paused p n → s.filterRotor.run.recognised = some p →
    ∃ t, exec (.arrival .filterRotor) s = .next t ∧ t.filterRotor.run.st = .at p ∧ t.flagSet .filter ∧ t.lkg = s.lkg
      ∧ t.rgs = s.rgs ∧ t.slt = s.slt
      ∧ (s.lkg.main = .opened → s.link.fieldFresh = true → t.flt = { s.flt with st := .running }
          ∧ (s.drain.holder = some .backwash →
              t.drain = { s.drain with allowance := x.allowance, kind := some .backwash }))
      ∧ (s.lkg.main ≠ .opened ∨ s.link.fieldFresh = false →
          t.flt = { s.flt with
            st := .held, holdDue := false, run := { s.flt.run with hold := 0, interrupted := some .running } }
          ∧ t.acc = s.acc ∧ t.drain = s.drain))
  ∧ (∀ (p : Pos) (n : Nat) (s : State), s.rgs.seq = .positioning →
    (∀ i, s.rgs.run.step = some i → p ≠ regenPos s.rgs.snapshot[i].pos) → s.regenRotor.run.st = .moving p n →
    s.regenRotor.run.recognised = some p →
    ∃ t, exec (.arrival .regenRotor) s = .next t ∧ t.rgs = s.rgs ∧ t.acc = s.acc ∧ t.drain = s.drain ∧ t.slt = s.slt)
  ∧ ∀ (p : Pos) (n : Nat) (s : State), s.flt.st = .positioning →
    (∀ i, s.flt.run.step = some i → p ≠ backwashPos s.flt.snapshot[i].pos) → s.filterRotor.run.st = .moving p n →
    s.filterRotor.run.recognised = some p →
    ∃ t, exec (.arrival .filterRotor) s = .next t ∧ t.flt = s.flt ∧ t.acc = s.acc ∧ t.drain = s.drain

/-- A run in POSITIONING or RUNNING is HELD when the field link becomes FIELD_STALE and when the main leaves OPEN, by a
CLOSE_MAIN say: its phase is kept as the interrupted one, its hold starts at 0, its elapsed seconds and brine volume
stand, and a step that was RUNNING gives up its allowance and the brine phase; the line stays with its holder (R77,
R112, R143). A HELD run resumes when the main is OPEN and the link FRESH, at whichever makes both true, the main's
arrival at OPEN or a good field frame: it is POSITIONING with its elapsed seconds kept and its rotor asked toward the
interrupted step, and RUNNING again when the rotor stands there already; with the link still stale it stays HELD (R112,
R143). Said of one run, with no decay test, nobody that could be granted the line, and, of the field frame, no enabled
MOISTURE or SILENCE rule and its events due taken first (assumption 1). -/
def Obligations.RunsAreHeldAndResumed : Prop :=
  let held := fun s t : State =>
    (s.rgs.seq = .positioning ∨ s.rgs.seq = .running → t.flagSet .regen ∧ t.rgs = { s.rgs with
      seq := .held, holdDue := false, run := { s.rgs.run with hold := 0, interrupted := some s.rgs.seq } })
    ∧ (s.rgs.seq ≠ .positioning → s.rgs.seq ≠ .running → t.rgs = s.rgs)
    ∧ (s.rgs.seq = .running → t.acc.phase = .none
        ∧ (s.drain.holder = some .regen → t.drain.allowance = 0 ∧ t.drain.kind = none))
    ∧ (s.flt.st = .positioning ∨ s.flt.st = .running → t.flagSet .filter ∧ t.flt = { s.flt with
      st := .held, holdDue := false, run := { s.flt.run with hold := 0, interrupted := some s.flt.st } })
    ∧ (s.flt.st ≠ .positioning → s.flt.st ≠ .running → t.flt = s.flt)
    ∧ (s.flt.st = .running → s.drain.holder = some .backwash → t.drain.allowance = 0 ∧ t.drain.kind = none)
    ∧ t.drain.holder = s.drain.holder
  let resumed := fun s t : State =>
    (∀ i, s.rgs.seq = .held → s.flt.st ≠ .held → s.rgs.run.step = some i →
      let p := regenPos s.rgs.snapshot[i].pos
      (s.answer .regenRotor p = .moving → t.rgs = { s.rgs with seq := .positioning } ∧ t.flagSet .regen
          ∧ t.regenRotor.run.target = some p ∧ t.drain = s.drain ∧ t.flt = s.flt)
      ∧ (s.answer .regenRotor p = .completed → t.flagSet .regen ∧ t.rgs = { s.rgs with
          seq := .running, run := { s.rgs.run with
            fromStart := false, drawBegun := s.rgs.run.drawBegun || decide (p = .brineDraw) } }
          ∧ t.drain.holder = s.drain.holder
          ∧ (s.drain.holder = some .regen →
              t.drain.allowance = s.rgs.snapshot[i].allowance ∧ t.drain.kind = some .regen)))
    ∧ (∀ i, s.flt.st = .held → s.rgs.seq ≠ .held → s.flt.run.step = some i →
      let p := backwashPos s.flt.snapshot[i].pos
      (s.answer .filterRotor p = .moving → t.flt = { s.flt with st := .positioning } ∧ t.flagSet .filter
          ∧ t.filterRotor.run.target = some p ∧ t.drain = s.drain ∧ t.rgs = s.rgs)
      ∧ (s.answer .filterRotor p = .completed → t.flt = { s.flt with st := .running } ∧ t.flagSet .filter
          ∧ t.drain.holder = s.drain.holder
          ∧ (s.drain.holder = some .backwash →
              t.drain.allowance = s.flt.snapshot[i].allowance ∧ t.drain.kind = some .backwash)))
    ∧ (s.rgs.seq ≠ .held → s.flt.st ≠ .held → t.rgs = s.rgs ∧ t.flt = s.flt)
  (∀ s : State, s.link.fieldFresh = true → 250 ≤ s.link.fieldMissing → s.lkg.test.st = .idle →
    ∃ t, exec .fieldLinkStale s = .next t ∧ held s t)
  ∧ (∀ (tag : Byte) (s : State), s.takesRequests → s.lkg.test.st = .idle → s.lkg.main = .opened →
    s.answer .main .mainClosed = .moving ∨ s.answer .main .mainClosed = .completed →
    ∃ t, exec (.closeMain tag) s = .next t ∧ held s t)
  ∧ (∀ (n : Nat) (s : State), s.main.run.st = .moving .mainOpen n → s.main.run.recognised = some .mainOpen →
    s.lkg.main = .opening → s.lkg.test.st = .idle → s.drain.holder ≠ none ∨ s.noneWaits →
    ∃ t, exec (.arrival .main) s = .next t ∧ t.lkg.main = .opened
      ∧ (s.link.fieldFresh = true → resumed s t) ∧ (s.link.fieldFresh = false → t.rgs = s.rgs ∧ t.flt = s.flt))
  ∧ ∀ (slots : Vector Byte 20) (s : State),
    let u := settle s
    u.link.fieldFresh = false →
    (∀ i : Fin 16, u.lkg.rules[i].conf.enabled = true →
      u.lkg.rules[i].conf.kind ≠ .moisture ∧ u.lkg.rules[i].conf.kind ≠ .silence) →
    ∃ t, exec (.goodFieldFrame slots) s = .next t
      ∧ (u.lkg.main = .opened → resumed u t) ∧ (u.lkg.main ≠ .opened → t.rgs = u.rgs ∧ t.flt = u.flt)

/-- REGEN_STEP_END: a RUNNING step that has reached its duration, its volume target, or its timeout first (SHORT) ends:
it is counted with its SHORT mark, the brine phase becomes NONE, the holder's allowance 0, a REFILL step ends its
refill check's filling, one with end kind DURATION as one at its target (assumption 47), and the run asks the rotor
toward the next enabled step or, after the last, toward SERVICE (R77, R110, R127). BACKWASH_STEP_END: a RUNNING
backwash step that has reached its duration is counted, the holder's allowance becomes 0, and the rotor is asked toward
the next enabled step or, after the last, toward SERVICE (R77, R142). A limit is reached at or above it (assumption
23). -/
def Obligations.ARunningStepEnds : Prop :=
  (∀ (i : Fin 8) (short : Bool) (s : State),
      let x := s.rgs.snapshot[i]
      s.rgs.seq = .running → s.rgs.run.step = some i →
      ((x.endKind = .duration ∧ x.duration ≤ s.rgs.run.elapsed ∧ short = false)
        ∨ (x.endKind = .volume ∧ x.volume ≤ s.rgs.run.brine ∧ short = false)
        ∨ (x.endKind = .volume ∧ s.rgs.run.brine < x.volume ∧ x.timeout ≤ s.rgs.run.elapsed ∧ short = true)) →
      (∀ j : Fin 8, i < j → s.rgs.snapshot[j].enabled = true → (∀ k : Fin 8, i < k → k < j → s.rgs.snapshot[k].enabled = false) →
        s.supplied = true → s.answer .regenRotor (regenPos s.rgs.snapshot[j].pos) = .moving →
        ∃ t, exec .regenStepEnd s = .next t ∧ t.rgs.seq = .positioning
          ∧ t.rgs.run = { s.rgs.run with step := some j, elapsed := 0, brine := 0, fromStart := true }
          ∧ t.rgs.record = s.rgs.record.map (fun r =>
              { r with stepsDone := r.stepsDone + 1, short := r.short.set i short })
          ∧ t.acc.phase = .none ∧ (s.drain.holder = some .regen → t.drain.allowance = 0 ∧ t.drain.kind = none)
          ∧ (x.pos ≠ .refill → t.slt = s.slt)
          ∧ (x.pos = .refill → s.slt.refill.phase = .inRefill → short = false →
              t.slt.refill.phase = .settling ∧ t.slt.refill.timer = some 600)
          ∧ (x.pos = .refill → s.slt.refill.phase = .inRefill → short = true →
              t.slt.refill.phase = .none ∧ t.slt.refill.result = some .short ∧ t.slt.refillShort = true)
          ∧ t.regenRotor.run.target = some (regenPos s.rgs.snapshot[j].pos) ∧ t.flagSet .regen ∧ t.drain.holder = s.drain.holder)
      ∧ ((∀ j : Fin 8, i < j → s.rgs.snapshot[j].enabled = false) → s.answer .regenRotor .service = .moving →
        ∃ t, exec .regenStepEnd s = .next t ∧ t.rgs.seq = .parking ∧ t.rgs.run = { s.rgs.run with step := none }
          ∧ t.rgs.record = s.rgs.record.map (fun r =>
              { r with stepsDone := r.stepsDone + 1, short := r.short.set i short })
          ∧ t.acc.phase = .none ∧ t.regenRotor.run.target = some .service ∧ t.flagSet .regen
          ∧ t.drain.holder = s.drain.holder))
  ∧ ∀ (i : Fin 4) (s : State), s.flt.st = .running → s.flt.run.step = some i →
      s.flt.snapshot[i].duration ≤ s.flt.run.elapsed →
      (∀ j : Fin 4, i < j → s.flt.snapshot[j].enabled = true →
          (∀ k : Fin 4, i < k → k < j → s.flt.snapshot[k].enabled = false) → s.supplied = true →
          s.answer .filterRotor (backwashPos s.flt.snapshot[j].pos) = .moving →
        ∃ t, exec .backwashStepEnd s = .next t ∧ t.flt.st = .positioning
          ∧ t.flt.run = { s.flt.run with step := some j, elapsed := 0 }
          ∧ t.flt.record = s.flt.record.map (fun r => { r with stepsDone := r.stepsDone + 1 })
          ∧ (s.drain.holder = some .backwash → t.drain.allowance = 0 ∧ t.drain.kind = none)
          ∧ t.filterRotor.run.target = some (backwashPos s.flt.snapshot[j].pos) ∧ t.flagSet .filter
          ∧ t.flt.stages = s.flt.stages ∧ t.rgs = s.rgs ∧ t.lkg = s.lkg)
      ∧ ((∀ j : Fin 4, i < j → s.flt.snapshot[j].enabled = false) → s.answer .filterRotor .service = .moving →
        ∃ t, exec .backwashStepEnd s = .next t ∧ t.flt.st = .parking
          ∧ t.flt.run = { s.flt.run with step := none, decided := false }
          ∧ t.flt.record = s.flt.record.map (fun r => { r with stepsDone := r.stepsDone + 1 })
          ∧ t.filterRotor.run.target = some .service ∧ t.flagSet .filter ∧ t.flt.stages = s.flt.stages
          ∧ t.rgs = s.rgs ∧ t.lkg = s.lkg)

/-- A regeneration completes at the rotor's arrival at SERVICE in PARKING: the draw accumulator is closed, the tank is
restored to its nominal times the efficiency of the dose over 1024 and becomes STANDBY with its seconds at 0, the
record takes the end, the drain line is freed and the sequencer is IDLE (R95, R111). Said with nobody waiting for the
line and no swap to seek. A backwash completes so too: the stage's since-backwash counters and persistence count become
0, the demand is cleared and the watch armed, the record takes the end seconds and COMPLETE, the line is freed and the
backwash is IDLE; parked after its outcome was decided it becomes IDLE alone (R142, R143). -/
def Obligations.ARunCompletesAtService : Prop :=
  (∀ (x : TankId) (n : Nat) (s : State),
    let saltG := s.acc.draw.saltDg / 10
    let dose := min 1000 (saltG / s.acc.settings.resin)
    let eff := (curveEval s.acc.efficiencyCurve dose).getD 0
    let restored := (s.tank x).nominal * eff / 1024
    s.rgs.seq = .parking → s.rgs.run.tank = some x → s.regenRotor.run.st = .moving .service n →
    s.regenRotor.run.recognised = some .service → s.drain.holder = some .regen → s.noneWaits →
    (s.confirmed = none ∨ s.confirmed = some .bypass
      ∨ (s.confirmed = some x.other.pos ∧ s.acc.settings.reserve < (s.tank x.other).remaining)) →
    ∃ t, exec (.arrival .regenRotor) s = .next t
      ∧ t.tank x = { s.tank x with st := .standby, remaining := restored, seconds := 0, lastOutcome := some .complete }
      ∧ t.tank x.other = s.tank x.other ∧ t.rgs.seq = .idle ∧ t.rgs.run = RegenRun.empty
      ∧ t.rgs.record = s.rgs.record.map (fun r => { r with
          endedAt := some s.mgu.seconds, outcome := some .complete, brine := some (drawValues s.acc.draw)
          restoration := some { dose := dose, efficiency := eff, restored := restored } })
      ∧ t.drain.holder = none ∧ t.drain.allowance = 0 ∧ t.acc.draw.isOpen = false
      ∧ t.slt.store = (if 0 < s.acc.draw.volume then s.slt.store - saltG else s.slt.store)
      ∧ t.regenRotor.run.st = .at .service ∧ t.flagSet .regen ∧ t.lkg = s.lkg ∧ t.flt = s.flt)
  ∧ ∀ (n : Nat) (s : State), s.flt.st = .parking →
    s.filterRotor.run.st = .moving .service n ∨ s.filterRotor.run.st = .paused .service n →
    s.filterRotor.run.recognised = some .service → s.noneWaits →
    ∃ t, exec (.arrival .filterRotor) s = .next t ∧ t.filterRotor.run.st = .at .service ∧ t.flagSet .filter
      ∧ t.rgs = s.rgs ∧ t.lkg = s.lkg ∧ t.slt = s.slt ∧ t.mgu.fault = s.mgu.fault
      ∧ (∀ i : Fin 4, s.flt.run.decided = false → s.flt.run.stage = some i → s.drain.holder = some .backwash →
          t.flt = { s.flt with
            st := .idle, run := BwRun.empty, demand := none, watch := true
            stages := s.flt.stages.set i { s.flt.stages[i] with volBw := 0, secBw := 0, dpCount := 0 }
            record := s.flt.record.map fun r => { r with endedAt := some s.mgu.seconds, outcome := some .complete } }
          ∧ t.drain = { s.drain with holder := none, allowance := 0, kind := none })
      ∧ (s.flt.run.decided = true → t.flt = { s.flt with st := .idle, run := BwRun.empty } ∧ t.drain = s.drain)

/-- A charge that leaves the service tank at or below the reserve, or at 0, gives RGS its notices: the tank takes the
load, at 0 a SERVICE tank becomes EXHAUSTED, and a swap is sought (R92, R101). With the sequencer IDLE, no move in
flight and the other tank STANDBY above the reserve the SELECTOR is asked toward it and the move is SWAP; otherwise
nothing moves. A change of the SELECTOR's last confirmed position, by an arrival or an adoption, judges the tank left,
STANDBY above the reserve and else EXHAUSTED, and the tank reached, SERVICE above 0 and else EXHAUSTED (R100). The
arrival ends the move: a swap queues the tank left, if configured, with trigger RESERVE and prior state EXHAUSTED,
BYPASS_ON keeps the remembered tank and BYPASS_OFF clears it (R102, R103). A fault, or a refusal of a bypass command's
request, ends the move, of BYPASS_ON with the remembered tank none (R102, R103). Said with no enabled EVENT_VOLUME
rule, of a position that is not the tank of a run, and of a queued tank with the drain line not to be had. The marks of
the events are assumption 1. -/
def Obligations.SelectorMovesStartAndEnd : Prop :=
  (∀ (ch : Fin 8) (s : State) (x : TankId),
    let c := s.channels[ch]
    let dv := min 65535 ((s.acc.pulseCarry + c.run.acc * 100) / s.acc.settings.k)
    let measured := if s.acc.settings.mode = .auto ∧ s.trackers[condSupply].run.st = .locked then
      curveEval s.acc.hardnessCurve (s.estimate condSupply) else none
    let h := if s.acc.settings.mode = .forced then s.acc.settings.hf
      else measured.getD (s.acc.held.getD s.acc.settings.hf)
    let dl := dv * min 2000 (h + s.acc.settings.fe * s.acc.settings.kFe / 1000)
    let left := (s.tank x).remaining - dl
    let seeks := s.rgs.seq = .idle ∧ s.rgs.move = .none ∧ (s.tank x.other).st = .standby
      ∧ s.acc.settings.reserve < (s.tank x.other).remaining
    c.run.cond = .opened → c.conf.x ≤ c.run.g →
    (c.conf.mode = .edgeCount ∨ c.conf.mode = .countDelta ∨ c.conf.mode = .gatedCount) →
    s.acc.settings.inlet = some ch.val → 1 ≤ s.acc.settings.k → s.acc.settings.k ≤ 60000 →
    s.drain.kind ≠ some .backwash → s.confirmed = some x.pos → (s.tank x).charged = true → 0 < dl →
    left ≤ s.acc.settings.reserve →
    (∀ i : Fin 16, s.lkg.rules[i].conf.enabled = true → s.lkg.rules[i].conf.kind ≠ .eventVolume) →
    ∃ t, exec (.channelResult ch) s = .next t
      ∧ (¬ seeks ∨ s.answer .selector x.other.pos ≠ .completed →
          t.tank x = { s.tank x with
            remaining := left, st := if left = 0 ∧ (s.tank x).st = .service then .exhausted else (s.tank x).st }
          ∧ t.tank x.other = s.tank x.other ∧ t.confirmed = s.confirmed ∧ t.rgs.seq = s.rgs.seq)
      ∧ (left = 0 → (s.tank x).st = .service → t.flagSet .tank)
      ∧ (¬ seeks → t.rgs.move = s.rgs.move ∧ t.selector = s.selector)
      ∧ (seeks → s.answer .selector x.other.pos = .moving →
          t.rgs.move = .swap x.other ∧ t.selector.run.target = some x.other.pos)
      ∧ (seeks → s.answer .selector x.other.pos = .faulted ∨ s.answer .selector x.other.pos = .disabled →
          t.rgs.move = .none ∧ t.selector = s.selector))
  ∧ (∀ (c : Instr) (p : Pos) (s : State),
    let judged := fun y : TankId =>
      let z := s.tank y
      if s.confirmed = some p ∨ z.st = .unconfigured ∨ z.st = .regenerating then z
      else if p = y.pos then { z with st := if 0 < z.remaining then .service else .exhausted }
      else if s.confirmed = some y.pos then
        { z with st := if s.acc.settings.reserve < z.remaining then .standby else .exhausted }
      else z
    (∀ y, s.rgs.run.tank = some y → p ≠ y.pos) → s.selector.run.recognised = some p →
    (c = .arrival .selector ∧ s.selector.run.target = some p)
      ∨ (c = .adoption .selector ∧ s.selector.run.st = .unknown ∧ s.selector.conf.enabled = true
          ∧ s.selector.run.adoptSeen = true) →
    ∃ t, exec c s = .next t ∧ t.selector.run.st = .at p ∧ t.confirmed = some p
      ∧ (∀ y, (judged y).st ≠ (s.tank y).st → t.flagSet .tank)
      ∧ (c = .adoption .selector ∨ s.rgs.move = .none →
          t.rgs = { s.rgs with tankA := judged .a, tankB := judged .b })
      ∧ (c = .arrival .selector → s.rgs.move = .bypassOn →
          t.rgs = { s.rgs with tankA := judged .a, tankB := judged .b, move := .none })
      ∧ (∀ y, c = .arrival .selector → s.rgs.move = .bypassOff y →
          t.rgs = { s.rgs with tankA := judged .a, tankB := judged .b, move := .none, remembered := none })
      ∧ (∀ y : TankId, c = .arrival .selector → s.rgs.move = .swap y →
          ((judged y.other).st = .unconfigured →
            t.rgs = { s.rgs with tankA := judged .a, tankB := judged .b, move := .none })
          ∧ ((judged y.other).st ≠ .unconfigured → s.drain.holder ≠ some .regen →
              s.drain.holder ≠ none ∨ s.lkg.main ≠ .opened →
            t.rgs.seq = .queued ∧ t.rgs.move = .none ∧ t.flagSet .regen ∧ t.drain = { s.drain with waitRegen := true }
            ∧ t.rgs.run = { RegenRun.empty with
                tank := some y.other, prior := some .exhausted, trigger := some .reserve }
            ∧ t.rgs.record = some (newRecord y.other .reserve s.mgu.seconds)
            ∧ t.tank y.other = { judged y.other with st := .regenerating } ∧ t.tank y = judged y)))
  ∧ (∀ (c : Instr) (p : Pos) (n : Nat) (s : State), s.selector.run.st = .moving p n →
    (c = .travelTimeout .selector ∧ s.selector.run.travel = some 0 ∧ s.selector.conf.retry < n)
      ∨ (c = .stall .selector ∧ s.selector.run.stallSeen = true ∧ s.selector.run.recognised ≠ some p) →
    ∃ t, exec c s = .next t ∧ t.confirmed = s.confirmed ∧ t.rgs = { s.rgs with
      move := .none, remembered := if s.rgs.move = .bypassOn then none else s.rgs.remembered })
  ∧ ∀ (tag : Byte) (s : State), s.takesRequests → s.rgs.move = .none →
    (s.confirmed ≠ some .bypass → s.answer .selector .bypass = .faulted ∨ s.answer .selector .bypass = .disabled →
      exec (.bypassOn tag) s = .next (pushReply tag [1] { s with rgs := { s.rgs with remembered := none } }))
    ∧ (s.confirmed = some .bypass → ∀ x : TankId, (s.tank x).st = .standby → s.rgs.remembered.getD .a = x →
        s.answer .selector x.pos = .faulted ∨ s.answer .selector x.pos = .disabled →
        exec (.bypassOff tag) s = .next (pushReply tag [1] s))

/-- A fault of the REGEN_ROTOR in POSITIONING, RUNNING, HELD or PARKING from the last step ends the regeneration
FAULTED: the draw closed without restoration, the tank EXHAUSTED with remaining 0, the record and the tank's outcome
FAULTED, RGS_FAULTED offered, which sets LOST beside ACT's fault, the line released and the sequencer IDLE (R115); so
does a refusal, said of that at the grant, whose offer fills a record not valid (R108, R115, R173). A fault in PARKING
after the outcome makes it IDLE alone (R113). The FILTER_ROTOR ends a backwash so, with no fault of FLT's own and the
demand kept (R143, R144). The SELECTOR at the tank of the run, by an arrival or an adoption, abandons it (R116): in
QUEUED with the request withdrawn, no fault and a swap sought (R101), in the other phases with RGS_ABANDONED offered,
the line released and the rotor asked toward SERVICE; the tank is EXHAUSTED with remaining 0 and the tank left is
judged (R100). The detail bytes are assumption 18, the end seconds in QUEUED 17, the marks of the events 1. Said with
nobody else waiting for the line. -/
def Obligations.RotorFaultsAndTheSelectorEndARun : Prop :=
  let freed := fun s : State => { s.drain with holder := none, allowance := 0, kind := none }
  let faults := fun (a : Actr) (c : Instr) (kind : FaultKind) (s : State) => ∃ p n, (s.act a).run.st = .moving p n
    ∧ ((c = .travelTimeout a ∧ (s.act a).run.travel = some 0 ∧ (s.act a).conf.retry < n ∧ kind = .actNoResponse)
      ∨ (c = .stall a ∧ (s.act a).run.stallSeen = true ∧ (s.act a).run.recognised ≠ some p ∧ kind = .actStall))
  let lost := fun s t : State => s.mgu.fault.valid = true → t.mgu.fault = { s.mgu.fault with lost := true }
  (∀ (x : TankId) (c : Instr) (kind : FaultKind) (s : State), faults .regenRotor c kind s →
    s.rgs.seq = .positioning ∨ s.rgs.seq = .running ∨ s.rgs.seq = .held ∨ s.rgs.seq = .parking →
    s.rgs.run.tank = some x → s.drain.holder = some .regen → s.noneWaits → s.confirmed ≠ some x.pos →
    ∃ t, exec c s = .next t
      ∧ t.tank x = { s.tank x with st := .exhausted, remaining := 0, lastOutcome := some .faulted }
      ∧ t.tank x.other = s.tank x.other ∧ t.rgs.seq = .idle ∧ t.rgs.run = RegenRun.empty ∧ t.rgs.move = s.rgs.move
      ∧ t.rgs.record = s.rgs.record.map (fun r => { r with
          endedAt := some s.mgu.seconds, outcome := some .faulted, brine := some (drawValues s.acc.draw) })
      ∧ t.acc.draw = { s.acc.draw with isOpen := false } ∧ (s.rgs.seq = .running → t.acc.phase = .none)
      ∧ t.slt.store = (if 0 < s.acc.draw.volume then s.slt.store - s.acc.draw.saltDg / 10 else s.slt.store)
      ∧ t.drain = freed s ∧ t.flagSet .regen ∧ ((s.tank x).st ≠ .exhausted → t.flagSet .tank) ∧ t.flt = s.flt
      ∧ t.lkg = s.lkg
      ∧ (s.mgu.fault.valid = false → t.mgu.fault.kind = kind ∧ t.mgu.fault.source = 2 ∧ t.mgu.fault.lost = true)
      ∧ lost s t)
  ∧ (∀ (c : Instr) (kind : FaultKind) (s : State), faults .regenRotor c kind s → s.rgs.seq = .parking →
    s.rgs.run.tank = none → s.drain.holder ≠ some .regen → s.noneWaits → (∀ y : TankId, s.confirmed ≠ some y.pos) →
    ∃ t, exec c s = .next t ∧ t.rgs = { s.rgs with seq := .idle, run := RegenRun.empty } ∧ t.drain = s.drain
      ∧ t.flagSet .regen ∧ (s.mgu.fault.valid = false → t.mgu.fault.kind = kind ∧ t.mgu.fault.lost = s.mgu.fault.lost))
  ∧ (∀ (i : Fin 8) (x : TankId) (s : State),
    let a := s.answer .regenRotor (regenPos s.rgs.program[i].pos)
    s.lkg.main = .opened → s.link.fieldFresh = true → s.drain.holder = none → s.drain.waitRegen = true →
    s.drain.waitBackwash = false → s.drain.waitTest = false → s.rgs.seq = .queued → s.rgs.run.tank = some x →
    s.confirmed ≠ some x.pos → s.rgs.program[i].enabled = true →
    (∀ j : Fin 8, j < i → s.rgs.program[j].enabled = false) → a = .faulted ∨ a = .disabled →
    ∃ t, exec .drainGrant s = .next t
      ∧ t.tank x = { s.tank x with st := .exhausted, remaining := 0, lastOutcome := some .faulted }
      ∧ t.tank x.other = s.tank x.other ∧ t.rgs.seq = .idle ∧ t.rgs.run = RegenRun.empty
      ∧ t.rgs.record = s.rgs.record.map (fun r => { r with
          startedAt := some s.mgu.seconds, endedAt := some s.mgu.seconds, outcome := some .faulted
          brine := some { saltG := 0, mean := none, volume := 0, measured := true } })
      ∧ t.drain = { freed s with waitRegen := false } ∧ t.flagSet .regen ∧ t.regenRotor = s.regenRotor
      ∧ (s.mgu.fault.valid = false → t.flagSet .fault ∧ t.mgu.fault.kind = .rgsFaulted
          ∧ t.mgu.fault.source = x.index ∧ t.mgu.fault.seconds = s.mgu.seconds
          ∧ t.mgu.fault.detail = #v[toByte i.val, if a = .disabled then 3 else 2, 0, 0])
      ∧ lost s t)
  ∧ (∀ (c : Instr) (kind : FaultKind) (s : State), faults .filterRotor c kind s → s.noneWaits →
    s.flt.st = .positioning ∨ s.flt.st = .running ∨ s.flt.st = .held ∨ s.flt.st = .parking →
    ∃ t, exec c s = .next t ∧ t.flagSet .filter ∧ t.rgs = s.rgs ∧ t.lkg = s.lkg
      ∧ (s.mgu.fault.valid = false →
          t.mgu.fault.kind = kind ∧ t.mgu.fault.source = 3 ∧ t.mgu.fault.lost = s.mgu.fault.lost)
      ∧ (s.flt.st ≠ .parking ∨ s.flt.run.decided = false → s.drain.holder = some .backwash →
          t.flt = { s.flt with
            st := .idle, run := BwRun.empty
            record := s.flt.record.map fun r => { r with endedAt := some s.mgu.seconds, outcome := some .faulted } }
          ∧ t.drain = freed s)
      ∧ (s.flt.st = .parking → s.flt.run.decided = true →
          t.flt = { s.flt with st := .idle, run := BwRun.empty } ∧ t.drain = s.drain))
  ∧ (∀ (i : Fin 4) (s : State),
    let a := s.answer .filterRotor (backwashPos s.flt.program[i].pos)
    s.lkg.main = .opened → s.link.fieldFresh = true → s.drain.holder = none → s.drain.waitRegen = false →
    s.drain.waitBackwash = true → s.drain.waitTest = false → s.flt.st = .queued → s.flt.program[i].enabled = true →
    (∀ j : Fin 4, j < i → s.flt.program[j].enabled = false) → a = .faulted ∨ a = .disabled →
    ∃ t, exec .drainGrant s = .next t ∧ t.flagSet .filter ∧ t.mgu.fault = s.mgu.fault
      ∧ t.drain = { freed s with waitBackwash := false }
      ∧ t.flt = { s.flt with
          st := .idle, run := BwRun.empty, snapshot := s.flt.program
          record := s.flt.record.map fun r => { r with
            startedAt := some s.mgu.seconds, endedAt := some s.mgu.seconds, outcome := some .faulted } })
  ∧ ∀ (c : Instr) (x : TankId) (s : State),
    let other := if s.confirmed = some x.other.pos ∧ (s.tank x.other).charged = true then
        { s.tank x.other with
          st := if s.acc.settings.reserve < (s.tank x.other).remaining then .standby else .exhausted }
      else s.tank x.other
    let back := other.st = .standby ∧ s.acc.settings.reserve < other.remaining
    s.rgs.run.tank = some x → s.rgs.move = .none → s.selector.conf.enabled = true →
    s.selector.run.recognised = some x.pos →
    (c = .arrival .selector ∧ s.selector.run.target = some x.pos)
      ∨ (c = .adoption .selector ∧ s.selector.run.st = .unknown ∧ s.selector.run.adoptSeen = true) →
    (s.rgs.seq = .queued → s.drain.holder ≠ some .regen →
      ∃ t, exec c s = .next t ∧ t.confirmed = some x.pos
        ∧ t.tank x = { s.tank x with st := .exhausted, remaining := 0, lastOutcome := some .abandoned }
        ∧ t.tank x.other = other ∧ t.rgs.seq = .idle ∧ t.rgs.run = RegenRun.empty ∧ t.flagSet .regen
        ∧ t.rgs.record = s.rgs.record.map (fun r =>
            { r with endedAt := some s.mgu.seconds, outcome := some .abandoned })
        ∧ t.drain = { s.drain with waitRegen := false } ∧ t.mgu.fault = s.mgu.fault
        ∧ (back → t.rgs.move = .swap x.other ∧ t.selector.run.target = some x.other.pos)
        ∧ (¬ back → t.rgs.move = .none ∧ t.selector.run.st = .at x.pos))
    ∧ (s.rgs.seq = .positioning ∨ s.rgs.seq = .running ∨ s.rgs.seq = .held ∨ s.rgs.seq = .parking →
        s.drain.holder = some .regen → s.noneWaits → s.answer .regenRotor .service = .moving →
      ∃ t, exec c s = .next t ∧ t.confirmed = some x.pos ∧ t.selector.run.st = .at x.pos
        ∧ t.tank x = { s.tank x with st := .exhausted, remaining := 0, lastOutcome := some .abandoned }
        ∧ t.tank x.other = other ∧ t.rgs.seq = .parking
        ∧ t.rgs.run = { s.rgs.run with tank := none, step := none } ∧ t.rgs.move = .none
        ∧ t.rgs.record = s.rgs.record.map (fun r => { r with
            endedAt := some s.mgu.seconds, outcome := some .abandoned, brine := some (drawValues s.acc.draw) })
        ∧ t.acc.draw.isOpen = false ∧ t.drain = freed s ∧ t.regenRotor.run.target = some .service ∧ t.flagSet .regen
        ∧ (s.mgu.fault.valid = false → t.flagSet .fault ∧ t.mgu.fault.kind = .rgsAbandoned
            ∧ t.mgu.fault.source = x.index ∧ t.mgu.fault.seconds = s.mgu.seconds
            ∧ t.mgu.fault.detail = #v[(match s.rgs.run.step with | some i => toByte i.val | none => 0xFF),
                (match s.rgs.seq with | .positioning => 2 | .running => 3 | .held => 4 | _ => 5), 0, 0])
        ∧ lost s t)

/-- REGEN_HOLD_LIMIT and BACKWASH_HOLD_LIMIT: a held run whose hold has reached the limit is abandoned: the
regeneration's tank becomes EXHAUSTED with remaining 0, the run is ABANDONED in its record, the fault is offered, the
line given back and the rotor asked toward SERVICE (R113, R143, R173). Said with nobody waiting for the line. The mark
of a limit not yet taken, and a command that changes nothing of a run not HELD, are assumption 1. -/
def Obligations.ARunHeldToItsLimitIsAbandoned : Prop :=
  (∀ (x : TankId) (s : State), s.rgs.seq = .held → s.rgs.holdDue = true → s.rgs.run.tank = some x → s.noneWaits →
    s.answer .regenRotor .service = .moving →
    ∃ t, exec .regenHoldLimit s = .next t
      ∧ t.tank x = { s.tank x with st := .exhausted, remaining := 0, lastOutcome := some .abandoned }
      ∧ t.tank x.other = s.tank x.other ∧ t.rgs.seq = .parking ∧ t.rgs.run.tank = none ∧ t.rgs.run.step = none
      ∧ t.rgs.record = s.rgs.record.map (fun r => { r with
          endedAt := some s.mgu.seconds, outcome := some .abandoned, brine := some (drawValues s.acc.draw) })
      ∧ t.drain.holder ≠ some .regen ∧ t.acc.draw.isOpen = false ∧ t.regenRotor.run.target = some .service
      ∧ t.mgu.fault.valid = true
      ∧ (s.mgu.fault.valid = false → t.mgu.fault.kind = .rgsAbandoned ∧ t.mgu.fault.source = x.index
          ∧ t.mgu.fault.seconds = s.mgu.seconds))
  ∧ (∀ (i : Fin 4) (s : State), s.flt.st = .held → s.flt.holdDue = true → s.flt.run.stage = some i → s.noneWaits →
    s.answer .filterRotor .service = .moving →
    ∃ t, exec .backwashHoldLimit s = .next t ∧ t.flt.st = .parking ∧ t.flt.run.step = none
      ∧ t.flt.record = s.flt.record.map (fun r => { r with endedAt := some s.mgu.seconds, outcome := some .abandoned })
      ∧ t.flt.stages = s.flt.stages ∧ t.drain.holder ≠ some .backwash ∧ t.filterRotor.run.target = some .service
      ∧ t.mgu.fault.valid = true
      ∧ (s.mgu.fault.valid = false → t.mgu.fault.kind = .fltAbandoned ∧ t.mgu.fault.source = i.val
          ∧ t.mgu.fault.seconds = s.mgu.seconds))
  ∧ ∀ s : State, (s.rgs.seq ≠ .held → exec .regenHoldLimit s = .next s)
      ∧ (s.flt.st ≠ .held → exec .backwashHoldLimit s = .next s)

/-- CANCEL_REGEN: in QUEUED the run ends at once with the tank back in its prior state and its remaining kept, and a
swap is sought as at the end of every run: with the service tank at or below the reserve and the other one STANDBY
above it, the SELECTOR is asked toward the other (R101, R114; the end seconds of the record are assumption 17, the
order of the release and the swap assumption 16). In POSITIONING, RUNNING or HELD the tank is EXHAUSTED with remaining
0 once a brine draw has begun, and otherwise keeps its remaining as STANDBY or EXHAUSTED by the reserve, and the rotor
is asked toward SERVICE; in IDLE and PARKING the command is refused with WRONG_STATE (R114). -/
def Obligations.CancelRegenIsTakenBySequencerState : Prop :=
  ∀ (tag : Byte) (x : TankId) (s : State), s.takesRequests →
    ((s.rgs.seq = .idle ∨ s.rgs.seq = .parking) → exec (.cancelRegen tag) s = .next (pushReply tag [7] s))
    ∧ (∀ p, s.rgs.seq = .queued → s.rgs.run.tank = some x → s.rgs.run.prior = some p → s.drain.holder ≠ some .regen →
      let st := fun y => if y = x then p else (s.tank y).st
      let sought := fun y => s.confirmed = some y.pos ∧ s.rgs.move = .none
        ∧ (s.tank y).remaining ≤ s.acc.settings.reserve ∧ st y.other = .standby
        ∧ s.acc.settings.reserve < (s.tank y.other).remaining
      ∃ t, exec (.cancelRegen tag) s = .next t
        ∧ t.mgu.replies = s.mgu.replies ++ [{ tag := tag, body := [0] }]
        ∧ ((∀ y, sought y → s.answer .selector y.other.pos ≠ .completed) →
            t.rgs.seq = .idle ∧ t.rgs.run = RegenRun.empty
            ∧ t.tank x = { s.tank x with st := p, lastOutcome := some .cancelled } ∧ t.tank x.other = s.tank x.other
            ∧ t.drain = { s.drain with waitRegen := false }
            ∧ t.rgs.record = s.rgs.record.map (fun r =>
                { r with endedAt := some s.mgu.seconds, outcome := some .cancelled }))
        ∧ ((∀ y, ¬ sought y) → t.rgs.move = s.rgs.move ∧ t.selector = s.selector)
        ∧ (∀ y, sought y → s.answer .selector y.other.pos = .moving →
            t.rgs.move = .swap y.other ∧ t.selector.run.target = some y.other.pos)
        ∧ (∀ y, sought y → s.answer .selector y.other.pos = .faulted ∨ s.answer .selector y.other.pos = .disabled →
            t.rgs.move = .none))
    ∧ ((s.rgs.seq = .positioning ∨ s.rgs.seq = .running ∨ s.rgs.seq = .held) → s.rgs.run.tank = some x →
        s.answer .regenRotor .service = .moving →
      ∃ t, exec (.cancelRegen tag) s = .next t ∧ t.rgs.seq = .parking ∧ t.rgs.run.tank = none
        ∧ (s.rgs.run.drawBegun = true →
            t.tank x = { s.tank x with st := .exhausted, remaining := 0, lastOutcome := some .cancelled })
        ∧ (s.rgs.run.drawBegun = false → t.tank x = { s.tank x with
            st := if s.acc.settings.reserve < (s.tank x).remaining then .standby else .exhausted
            lastOutcome := some .cancelled })
        ∧ t.acc.draw.isOpen = false ∧ t.regenRotor.run.target = some .service ∧ t.drain.holder = s.drain.holder
        ∧ t.mgu.replies = s.mgu.replies ++ [{ tag := tag, body := [1] }])

/-- SETTLING_EXPIRY: the settled refill is judged by its two samples: a rise of at least the least rise is a PASS and
clears REFILL_SHORT, a lesser one LOW_RISE and sets it, and without both samples the check is UNCHECKED (R128). Nothing
outside SLT but the change summary changes. A command whose timer has not run out changes nothing (assumption 1). -/
def Obligations.ASettledRefillIsJudged : Prop :=
  (∀ s : State, s.slt.refill.phase = .settling → s.slt.refill.timer = some 0 →
    let b := if s.trackers[brineLevel].run.st = .locked then s.trackers[brineLevel].run.est else none
    ∃ t, exec .settlingExpiry s = .next t ∧ t.slt.refill.phase = .none ∧ t.slt.refill.timer = none
      ∧ t.slt.refill.endSample = b ∧ t.slt.store = s.slt.store ∧ t.slt.bridge = s.slt.bridge
      ∧ (∀ m n : Nat, s.slt.refill.startSample = some m → b = some n →
          (m + s.slt.settings.minRise ≤ n → t.slt.refill.result = some .pass ∧ t.slt.refillShort = false)
          ∧ (n < m + s.slt.settings.minRise → t.slt.refill.result = some .lowRise ∧ t.slt.refillShort = true))
      ∧ (s.slt.refill.startSample = none ∨ b = none →
          t.slt.refill.result = some .unchecked ∧ t.slt.refillShort = s.slt.refillShort)
      ∧ (t.slt.refillShort ≠ s.slt.refillShort → t.flagSet .salt)
      ∧ t = { s with slt := t.slt, mgu := { s.mgu with changes := t.mgu.changes } })
  ∧ ∀ s : State, s.slt.refill.phase ≠ .settling ∨ s.slt.refill.timer ≠ some 0 → exec .settlingExpiry s = .next s

/-! ### The internal second -/

/-- INTERNAL_SECOND: the count of seconds wraps at 2^32; a valid calendar advances with it, an invalid one does not
(R174). With no enabled leak rule and no decay test, the seconds counters and timers advance by one and nothing else
goes on: both tanks' seconds, the elapsed seconds of a RUNNING step, the hold of a held run, the seconds of the enabled
stages, the timers of ACT and of the refill check, the idle seconds of the draw event and, while stale, the field-loss
timer (R65, R98, R109, R112, R127, R135, R142, R143, R153, R160). Events still due are taken first (assumption 1), a
timer of n seconds is due at the n-th of these commands (assumption 26), and the hold limit and the gap of a draw event
are reached at or above them (assumption 23). -/
def Obligations.TheInternalSecondAdvancesEveryCounter : Prop :=
  ∀ s : State, ∃ t, exec .internalSecond s = .next t
    ∧ let u := settle s
      let n := if u.mgu.secondOfDay + 1 = 86400 then 0 else u.mgu.secondOfDay + 1
      t.mgu.seconds = (u.mgu.seconds + 1) % 4294967296 ∧ t.mgu.timeValid = u.mgu.timeValid
      ∧ (u.mgu.timeValid = true → t.mgu.secondOfDay = n
          ∧ t.mgu.day = if u.mgu.secondOfDay + 1 = 86400 then (u.mgu.day + 1) % 65536 else u.mgu.day)
      ∧ (u.mgu.timeValid = false → t.mgu.secondOfDay = u.mgu.secondOfDay ∧ t.mgu.day = u.mgu.day)
      ∧ t.link = u.link ∧ t.lanes = u.lanes ∧ t.channels = u.channels ∧ t.trackers = u.trackers
      ∧ ((∀ i : Fin 16, u.lkg.rules[i].conf.enabled = false) → u.lkg.test.st = .idle →
          t.rgs.tankA = { u.rgs.tankA with seconds := min max32 (u.rgs.tankA.seconds + 1) }
          ∧ t.rgs.tankB = { u.rgs.tankB with seconds := min max32 (u.rgs.tankB.seconds + 1) }
          ∧ t.rgs.seq = u.rgs.seq ∧ t.flt.st = u.flt.st ∧ t.lkg.main = u.lkg.main ∧ t.drain = u.drain
          ∧ (u.rgs.seq = .running → t.rgs.run = { u.rgs.run with elapsed := min 65535 (u.rgs.run.elapsed + 1) })
          ∧ (u.rgs.seq = .held → t.rgs.run = { u.rgs.run with hold := min 65535 (u.rgs.run.hold + 1) }
              ∧ (u.acc.settings.holdLimit ≤ min 65535 (u.rgs.run.hold + 1) → t.rgs.holdDue = true))
          ∧ (u.rgs.seq ≠ .running → u.rgs.seq ≠ .held → t.rgs.run = u.rgs.run)
          ∧ (u.flt.st = .running → t.flt.run = { u.flt.run with elapsed := min 65535 (u.flt.run.elapsed + 1) })
          ∧ (u.flt.st = .held → t.flt.run = { u.flt.run with hold := min 65535 (u.flt.run.hold + 1) })
          ∧ (∀ i : Fin 4, t.flt.stages[i] = if u.flt.stages[i].conf.enabled then
              { u.flt.stages[i] with
                secRep := min max32 (u.flt.stages[i].secRep + 1), secBw := min max32 (u.flt.stages[i].secBw + 1) }
              else u.flt.stages[i])
          ∧ (∀ a : Actr, t.act a = { u.act a with run := { (u.act a).run with
              travel := (u.act a).run.travel.map (· - 1), pause := (u.act a).run.pause.map (· - 1)
              displace := (u.act a).run.displace.map (· - 1) } })
          ∧ t.slt = { u.slt with refill := { u.slt.refill with timer := u.slt.refill.timer.map (· - 1) } }
          ∧ (∀ e, u.lkg.event = some e → t.lkg.event = some { e with idle := min max32 (e.idle + 1) }
              ∧ (u.lkg.config.gap ≤ min max32 (e.idle + 1) → t.lkg.drawDue = true))
          ∧ (u.link.fieldFresh = false → t.lkg.lossTimer = min max32 (u.lkg.lossTimer + 1))
          ∧ (∀ h, u.mgu.timeValid = true → u.acc.settings.regenHour = some h →
              t.rgs.calendarDue = decide (n = h * 3600))
          ∧ (u.mgu.timeValid = true → t.lkg.calendarDue = decide (n = u.lkg.config.testHour * 3600)))

/-- At each internal second an enabled rate rule that is ARMED or TIMING inside its active hours is judged against the
net flow while FLOW is LOCKED: a condition that holds times one second more, one that does not re-arms the rule;
outside its active hours a rule that is not a tripped SHUT rule is DORMANT with its timer at 0 (R153, R155, R156).
Events still due are taken first (assumption 1), and the hour is read after the calendar's advance (assumption 31).

RULE_TIMER_TRIP: a TIMING rate rule whose timer has reached its duration trips: TRIPPED with the trip time and one trip
more, and LEAK raised; a SHUT rule sets a clear latch with itself as the cause, and the main is no longer OPEN (R151,
R156, R157). A limit is reached at or above it (assumption 23). Of a rule that is not TIMING the command changes
nothing (assumption 1). -/
def Obligations.RateRulesAreJudgedAndTrip : Prop :=
  (∀ (i : Fin 16) (s : State), ∃ t, exec .internalSecond s = .next t
    ∧ let u := settle s
      let x := u.lkg.rules[i]
      let q := u.estimate flow - u.drain.allowance
      let holds := x.conf.rateLo ≤ q ∧ (x.conf.kind = .trickle → q ≤ x.conf.rateHi)
      (x.conf.kind = .continuous ∨ x.conf.kind = .trickle) → x.conf.enabled = true →
        t.lkg.rules[i].conf = x.conf
        ∧ (insideHours x.conf t.hour = true → (x.st = .armed ∨ x.st = .timing) → u.trackers[flow].run.st = .locked →
            (holds → t.lkg.rules[i] = { x with st := .timing, timer := min 65535 (x.timer + 1) })
            ∧ (¬ holds → t.lkg.rules[i] = { x with st := .armed, timer := 0 }))
        ∧ (insideHours x.conf t.hour = true → (x.st = .armed ∨ x.st = .timing) → u.trackers[flow].run.st ≠ .locked →
            t.lkg.rules[i] = x)
        ∧ (insideHours x.conf t.hour = false → ¬ (x.st = .tripped ∧ x.conf.action = .shut) →
            t.lkg.rules[i] = { x with st := .dormant, timer := 0 }))
  ∧ ∀ (i : Fin 16) (s : State),
    let x := s.lkg.rules[i]
    let tripped := { x with st := .tripped, lastTrip := some s.mgu.seconds, trips := min 255 (x.trips + 1) }
    (x.conf.enabled = true → x.st = .timing → (x.conf.kind = .continuous ∨ x.conf.kind = .trickle) →
      x.conf.duration ≤ x.timer →
      (x.conf.action = .notify → exec (.ruleTimerTrip i) s = .next (raise .leak
          { s with lkg := { s.lkg with rules := s.lkg.rules.set i tripped } }))
      ∧ (x.conf.action = .shut → s.lkg.latch = none →
          ∃ t, exec (.ruleTimerTrip i) s = .next t ∧ t.lkg.rules[i] = tripped ∧ t.flagSet .leak
            ∧ t.lkg.latch = some { cause := .rule i, seconds := s.mgu.seconds } ∧ t.lkg.main ≠ .opened
            ∧ t.lkg.test.st = .idle
            ∧ (s.lkg.main = .opened → s.answer .main .mainClosed = .moving → t.lkg.main = .closing .leak
                ∧ t.main.run.target = some .mainClosed))
      ∧ (x.conf.action = .shut → s.lkg.latch ≠ none → exec (.ruleTimerTrip i) s = .next (raise .leak
          { s with lkg := { s.lkg with rules := s.lkg.rules.set i tripped } })))
    ∧ (x.st ≠ .timing → exec (.ruleTimerTrip i) s = .next s)

/-! ### Filter stages -/

/-- STAGE_DUE: an enabled stage whose volume or day limit is reached becomes DUE and raises FILTER (R137).
BACKWASH_DEMAND: the media stage's reached backwash volume, or else its backwash days, sets a clear demand with that
cause and raises FILTER (R140; the volume before the days is assumption 38). Each changes nothing else, and nothing
when its event is not due (assumption 1). A limit is reached at or above it (assumption 23). A result that updates FLOW
makes a pressure-drop evaluation for each stage whose conditions hold, with the trackers as they stand when FLOW has
taken it (the later trackers take theirs after, assumption 5): the persistence count grows, to 255, above the limit and
is 0 otherwise, and the evaluation that brings it to N makes a cartridge DUE and sets a clear demand of the media stage
by PRESSURE unless MEDIA_FOULED is set, whatever its volume (assumption 49); a stage with a condition failing is left
alone (R136). The watch after a backwash is judged at the media stage's first evaluation: MEDIA_FOULED becomes whether
it is above the limit, which makes the stage DUE, and the watch is disarmed (R142; the watch before the count is
assumption 14). A divisor of 0, which no run reaches, is assumption 33. -/
def Obligations.StagesBecomeDueAndABackwashIsDemanded : Prop :=
  (∀ (i : Fin 4) (s : State),
    let x := s.flt.stages[i]
    (x.conf.enabled = true → x.due = false →
      ((∃ l, x.conf.volumeLimit = some l ∧ l ≤ x.volRep) ∨ ∃ d, x.conf.dayLimit = some d ∧ d * 86400 ≤ x.secRep) →
      exec (.stageDue i) s = .next (raise .filter
        { s with flt := { s.flt with stages := s.flt.stages.set i { x with due := true } } }))
    ∧ (x.conf.enabled = false ∨ x.due = true → exec (.stageDue i) s = .next s))
  ∧ (∀ (i : Fin 4) (s : State),
    let x := s.flt.stages[i]
    x.conf.enabled = true → x.conf.kind = .media →
    (∀ j : Fin 4, j < i → ¬ (s.flt.stages[j].conf.enabled = true ∧ s.flt.stages[j].conf.kind = .media)) →
    s.flt.demand = none →
    (∀ l, x.conf.bwVolume = some l → l ≤ x.volBw →
      ∃ t, exec .backwashDemand s = .next t ∧ t.flt.demand = some .volume ∧ t.flagSet .filter
        ∧ t.flt.stages = s.flt.stages ∧ t.flt.st = s.flt.st ∧ t.flt.run = s.flt.run
        ∧ t = { s with flt := t.flt, mgu := { s.mgu with changes := t.mgu.changes } })
    ∧ (∀ d, (∀ l, x.conf.bwVolume = some l → x.volBw < l) → x.conf.bwDays = some d → d * 86400 ≤ x.secBw →
      ∃ t, exec .backwashDemand s = .next t ∧ t.flt.demand = some .days ∧ t.flagSet .filter
        ∧ t.flt.stages = s.flt.stages ∧ t.flt.st = s.flt.st ∧ t.flt.run = s.flt.run
        ∧ t = { s with flt := t.flt, mgu := { s.mgu with changes := t.mgu.changes } }))
  ∧ (∀ s : State, (s.flt.demand ≠ none ∨ ∀ j : Fin 4, s.flt.stages[j].conf.enabled = false) →
      exec .backwashDemand s = .next s)
  ∧ ∀ (ch : Fin 8) (timeout : Bool) (s : State) (i : Fin 4),
    let c := s.channels[ch]
    let x := s.flt.stages[i]
    c.run.cond = .opened →
    (timeout = true → c.conf.mode = .period ∧ 0 < c.conf.y ∧ c.conf.y ≤ c.run.s) →
    (timeout = false →
      (c.conf.x ≤ c.run.g ∧ (c.conf.mode = .edgeCount ∨ c.conf.mode = .countDelta ∨ c.conf.mode = .gatedCount
          ∨ c.conf.mode = .highTime))
        ∨ (c.conf.x ≤ c.run.k ∧ c.conf.mode = .valueMean)
        ∨ (c.conf.x ≤ c.run.n ∧ c.run.timing = true ∧ c.conf.mode = .period)) →
    s.trackers[flow].conf.enabled = true → s.trackers[flow].conf.source = ch.val →
    s.trackers[flow].run.st = .search ∨ s.trackers[flow].run.st = .locked →
    ∃ t, exec (if timeout then .periodTimeout ch else .channelResult ch) s = .next t
      ∧ let y := t.flt.stages[i]
        let q := t.estimate flow
        let made := fun u w : PressureId => x.conf.enabled = true ∧ x.conf.up = some u ∧ x.conf.down = some w
          ∧ t.trackers[flow].run.st = .locked ∧ x.conf.qMin ≤ q ∧ s.trackers[pressureTracker u].run.st = .locked
          ∧ s.trackers[pressureTracker w].run.st = .locked ∧ t.lkg.main = .opened
          ∧ t.filterRotor.run.st = .at .service
        (x.conf.dpLimit = none ∨ (∀ u w, ¬ made u w) → y.lastDp = x.lastDp ∧ y.dpCount = x.dpCount ∧ y.due = x.due)
        ∧ ∀ u w l, made u w → x.conf.dpLimit = some l →
          let dp := min 2000 ((s.estimate (pressureTracker u) - s.estimate (pressureTracker w)) * x.conf.qRef / q)
          let high := decide (l < dp)
          let reaches := high && decide (x.dpCount + 1 = x.conf.persistence)
          y.lastDp = some dp ∧ y.dpCount = (if high then min 255 (x.dpCount + 1) else 0)
          ∧ (y.due ≠ x.due → t.flagSet .filter)
          ∧ (x.conf.kind = .cartridge → y.due = (x.due || reaches))
          ∧ (x.conf.kind = .media →
              (∀ j : Fin 4, j ≠ i → ¬ (s.flt.stages[j].conf.enabled = true ∧ s.flt.stages[j].conf.kind = .media)) →
              y.due = (x.due || (s.flt.watch && high)) ∧ t.flt.watch = false
              ∧ t.flt.fouled = (if s.flt.watch then high else s.flt.fouled)
              ∧ t.flt.demand = (match s.flt.demand with
                | some d => some d
                | none => if reaches && !s.flt.watch && !s.flt.fouled then some .pressure else none)
              ∧ (t.flt.demand ≠ s.flt.demand ∨ t.flt.fouled ≠ s.flt.fouled → t.flagSet .filter))

/-! ### Leak guard -/

/-- An inlet increment grows the draw event by its net volume, the volume less that of the allowance in force: above 0
it starts an event when none is active and begins its gap afresh, at 0 it leaves the event alone (R153). An ARMED
EVENT_VOLUME rule is judged at the increment: it trips, with the time and one trip more and LEAK raised, when the event
has reached its volume, and a SHUT rule sets a clear latch and the main is no longer OPEN (R151, R157). DRAW_EVENT_END:
the draw event is recorded as the last ended one, and the tripped NOTIFY rules of kind EVENT_VOLUME are ARMED again
(R153, R157). That a net volume above 0 clears drawDue, so that an event already found due by its gap grows on, is the
model's choice (assumption 28). The mark drawDue, and a command without it that changes nothing, are assumption 1. -/
def Obligations.DrawEventsGrowAndEndAndTripTheirRules : Prop :=
  (∀ (ch : Fin 8) (s : State),
    let c := s.channels[ch]
    let dv := min 65535 ((s.acc.pulseCarry + c.run.acc * 100) / s.acc.settings.k)
    let net := dv - min dv (min 65535 ((s.acc.allowCarry + s.drain.allowance * c.run.e) / 30000))
    c.run.cond = .opened → c.conf.x ≤ c.run.g →
    (c.conf.mode = .edgeCount ∨ c.conf.mode = .countDelta ∨ c.conf.mode = .gatedCount) →
    s.acc.settings.inlet = some ch.val → 1 ≤ s.acc.settings.k → s.acc.settings.k ≤ 60000 →
    ∃ t, exec (.channelResult ch) s = .next t
      ∧ (net = 0 → t.lkg.event = s.lkg.event ∧ t.lkg.drawDue = s.lkg.drawDue)
      ∧ (0 < net → t.lkg.drawDue = false
          ∧ (s.lkg.event = none → t.lkg.event = some { start := s.mgu.seconds, volume := net, idle := 0 })
          ∧ ∀ e, s.lkg.event = some e → t.lkg.event = some { e with volume := min max40 (e.volume + net), idle := 0 })
      ∧ ∀ i : Fin 16,
          let x := s.lkg.rules[i]
          let trips := x.conf.enabled = true ∧ x.conf.kind = .eventVolume ∧ x.st = .armed
            ∧ ∃ e, t.lkg.event = some e ∧ x.conf.volume ≤ e.volume
          (trips → t.flagSet .leak
            ∧ t.lkg.rules[i] = { x with
                st := .tripped, lastTrip := some s.mgu.seconds, trips := min 255 (x.trips + 1) }
            ∧ (x.conf.action = .shut → t.lkg.latch.isSome
                ∧ (s.lkg.latch = none → t.lkg.main ≠ .opened ∧ t.lkg.main ≠ .opening)))
          ∧ (¬ trips → t.lkg.rules[i] = x))
  ∧ (∀ (e : DrawEvent) (s : State), s.lkg.drawDue = true → s.lkg.event = some e →
    exec .drawEventEnd s = .next { s with lkg := { s.lkg with
      event := none, drawDue := false
      lastEvent := some { start := e.start, volume := e.volume, ended := s.mgu.seconds }
      rules := Vector.ofFn fun i =>
        let x := s.lkg.rules[i]
        if x.conf.enabled = true ∧ x.conf.kind = .eventVolume ∧ x.conf.action = .notify ∧ x.st = .tripped then
          { x with st := .armed, timer := 0 } else x } })
  ∧ ∀ s : State, s.lkg.drawDue = false → exec .drawEventEnd s = .next s

/-- A moisture sample that the intake lane publishes in a good frame goes to the zone of the lowest-index enabled
window whose masked base is its masked address: the zone takes the three flags and the time and is no longer SILENT,
ZONE is raised at a change, and the other zones stay; an address that no window takes is kept as the last unknown one
with UNKNOWN_SENSOR and ZONE (R15, R158, R159). At the freshness notice every zone's last report is the present second
(R159). At the second a zone that is silent by R159 is marked for ZONE_SILENT, which makes it SILENT and raises ZONE,
and one that is not is no longer SILENT. At a sample, at ZONE_SILENT and at the second each MOISTURE and SILENCE rule
is judged: an ARMED one whose zone, or with ANY some zone, shows its condition trips, with the time, one trip more and
LEAK, a SHUT one leaving the latch set; a tripped NOTIFY one whose condition has cleared is ARMED again; any other
stays (R157). The mark silentDue, a command without it that changes nothing, and the events due taken before a frame or
a second are assumption 1; the freshness notice as no judgement of the rules is assumption 39. Of the second this is
said of rules inside their hours and not DORMANT. -/
def Obligations.ZonesAreReportedAndTheirRulesTrip : Prop :=
  let shows := fun (t : State) (c : LeakRule) => ∃ z : Fin 8, (c.zone = none ∨ c.zone = some z.val)
    ∧ (if c.kind = .moisture then t.lkg.zones[z].wet else t.lkg.zones[z].silent) = true
  let watches := fun x : Rule => x.conf.enabled = true ∧ (x.conf.kind = .moisture ∨ x.conf.kind = .silence)
  let judged := fun (x y : Rule) (t : State) =>
    (watches x → x.st = .armed → shows t x.conf → t.flagSet .leak
      ∧ y = { x with st := .tripped, lastTrip := some t.mgu.seconds, trips := min 255 (x.trips + 1) }
      ∧ (x.conf.action = .shut → t.lkg.latch.isSome))
    ∧ (watches x → x.st = .tripped → x.conf.action = .notify → ¬ shows t x.conf →
      y = { x with st := .armed, timer := 0 })
    ∧ (¬ watches x ∨ (x.st = .armed ∧ ¬ shows t x.conf)
        ∨ (x.st = .tripped ∧ (x.conf.action = .shut ∨ shows t x.conf)) ∨ x.st = .dormant ∨ x.st = .timing → y = x)
  let intake := fun d : LaneDesc => d.enabled = true ∧ d.kind = .value ∧ d.moisture = true
  (∀ (slots : Vector Byte 20) (s : State), ∃ t, exec (.goodFieldFrame slots) s = .next t
    ∧ let u := settle s
      let old := fun z : Fin 8 => if u.link.fieldFresh then u.lkg.zones[z]
        else { u.lkg.zones[z] with lastReport := u.mgu.seconds, silentDue := false }
      let untouched := (∀ z : Fin 8, t.lkg.zones[z] = old z) ∧ t.lkg.rules = u.lkg.rules
      ((∀ i : Fin 32, ¬ intake u.lanes[i].desc) → untouched ∧ t.lkg.unknownSensor = u.lkg.unknownSensor
        ∧ t.lkg.lastUnknown = u.lkg.lastUnknown)
      ∧ ∀ i : Fin 32, intake u.lanes[i].desc → (∀ j : Fin 32, j < i → ¬ intake u.lanes[j].desc) →
        ((laneOuts u.lanes slots)[i].sample = none → untouched ∧ t.lkg.unknownSensor = u.lkg.unknownSensor
          ∧ t.lkg.lastUnknown = u.lkg.lastUnknown)
        ∧ ∀ v, (laneOuts u.lanes slots)[i].sample = some v →
          let a := v / 256 % 256
          let takes := fun w : ZoneWindow => w.enabled = true ∧ a &&& w.mask = w.base &&& w.mask
          ((∀ j : Fin 8, ¬ takes u.lkg.windows[j]) → untouched ∧ t.lkg.unknownSensor = true
            ∧ t.lkg.lastUnknown = some a ∧ t.flagSet .zone)
          ∧ ∀ j z : Fin 8, takes u.lkg.windows[j] → (∀ k : Fin 8, k < j → ¬ takes u.lkg.windows[k]) →
            u.lkg.windows[j].zone = z.val →
            t.lkg.zones[z] = {
                wet := v.testBit 0, lowBattery := v.testBit 1, tamper := v.testBit 2, lastReport := u.mgu.seconds
                reported := true, silent := false, silentDue := false }
            ∧ (∀ z' : Fin 8, z' ≠ z → t.lkg.zones[z'] = old z')
            ∧ (t.lkg.zones[z].wet ≠ u.lkg.zones[z].wet ∨ t.lkg.zones[z].lowBattery ≠ u.lkg.zones[z].lowBattery
                ∨ t.lkg.zones[z].tamper ≠ u.lkg.zones[z].tamper ∨ u.lkg.zones[z].silent = true → t.flagSet .zone)
            ∧ t.lkg.unknownSensor = u.lkg.unknownSensor ∧ t.lkg.lastUnknown = u.lkg.lastUnknown
            ∧ ∀ r : Fin 16, judged u.lkg.rules[r] t.lkg.rules[r] t)
  ∧ (∀ s : State, ∃ t, exec .internalSecond s = .next t
    ∧ let u := settle s
      (∀ z : Fin 8,
        let x := u.lkg.zones[z]
        let silent := (∃ j : Fin 8, u.lkg.windows[j].enabled = true ∧ u.lkg.windows[j].zone = z.val)
          ∧ u.link.fieldFresh = true
          ∧ ∃ l, u.lkg.config.silence = some l ∧ l < (t.mgu.seconds + 4294967296 - x.lastReport) % 4294967296
        (silent → t.lkg.zones[z] = { x with silentDue := x.silentDue || !x.silent })
        ∧ (¬ silent → t.lkg.zones[z] = { x with silent := false, silentDue := false }
            ∧ (x.silent = true → t.flagSet .zone)))
      ∧ ∀ r : Fin 16, watches u.lkg.rules[r] → insideHours u.lkg.rules[r].conf t.hour = true →
          u.lkg.rules[r].st ≠ .dormant → judged u.lkg.rules[r] t.lkg.rules[r] t)
  ∧ (∀ (z : Fin 8) (s : State), s.lkg.zones[z].silentDue = true →
    ∃ t, exec (.zoneSilent z) s = .next t
      ∧ t.lkg.zones[z] = { s.lkg.zones[z] with silent := true, silentDue := false }
      ∧ (∀ j : Fin 8, j ≠ z → t.lkg.zones[j] = s.lkg.zones[j]) ∧ t.flagSet .zone
      ∧ ∀ r : Fin 16, judged s.lkg.rules[r] t.lkg.rules[r] t)
  ∧ ∀ (z : Fin 8) (s : State), s.lkg.zones[z].silentDue = false → exec (.zoneSilent z) s = .next s

/-- FIELD_LOST sets a clear latch with the cause FIELD_LOST, leaves the main not OPEN and offers the fault FIELD_LOST
with the time in its detail (R160, R173). LATCHED_CLOSE_RETRY asks MAIN toward CLOSED again while the latch is set and
the main valve state is FAULT or UNKNOWN: a move makes it CLOSING(LEAK), a completion CLOSED(LEAK), a refusal FAULT or,
of a disabled MAIN, UNKNOWN (R152, R179). The marks lostDue and retryDue, and a command without its mark that changes
nothing, are assumption 1. -/
def Obligations.FieldLossShutsAndALatchedCloseIsRetried : Prop :=
  (∀ s : State, s.lkg.lostDue = true →
    ∃ t, exec .fieldLost s = .next t ∧ t.lkg.lostDue = false ∧ t.lkg.lostDone = true ∧ t.mgu.fault.valid = true
      ∧ (s.lkg.latch = none → t.lkg.latch = some { cause := .fieldLost, seconds := s.mgu.seconds }
          ∧ t.lkg.main ≠ .opened ∧ t.flagSet .leak)
      ∧ (s.lkg.latch ≠ none → t.lkg.latch = s.lkg.latch ∧ t.lkg.main = s.lkg.main)
      ∧ (s.mgu.fault.valid = false → t.mgu.fault.kind = .fieldLost ∧ t.mgu.fault.source = 0
          ∧ t.mgu.fault.seconds = s.mgu.seconds
          ∧ t.mgu.fault.detail = #v[toByte (s.lkg.config.staleShut / 256), toByte s.lkg.config.staleShut, 0, 0]))
  ∧ (∀ s : State, s.lkg.lostDue = false → exec .fieldLost s = .next s)
  ∧ (∀ s : State, s.lkg.retryDue = true → s.lkg.latch ≠ none → (s.lkg.main = .fault ∨ s.lkg.main = .unknown) →
    ∃ t, exec .latchedCloseRetry s = .next t ∧ t.lkg.latch = s.lkg.latch ∧ t.lkg.retryDue = false
      ∧ (s.answer .main .mainClosed = .moving → t.lkg.main = .closing .leak ∧ t.main.run.target = some .mainClosed)
      ∧ (s.answer .main .mainClosed = .completed → t.lkg.main = .closed .leak)
      ∧ (s.answer .main .mainClosed = .faulted → t.lkg.main = .fault)
      ∧ (s.answer .main .mainClosed = .disabled → t.lkg.main = .unknown))
  ∧ ∀ s : State, s.lkg.retryDue = false → exec .latchedCloseRetry s = .next s

/-- TEST_CALENDAR_TRIGGER and START_LEAK_TEST start a decay test: WAITING with the window timer, a new result record,
TEST raised and the drain line requested; with the line not to be had TEST waits for it. The calendar's trigger is lost
with an invalid time, a disabled test, the latch set or a test in progress; the command is refused with LATCHED, then
BUSY (R74, R161). The mark calendarDue, and a trigger without it that changes nothing, are assumption 1; the samples
cleared at the start are assumption 24.

TEST_WINDOW_EXPIRY withdraws the request and ends the test SKIPPED (R161). TEST_SETTLE_EXPIRY enters MEASURE with the
estimate of P_HOUSE as p0 while it is LOCKED, and otherwise ends the test ABORTED_UNSTABLE and asks MAIN toward OPEN
(R162, R164; p0 in the record is assumption 24, the end seconds assumption 17). A command whose timer has not run out
changes nothing (assumption 1). -/
def Obligations.ADecayTestStartsAndItsTimersExpire : Prop :=
  let started := fun (trig : TestTrigger) (s t : State) =>
    t.lkg.test = { s.lkg.test with
      st := .waiting, timer := some s.lkg.config.testWindow, p0 := none, previous := none
      record := some { trigger := trig, startedAt := s.mgu.seconds, endedAt := none, p0 := none, p1 := none
                       decay := none, failCount := none, result := none } }
    ∧ t.drain = { s.drain with waitTest := true } ∧ t.flagSet .test ∧ t.lkg.main = s.lkg.main ∧ t.rgs = s.rgs
    ∧ t.flt = s.flt
  (∀ s : State,
    (s.lkg.calendarDue = true → s.mgu.timeValid = true → s.lkg.config.testEnabled = true → s.lkg.latch = none →
      s.lkg.test.st = .idle → s.drain.holder ≠ some .test → (s.drain.holder ≠ none ∨ s.lkg.main ≠ .opened) →
      ∃ t, exec .testCalendarTrigger s = .next t ∧ started .calendar s t ∧ t.lkg.calendarDue = false)
    ∧ (s.lkg.calendarDue = true → (s.mgu.timeValid = false ∨ s.lkg.config.testEnabled = false ∨ s.lkg.latch ≠ none
          ∨ s.lkg.test.st ≠ .idle) →
        exec .testCalendarTrigger s = .next { s with lkg := { s.lkg with calendarDue := false } })
    ∧ (s.lkg.calendarDue = false → exec .testCalendarTrigger s = .next s)
    ∧ (∀ tag, s.takesRequests → s.lkg.latch = none → s.lkg.test.st = .idle → s.drain.holder ≠ some .test →
        (s.drain.holder ≠ none ∨ s.lkg.main ≠ .opened) →
      ∃ t, exec (.startLeakTest tag) s = .next t ∧ started .command s t
        ∧ t.mgu.replies = s.mgu.replies ++ [{ tag := tag, body := [1] }])
    ∧ (∀ tag, s.takesRequests → s.lkg.latch ≠ none → exec (.startLeakTest tag) s = .next (pushReply tag [8] s))
    ∧ (∀ tag, s.takesRequests → s.lkg.latch = none → s.lkg.test.st ≠ .idle →
        exec (.startLeakTest tag) s = .next (pushReply tag [2] s)))
  ∧ ∀ s : State,
    (s.lkg.test.st = .waiting → s.lkg.test.timer = some 0 → s.drain.holder ≠ some .test →
      ∃ t, exec .testWindowExpiry s = .next t ∧ t.lkg.test.st = .idle ∧ t.lkg.test.timer = none
        ∧ t.lkg.test.record = s.lkg.test.record.map (fun r =>
            { r with endedAt := some s.mgu.seconds, result := some .skipped })
        ∧ t.drain = { s.drain with waitTest := false } ∧ t.flagSet .test ∧ t.lkg.main = s.lkg.main ∧ t.rgs = s.rgs)
    ∧ (s.lkg.test.st = .settle → s.lkg.test.timer = some 0 → s.trackers[pHouse].run.st = .locked →
      ∃ t, exec .testSettleExpiry s = .next t
        ∧ t.lkg.test = { s.lkg.test with
            st := .measure, timer := some s.lkg.config.measure, p0 := some (s.estimate pHouse)
            previous := some (s.estimate pHouse)
            record := s.lkg.test.record.map (fun r => { r with p0 := some (s.estimate pHouse) }) }
        ∧ t.flagSet .test ∧ t.lkg.main = s.lkg.main ∧ t.rgs = s.rgs ∧ t.drain = s.drain)
    ∧ (s.lkg.test.st = .settle → s.lkg.test.timer = some 0 → s.trackers[pHouse].run.st ≠ .locked →
        s.answer .main .mainOpen = .moving →
      ∃ t, exec .testSettleExpiry s = .next t ∧ t.lkg.test.st = .reopening ∧ t.lkg.test.timer = none
        ∧ t.lkg.test.record = s.lkg.test.record.map (fun r => { r with result := some .abortedUnstable })
        ∧ t.lkg.main = .opening ∧ t.main.run.target = some .mainOpen ∧ t.flagSet .test)
    ∧ ((s.lkg.test.st ≠ .waiting ∨ s.lkg.test.timer ≠ some 0) → exec .testWindowExpiry s = .next s)
    ∧ ((s.lkg.test.st ≠ .settle ∨ s.lkg.test.timer ≠ some 0) → exec .testSettleExpiry s = .next s)

/-- The endings of a decay test other than its result, the owner's and P_HOUSE's (R164). A latch set by a rule or field
loss ends it ABORTED_LEAK: in WAITING with the request withdrawn, in CLOSING, SETTLE and MEASURE with the line released
and the main's close taken over for LEAK, in REOPENING with its result kept and MAIN turned back toward CLOSED.
Staleness ends it ABORTED_STALE: in WAITING withdrawn, in CLOSING, SETTLE and MEASURE by a reopening, and leaves
REOPENING alone. A fault or a displacement of MAIN ends it ABORTED_VALVE, in REOPENING with its result kept, the line
released and the main valve state as R148 has it. MAIN's arrival at CLOSED takes CLOSING to SETTLE (R162); its arrival
at OPEN in REOPENING makes the main OPEN, releases the line and makes the test IDLE with its end seconds, and a waiting
regeneration is granted at once (R163; the end seconds are assumption 17). Of a displacement and the arrival at OPEN
this is said with no run held, and with nobody else waiting for the line. The marks of the events are assumption 1. -/
def Obligations.ADecayTestEndsEarlyOrReopens : Prop :=
  let ended := fun (s : State) (r : Option TestResult) => { s.lkg.test with
    st := .idle, timer := none
    record := s.lkg.test.record.map fun x =>
      { x with endedAt := some s.mgu.seconds, result := if r.isSome then r else x.result } }
  let freed := fun s : State => { s.drain with holder := none, allowance := 0, kind := none }
  let closes := fun s : State => s.lkg.test.st = .closing ∨ s.lkg.test.st = .settle ∨ s.lkg.test.st = .measure
  (∀ (c : Instr) (s : State), s.lkg.latch = none →
    (c = .fieldLost ∧ s.lkg.lostDue = true)
      ∨ (∃ i : Fin 16, c = .ruleTimerTrip i ∧ s.lkg.rules[i].conf.enabled = true ∧ s.lkg.rules[i].st = .timing
          ∧ (s.lkg.rules[i].conf.kind = .continuous ∨ s.lkg.rules[i].conf.kind = .trickle)
          ∧ s.lkg.rules[i].conf.duration ≤ s.lkg.rules[i].timer ∧ s.lkg.rules[i].conf.action = .shut) →
    ∃ t, exec c s = .next t ∧ t.lkg.latch.isSome
      ∧ (s.lkg.test.st = .idle → t.lkg.test = s.lkg.test)
      ∧ (s.lkg.test.st = .waiting → s.drain.holder ≠ some .test →
          t.lkg.test = ended s (some .abortedLeak) ∧ t.flagSet .test ∧ t.drain.waitTest = false
          ∧ t.drain.holder = s.drain.holder)
      ∧ (closes s → s.drain.holder = some .test → s.lkg.main = .closing .test ∨ s.lkg.main = .closed .test →
          t.lkg.test = ended s (some .abortedLeak) ∧ t.flagSet .test ∧ t.drain = freed s ∧ t.main = s.main
          ∧ (s.lkg.main = .closing .test → t.lkg.main = .closing .leak)
          ∧ (s.lkg.main = .closed .test → t.lkg.main = .closed .leak))
      ∧ (s.lkg.test.st = .reopening → s.drain.holder = some .test → s.lkg.main = .opening →
          s.answer .main .mainClosed = .moving →
          t.lkg.test = ended s none ∧ t.flagSet .test ∧ t.drain = freed s ∧ t.lkg.main = .closing .leak
          ∧ t.main.run.target = some .mainClosed))
  ∧ (∀ s : State, s.link.fieldFresh = true → 250 ≤ s.link.fieldMissing →
    ∃ t, exec .fieldLinkStale s = .next t
      ∧ (s.lkg.test.st = .waiting → s.drain.holder ≠ some .test →
          t.lkg.test = ended s (some .abortedStale) ∧ t.flagSet .test ∧ t.drain.waitTest = false
          ∧ t.drain.holder = s.drain.holder ∧ t.lkg.main = s.lkg.main)
      ∧ (closes s → s.answer .main .mainOpen = .moving →
          t.lkg.test = { s.lkg.test with
            st := .reopening, timer := none
            record := s.lkg.test.record.map fun x => { x with result := some .abortedStale } }
          ∧ t.flagSet .test ∧ t.lkg.main = .opening ∧ t.main.run.target = some .mainOpen
          ∧ t.drain.holder = s.drain.holder)
      ∧ (s.lkg.test.st = .idle ∨ s.lkg.test.st = .reopening →
          t.lkg.test = s.lkg.test ∧ t.lkg.main = s.lkg.main ∧ t.drain.holder = s.drain.holder))
  ∧ (∀ (c : Instr) (s : State), closes s ∨ s.lkg.test.st = .reopening → s.drain.holder = some .test →
    let r := if s.lkg.test.st = .reopening then none else some TestResult.abortedValve
    ((c = .travelTimeout .main ∧ ∃ p n, s.main.run.st = .moving p n ∧ s.main.run.travel = some 0
          ∧ s.main.conf.retry < n)
        ∨ (c = .stall .main ∧ ∃ p n, s.main.run.st = .moving p n ∧ s.main.run.stallSeen = true
          ∧ s.main.run.recognised ≠ some p) →
      ∃ t, exec c s = .next t ∧ t.lkg.test = ended s r ∧ t.flagSet .test ∧ t.drain = freed s ∧ t.lkg.main = .fault)
    ∧ (c = .displacement .main → (∃ p, s.main.run.st = .at p) → s.main.run.displace = some 0 → s.lkg.latch = none →
        s.noneWaits → s.rgs.seq ≠ .held → s.flt.st ≠ .held →
      ∃ t, exec c s = .next t ∧ t.lkg.test = ended s r ∧ t.flagSet .test ∧ t.drain = freed s
        ∧ (s.main.run.recognised = none → t.lkg.main = .unknown)
        ∧ (s.main.run.recognised = some .mainClosed → t.lkg.main = .closed .manual)
        ∧ (s.main.run.recognised = some .mainOpen → t.lkg.main = .opened)))
  ∧ (∀ s : State, s.main.run.target = some .mainClosed → s.main.run.recognised = some .mainClosed →
    s.lkg.main = .closing .test → s.lkg.test.st = .closing →
    ∃ t, exec (.arrival .main) s = .next t ∧ t.lkg.main = .closed .test ∧ t.flagSet .main ∧ t.flagSet .test
      ∧ t.lkg.test = { s.lkg.test with st := .settle, timer := some s.lkg.config.settle } ∧ t.drain = s.drain)
  ∧ ∀ s : State, s.main.run.target = some .mainOpen → s.main.run.recognised = some .mainOpen →
    s.lkg.main = .opening → s.lkg.test.st = .reopening → s.drain.holder = some .test → s.rgs.seq ≠ .held →
    s.flt.st ≠ .held →
    ∃ t, exec (.arrival .main) s = .next t
      ∧ (s.noneWaits → t.lkg.main = .opened ∧ t.flagSet .main ∧ t.flagSet .test ∧ t.lkg.test = ended s none
          ∧ t.drain = freed s ∧ t.rgs = s.rgs ∧ t.flt = s.flt)
      ∧ (∀ i : Fin 8, s.drain.waitRegen = true → s.rgs.seq = .queued → s.link.fieldFresh = true →
          s.rgs.program[i].enabled = true → (∀ j : Fin 8, j < i → s.rgs.program[j].enabled = false) →
          s.answer .regenRotor (regenPos s.rgs.program[i].pos) = .moving →
          t.lkg.main = .opened ∧ t.lkg.test = ended s none ∧ t.drain.holder = some .regen ∧ t.rgs.seq = .positioning)

/-- At each internal second in MEASURE P_HOUSE is read: not LOCKED ends the test ABORTED_UNSTABLE and a fall from the
second before of more than the demand ABORTED_DEMAND, each asking MAIN toward OPEN, and otherwise the estimate becomes
the previous-second sample; in the last second the check comes before the expiry or not at all, as a free choice says
(assumption 3), and the timer then stands expired (R162, R164; the record's end seconds are assumption 17, and the
events due taken first assumption 1). Said with no enabled MOISTURE or SILENCE rule, whose trip would end the test
first. TEST_MEASURE_EXPIRY decides the test while P_HOUSE is LOCKED: the decay is p0 less the estimate, 0 at least; a
decay above the threshold is a FAIL and counts, any other a PASS that clears the count; a FAIL whose count has reached
the fails-to-shut number sets the latch, closes the main by it and ends the test, and otherwise MAIN is asked toward
OPEN (R163). The record takes p1, the decay, the fail count and the result (R163). -/
def Obligations.AMeasuringTestIsCheckedAndDecided : Prop :=
  (∀ (p : Nat) (s : State),
    let u := settle s
    let k := u.lkg.test
    let left := k.timer.map (· - 1)
    let e := u.estimate pHouse
    let locked := u.trackers[pHouse].run.st = .locked
    let checked := left ≠ some 0 ∨ Config.checkBeforeExpiry u.choices = true
    k.st = .measure → k.previous = some p →
    (∀ i : Fin 16, u.lkg.rules[i].conf.enabled = true →
      u.lkg.rules[i].conf.kind ≠ .moisture ∧ u.lkg.rules[i].conf.kind ≠ .silence) →
    ∃ t, exec .internalSecond s = .next t
      ∧ (left ≠ some 0 → t.choices = u.choices) ∧ (left = some 0 → t.choices = u.choices + 1)
      ∧ (¬ checked → t.lkg.test = { k with timer := some 0 } ∧ t.lkg.main = u.lkg.main ∧ t.drain = u.drain)
      ∧ (checked → locked → p - e ≤ u.lkg.config.demand →
          t.lkg.test = { k with timer := left, previous := some e } ∧ t.lkg.main = u.lkg.main ∧ t.drain = u.drain)
      ∧ (∀ r : TestResult, checked → (¬ locked ∧ r = .abortedUnstable)
            ∨ (locked ∧ u.lkg.config.demand < p - e ∧ r = .abortedDemand) → u.answer .main .mainOpen = .moving →
          t.lkg.test = { k with
            st := .reopening, timer := none, record := k.record.map fun x => { x with result := some r } }
          ∧ t.lkg.main = .opening ∧ t.main.run.target = some .mainOpen ∧ t.flagSet .test))
  ∧ ∀ (r : TestRecord) (p : Nat) (s : State),
      let p1 := s.estimate pHouse
      let fails := min 255 (s.lkg.test.failCount + 1)
      s.lkg.test.st = .measure → s.lkg.test.timer = some 0 → s.trackers[pHouse].run.st = .locked →
      s.lkg.test.record = some r → s.lkg.test.p0 = some p → s.lkg.latch = none →
      (p - p1 ≤ s.lkg.config.decay → s.answer .main .mainOpen = .moving →
        ∃ t, exec .testMeasureExpiry s = .next t ∧ t.lkg.test.st = .reopening ∧ t.lkg.test.failCount = 0
          ∧ t.lkg.test.record = some { r with p1 := some p1, decay := some (p - p1), failCount := some 0, result := some .pass }
          ∧ t.lkg.main = .opening ∧ t.main.run.target = some .mainOpen ∧ t.lkg.latch = none ∧ t.flagSet .test)
      ∧ (s.lkg.config.decay < p - p1 → (s.lkg.config.failToShut = 0 ∨ fails < s.lkg.config.failToShut) →
          s.answer .main .mainOpen = .moving →
        ∃ t, exec .testMeasureExpiry s = .next t ∧ t.lkg.test.st = .reopening ∧ t.lkg.test.failCount = fails
          ∧ t.lkg.test.record = some { r with
              p1 := some p1, decay := some (p - p1), failCount := some fails, result := some .fail }
          ∧ t.lkg.main = .opening ∧ t.main.run.target = some .mainOpen ∧ t.lkg.latch = none ∧ t.flagSet .test)
      ∧ (s.lkg.config.decay < p - p1 → s.lkg.config.failToShut ≠ 0 → s.lkg.config.failToShut ≤ fails →
          s.lkg.main = .closed .test →
        ∃ t, exec .testMeasureExpiry s = .next t ∧ t.lkg.test.st = .idle ∧ t.lkg.test.failCount = fails
          ∧ t.lkg.test.record = some { r with
              p1 := some p1, decay := some (p - p1), failCount := some fails, result := some .fail
              endedAt := some s.mgu.seconds }
          ∧ t.lkg.latch = some { cause := .testFail, seconds := s.mgu.seconds } ∧ t.lkg.main = .closed .leak
          ∧ t.flagSet .leak ∧ t.flagSet .test)

/-- The events of ACT, DRA, RGS, SLT, FLT and LKG leave alone the link, the lanes, the channels, the presets, the
trackers, the totals and settings of the account, every program, record and window of a table, the replies and the
times: whatever they change lies outside what is apart. TRAVEL_TIMEOUT, STALL and DISPLACEMENT, which may end in a
fault (R69), leave the same alone but for the last fault of their own actuator. -/
def Obligations.MachineEventsLeaveTheTablesAndTheLinkAlone : Prop :=
  (∀ (c : Instr) (s : State),
      (∃ a, c = .arrival a ∨ c = .adoption a ∨ c = .pauseExpiry a) ∨ c = .drainGrant ∨ c = .calendarRegenTrigger
        ∨ c = .regenStepEnd ∨ c = .settlingExpiry ∨ c = .regenHoldLimit ∨ (∃ i, c = .stageDue i) ∨ c = .backwashDemand
        ∨ c = .backwashQueue ∨ c = .backwashStepEnd ∨ c = .backwashHoldLimit ∨ (∃ i, c = .ruleTimerTrip i)
        ∨ c = .drawEventEnd ∨ (∃ z, c = .zoneSilent z) ∨ c = .fieldLost ∨ c = .latchedCloseRetry
        ∨ c = .testCalendarTrigger ∨ c = .testWindowExpiry ∨ c = .testSettleExpiry ∨ c = .testMeasureExpiry →
      ∃ t, exec c s = .next t ∧ t.apart = s.apart)
  ∧ ∀ (a : Actr) (c : Instr) (s : State), c = .travelTimeout a ∨ c = .stall a ∨ c = .displacement a →
    ∃ t, exec c s = .next t ∧ t.apartFaults = s.apartFaults
      ∧ ∀ b, b ≠ a → (t.act b).run.lastFault = (s.act b).run.lastFault

/-! ### Requests -/

/-- A request is discarded while a restart is pending, discarded with BACKLOG raised when the reply queue holds 4
replies, and otherwise executed, its reply joining the queue under its tag as the newest entry (R167, checks 4, 5 and
7). A read, a write or a command other than OPEN_MAIN and CLOSE_MAIN that is answered with a status other than OK and
ACCEPTED changes nothing but the reply queue, and its reply is that status alone (R8, R21, R40, R57, R80, R120, R134,
R177). The command stands for the closing of its message (assumption 34). -/
def Obligations.ARequestIsAcceptedOrRefused : Prop :=
  (∀ (c : Instr) (tag : Byte) (h : Handler) (s : State), handlerOf c = some (tag, h) →
      (s.mgu.restartPending = true → exec c s = .next s)
      ∧ (s.mgu.restartPending = false → 4 ≤ s.mgu.replies.length → exec c s = .next (raise .backlog s))
      ∧ (s.takesRequests → exec c s = .next { (h s).1 with mgu := { (h s).1.mgu with
          replies := (h s).1.mgu.replies ++ [{ tag := tag, body := (h s).2 }] } }))
  ∧ ∀ (c : Instr) (tag b : Byte) (rest : List Byte) (h : Handler) (s : State), handlerOf c = some (tag, h) →
      c ≠ .openMain tag → c ≠ .closeMain tag → s.takesRequests → (h s).2 = b :: rest → b ≠ 0 → b ≠ 1 →
      exec c s = .next (pushReply tag [b] s)

/-- READ_ENTRY answers the contents of the entry and changes nothing; a table above 19 is BAD_TABLE and an index above
the table's BAD_INDEX (R169). READ_RESULT answers the channel's report; with acknowledge it then clears READY, OVERRUN,
TIMEOUT and GLITCH; a channel above 7 is BAD_INDEX and then a mode above 1 RANGE (R38, R170). READ_STATE in its six
rows answers a part of the run of items with its number and the number of parts; an acknowledging read then clears a
lane's MISALIGN, a tracker's STEP and RANGE, an actuator's last fault, CLAMP of the account or UNKNOWN_SENSOR of the
leak guard, and nothing for another object; in each row its refusals come in the order of R170: an object above 13, an
index outside the object's, a mode above 1, a part at or above the number of parts (R14, R54, R71, R96, R165, R170).
The bytes of the items are assumption 10, two of their codes 50 and 51. -/
def Obligations.ReadsAnswerAndAcknowledge : Prop :=
  let part := fun (s : State) (o i p : Nat) =>
    ((0 : Byte) :: toByte p :: toByte (partCount (stateBytes s o i)) :: partBytes (stateBytes s o i) p)
  let refused := fun (tag : Byte) (s : State) (row : Nat → Nat → Nat → Instr) (o top : Nat) =>
    (∀ i p mode, top < i → exec (row i p mode) s = .next (pushReply tag [4] s))
    ∧ (∀ i p mode, i ≤ top → 1 < mode → exec (row i p mode) s = .next (pushReply tag [5] s))
    ∧ (∀ i p mode, i ≤ top → mode ≤ 1 → partCount (stateBytes s o i) ≤ p →
        exec (row i p mode) s = .next (pushReply tag [4] s))
  ∀ (tag : Byte) (s : State), s.takesRequests →
    (∀ table i, table ≤ 19 → i ≤ tableTop table →
        exec (.readEntry tag table i) s = .next (pushReply tag (0 :: entryBytes s table i) s))
    ∧ (∀ i : Fin 4, exec (.readEntry tag 5 i.val) s = .next (pushReply tag [0, toByte s.presets[i]] s))
    ∧ (∀ table i, 19 < table → exec (.readEntry tag table i) s = .next (pushReply tag [3] s))
    ∧ (∀ table i, table ≤ 19 → tableTop table < i → exec (.readEntry tag table i) s = .next (pushReply tag [4] s))
    ∧ (∀ ch : Fin 8, exec (.readResult tag ch.val 0) s = .next (pushReply tag (0 :: resultBytes s.channels[ch]) s))
    ∧ (∀ ch : Fin 8, exec (.readResult tag ch.val 1) s = .next (pushReply tag (0 :: resultBytes s.channels[ch])
        { s with channels := s.channels.set ch { s.channels[ch] with run := { s.channels[ch].run with
          ready := false, overrun := false, timeout := false, glitch := false } } }))
    ∧ (∀ ch mode, 7 < ch → exec (.readResult tag ch mode) s = .next (pushReply tag [4] s))
    ∧ (∀ ch mode, ch ≤ 7 → 1 < mode → exec (.readResult tag ch mode) s = .next (pushReply tag [5] s))
    ∧ (∀ o i p, o ≤ 13 → i ≤ objectTop o → p < partCount (stateBytes s o i) →
        exec (.readState tag o i p 0) s = .next (pushReply tag (part s o i p) s)
        ∧ ((o = 4 ∨ o = 5 ∨ o = 6 ∨ o = 7 ∨ 9 ≤ o) →
            exec (.readState tag o i p 1) s = .next (pushReply tag (part s o i p) s)))
    ∧ (∀ o i p mode, 13 < o → exec (.readState tag o i p mode) s = .next (pushReply tag [3] s))
    ∧ (∀ o, o ≤ 13 → refused tag s (.readState tag o) o (objectTop o))
    ∧ refused tag s (.readStateLane tag) 0 31 ∧ refused tag s (.readStateTracker tag) 1 6
    ∧ refused tag s (.readStateActuator tag) 2 3 ∧ refused tag s (.readStateTank tag) 3 1
    ∧ refused tag s (.readStateLeakGuard tag) 8 0
    ∧ (∀ (i : Fin 32) p, p < partCount (stateBytes s 0 i.val) →
        exec (.readStateLane tag i.val p 0) s = .next (pushReply tag (part s 0 i.val p) s)
        ∧ exec (.readStateLane tag i.val p 1) s = .next (pushReply tag (part s 0 i.val p)
            { s with lanes := s.lanes.set i { s.lanes[i] with run := { s.lanes[i].run with misalign := false } } }))
    ∧ (∀ (i : Fin 7) p, p < partCount (stateBytes s 1 i.val) →
        exec (.readStateTracker tag i.val p 0) s = .next (pushReply tag (part s 1 i.val p) s)
        ∧ exec (.readStateTracker tag i.val p 1) s = .next (pushReply tag (part s 1 i.val p)
            { s with trackers := s.trackers.set i { s.trackers[i] with
              run := { s.trackers[i].run with step := false, range := false } } }))
    ∧ (∀ (a : Actr) p, p < partCount (stateBytes s 2 a.index) →
        exec (.readStateActuator tag a.index p 0) s = .next (pushReply tag (part s 2 a.index p) s)
        ∧ exec (.readStateActuator tag a.index p 1) s = .next (pushReply tag (part s 2 a.index p)
            (setAct a { s.act a with run := { (s.act a).run with lastFault := none } } s)))
    ∧ (∀ (x : TankId) p, p < partCount (stateBytes s 3 x.index) →
        exec (.readStateTank tag x.index p 0) s = .next (pushReply tag (part s 3 x.index p) s)
        ∧ exec (.readStateTank tag x.index p 1) s = .next (pushReply tag (part s 3 x.index p)
            { s with acc := { s.acc with clamp := false } }))
    ∧ (∀ p, p < partCount (stateBytes s 8 0) →
        exec (.readStateLeakGuard tag 0 p 0) s = .next (pushReply tag (part s 8 0 p) s)
        ∧ exec (.readStateLeakGuard tag 0 p 1) s = .next (pushReply tag (part s 8 0 p)
            { s with lkg := { s.lkg with unknownSensor := false } }))

/-- What an accepted write of a table has stored, a following READ_ENTRY of the entry answers byte for byte, whatever
the entry held before. Said of every table but LANE, TANK, STAGE and ACTUATOR, whose stored records differ from what
was written (R169). -/
def Obligations.AnAcceptedWriteIsReadBack : Prop :=
  ∀ (c : Instr) (tag tag' table i : Byte) (contents : List Byte) (s t : State),
    c.readsBack = true → c.wellFormed = true → encodeRequest c = some (2 :: tag :: table :: i :: contents) →
    s.takesRequests → exec c s = .next t → t.mgu.replies = s.mgu.replies ++ [{ tag := tag, body := [0] }] →
    t.takesRequests →
    exec (.readEntry tag' table.toNat i.toNat) t = .next (pushReply tag' (0 :: contents) t)

/-! ### Table writes -/

/-- WRITE_ENTRY to a table with no behaviour of its own: accepted, it replaces the entry, is answered OK and changes
nothing else; contents out of range are RANGE, an index above the table's BAD_INDEX, a VOLUME end at a position other
than BRINE_DRAW and REFILL CONFLICT; a table above 19 is BAD_TABLE and contents of the wrong length MALFORMED (R16,
R18, R104, R139, R158, R160, R169). That contents with a value of no type are RANGE is assumption 9. -/
def Obligations.PlainTablesAreWritten : Prop :=
  ∀ (tag : Byte) (s : State), s.takesRequests →
    (∀ (i : Fin 6) (b : Byte), exec (.writeEntry tag i.val (.reportConst b)) s = .next (pushReply tag [0]
      { s with link := { s.link with reportConst := s.link.reportConst.set i b } }))
    ∧ (∀ (i : Fin 6) (b : Byte), exec (.writeEntry tag i.val (.driveMask b)) s = .next (pushReply tag [0]
      { s with link := { s.link with driveMask := s.link.driveMask.set i b } }))
    ∧ (∀ i (b : Byte), 5 < i → exec (.writeEntry tag i (.reportConst b)) s = .next (pushReply tag [4] s)
        ∧ exec (.writeEntry tag i (.driveMask b)) s = .next (pushReply tag [4] s))
    ∧ (∀ (i : Fin 8) (x : RegenStep),
        let inRange := (1 ≤ x.duration ∧ x.duration ≤ 7200) ∧ (1 ≤ x.volume ∧ x.volume ≤ 65535)
          ∧ (1 ≤ x.timeout ∧ x.timeout ≤ 7200) ∧ x.allowance ≤ 6000
        let placed := x.endKind = .volume → x.pos = .brineDraw ∨ x.pos = .refill
        (inRange → placed → exec (.writeEntry tag i.val (.regenStep (some x))) s = .next (pushReply tag [0]
          { s with rgs := { s.rgs with program := s.rgs.program.set i x } }))
        ∧ (¬ inRange → exec (.writeEntry tag i.val (.regenStep (some x))) s = .next (pushReply tag [5] s))
        ∧ (inRange → ¬ placed → exec (.writeEntry tag i.val (.regenStep (some x))) s = .next (pushReply tag [6] s)))
    ∧ (∀ i x, 7 < i → exec (.writeEntry tag i (.regenStep x)) s = .next (pushReply tag [4] s))
    ∧ (∀ (i : Fin 4) (x : BackwashStep),
        let inRange := 1 ≤ x.duration ∧ x.duration ≤ 7200 ∧ x.allowance ≤ 6000
        (inRange → exec (.writeEntry tag i.val (.backwashStep (some x))) s = .next (pushReply tag [0]
          { s with flt := { s.flt with program := s.flt.program.set i x } }))
        ∧ (¬ inRange → exec (.writeEntry tag i.val (.backwashStep (some x))) s = .next (pushReply tag [5] s)))
    ∧ (∀ i x, 3 < i → exec (.writeEntry tag i (.backwashStep x)) s = .next (pushReply tag [4] s))
    ∧ (∀ (i : Fin 8) (x : ZoneWindow),
        let inRange := x.base ≤ 255 ∧ x.mask ≤ 255 ∧ x.zone ≤ 7
        (inRange → exec (.writeEntry tag i.val (.zoneWindow (some x))) s = .next (pushReply tag [0]
          { s with lkg := { s.lkg with windows := s.lkg.windows.set i x } }))
        ∧ (¬ inRange → exec (.writeEntry tag i.val (.zoneWindow (some x))) s = .next (pushReply tag [5] s)))
    ∧ (∀ i x, 7 < i → exec (.writeEntry tag i (.zoneWindow x)) s = .next (pushReply tag [4] s))
    ∧ (∀ x : LeakConfig,
        let inRange := (1 ≤ x.gap ∧ x.gap ≤ 600) ∧ x.staleShut ≤ 3600
          ∧ (∀ n, x.silence = some n → 60 ≤ n ∧ n ≤ 604800) ∧ x.testHour ≤ 23
          ∧ (60 ≤ x.testWindow ∧ x.testWindow ≤ 7200) ∧ (10 ≤ x.settle ∧ x.settle ≤ 3600)
          ∧ (10 ≤ x.measure ∧ x.measure ≤ 3600) ∧ (1 ≤ x.demand ∧ x.demand ≤ 2000) ∧ x.decay ≤ 2000 ∧ x.failToShut ≤ 7
        (inRange → exec (.writeEntry tag 0 (.leakConfig (some x))) s = .next (pushReply tag [0]
          { s with lkg := { s.lkg with config := x } }))
        ∧ (¬ inRange → exec (.writeEntry tag 0 (.leakConfig (some x))) s = .next (pushReply tag [5] s)))
    ∧ (∀ i x, 0 < i → exec (.writeEntry tag i (.leakConfig x)) s = .next (pushReply tag [4] s))
    ∧ (∀ i n, exec (.writeEntry tag i (.unusable n)) s = .next (pushReply tag [if 19 < n then 3 else 9] s))
    ∧ (∀ i : Fin 8, exec (.writeEntry tag i.val (.regenStep none)) s = .next (pushReply tag [5] s)
        ∧ exec (.writeEntry tag i.val (.zoneWindow none)) s = .next (pushReply tag [5] s))

/-- WRITE_ENTRY of a report field, a preset, a curve and a leak rule: accepted, it replaces the entry and is answered
OK; a leak rule's run state is set back, ARMED when enabled inside its active hours and DORMANT outside them, the
model's ARMED for a disabled rule being assumption 8; out of range it is RANGE, and bits that meet those of another
enabled descriptor or TRICKLE bounds the wrong way round are CONFLICT (R16, R23, R86, R154). -/
def Obligations.FieldsPresetsCurvesAndRulesAreWritten : Prop :=
  ∀ (tag : Byte) (s : State), s.takesRequests →
    (∀ (i : Fin 24) (f : ReportField),
      let inRange := f.slot ≤ 5 ∧ f.start ≤ 7 ∧ (1 ≤ f.width ∧ f.width ≤ 8) ∧ f.start + f.width ≤ 8
      let apart := f.enabled = true → ∀ j : Fin 24, j ≠ i → s.link.reportFields[j].enabled = true →
        s.link.reportFields[j].slot = f.slot →
        s.link.reportFields[j].start + s.link.reportFields[j].width ≤ f.start
          ∨ f.start + f.width ≤ s.link.reportFields[j].start
      (inRange → apart → exec (.writeEntryReportField tag i.val (some f)) s = .next (pushReply tag [0]
        { s with link := { s.link with reportFields := s.link.reportFields.set i f } }))
      ∧ (¬ inRange → exec (.writeEntryReportField tag i.val (some f)) s = .next (pushReply tag [5] s))
      ∧ (inRange → ¬ apart → exec (.writeEntryReportField tag i.val (some f)) s = .next (pushReply tag [6] s)))
    ∧ (∀ i f, 23 < i → exec (.writeEntryReportField tag i f) s = .next (pushReply tag [4] s))
    ∧ (∀ (i : Fin 4) r, (1 ≤ r ∧ r ≤ 15 → exec (.writeEntryPreset tag i.val r) s = .next (pushReply tag [0]
          { s with presets := s.presets.set i r }))
        ∧ (¬ (1 ≤ r ∧ r ≤ 15) → exec (.writeEntryPreset tag i.val r) s = .next (pushReply tag [5] s)))
    ∧ (∀ i r, 3 < i → exec (.writeEntryPreset tag i r) s = .next (pushReply tag [4] s))
    ∧ (∀ (id : CurveId) (pts : List (Nat × Nat)),
        let good := pts.length ≠ 1 ∧ pts.length ≤ 8
          ∧ (∀ p ∈ pts, p.1 ≤ (match id with | .efficiency => 1000 | _ => 4000)
              ∧ p.2 ≤ (match id with | .hardness => 2000 | .brine => 400 | .efficiency => 1024))
          ∧ pts.Pairwise fun p q => p.1 < q.1 ∧ p.2 ≤ q.2
        (good → ∃ t, exec (.writeEntryCurve tag id 0 pts) s = .next t ∧ t.curve id = pts
          ∧ (∀ id', id' ≠ id → t.curve id' = s.curve id') ∧ t.mgu.replies = s.mgu.replies ++ [{ tag := tag, body := [0] }]
          ∧ t = { s with
              acc := { s.acc with
                hardnessCurve := t.acc.hardnessCurve, brineCurve := t.acc.brineCurve
                efficiencyCurve := t.acc.efficiencyCurve }
              mgu := { s.mgu with replies := t.mgu.replies } })
        ∧ (¬ good → exec (.writeEntryCurve tag id 0 pts) s = .next (pushReply tag [5] s))
        ∧ (∀ i, 0 < i → exec (.writeEntryCurve tag id i pts) s = .next (pushReply tag [4] s)))
    ∧ (∀ (i : Fin 16) (c : LeakRule),
        let inRange := c.rateLo ≤ 6000 ∧ c.rateHi ≤ 6000 ∧ (1 ≤ c.duration ∧ c.duration ≤ 65535)
          ∧ (1 ≤ c.volume ∧ c.volume ≤ 1000000) ∧ ∀ z, c.zone = some z → z ≤ 7
        let ordered := c.kind = .trickle → c.rateLo ≤ c.rateHi
        let stored : Rule :=
          { conf := c, st := if c.enabled = true ∧ insideHours c s.hour = false then .dormant else .armed, timer := 0
            trips := 0, lastTrip := none }
        (inRange → ordered → exec (.writeEntryLeakRule tag i.val (some c)) s = .next (pushReply tag [0]
          { s with lkg := { s.lkg with rules := s.lkg.rules.set i stored } }))
        ∧ (¬ inRange → exec (.writeEntryLeakRule tag i.val (some c)) s = .next (pushReply tag [5] s))
        ∧ (inRange → ¬ ordered → exec (.writeEntryLeakRule tag i.val (some c)) s = .next (pushReply tag [6] s)))
    ∧ ∀ i c, 15 < i → exec (.writeEntryLeakRule tag i c) s = .next (pushReply tag [4] s)

/-- WRITE_ENTRY of a lane, a channel and a tracker: within the ranges and without a conflict of R8, R21 and R40 it
replaces the record, sets its run state back and is answered OK; out of a range it is RANGE, in conflict CONFLICT, and
with an index above the table's BAD_INDEX. A lane's write also resets the VALUE lanes that name it as their mark lane
when it is a MARK lane before the write or after it (assumption 61, DEDUCED), and gives reset notices: a channel with a
reset lane among its inputs drops its window and becomes UNSTARTED when they suit its mode and SUSPENDED when not, its
last result and flags kept, and an actuator that reads a reset lane recognises nothing until the next update, its state
kept. A channel's write leaves the trackers it does not feed alone; a tracker goes to SEARCH when it is bound and to
IDLE when not (R8, R9, R21, R22, R27, R40, R41, R42, R62). A field that a lane's kind does not hold is stored as what
reads back as 0 (assumption 11). -/
def Obligations.LanesChannelsAndTrackersAreWritten : Prop :=
  let isOf := fun (s : State) (n : Nat) (k : LaneKind) => (s.lane n).desc.enabled = true ∧ (s.lane n).desc.kind = k
  let isLevel := fun (s : State) (n : Nat) => isOf s n .level ∨ isOf s n .mark
  let takes := fun (s : State) (c : ChannelRec) =>
    (c.mode = .edgeCount ∨ c.mode = .period ∨ c.mode = .highTime → isLevel s c.inA ∧ c.inB = none)
    ∧ (c.mode = .countDelta → isOf s c.inA .count ∧ c.inB = none)
    ∧ (c.mode = .gatedCount → (isLevel s c.inA ∨ isOf s c.inA .count) ∧ ∃ b, c.inB = some b ∧ isLevel s b)
    ∧ (c.mode = .valueMean → isOf s c.inA .value ∧ c.inB = none)
  ∀ (tag : Byte) (s : State), s.takesRequests →
    (∀ (i : Fin 32) (d : LaneDesc),
      let inRange := d.slot ≤ 19 ∧ d.start ≤ 7 ∧ (1 ≤ d.width ∧ d.width ≤ 8) ∧ d.start + d.width ≤ 8
        ∧ (d.kind = .level ∨ d.kind = .mark → d.width = 1)
        ∧ (d.kind = .value → (d.w = 8 ∨ d.w = 12 ∨ d.w = 16) ∧ d.w % d.width = 0)
      let agrees := (∀ m, d.kind = .value → d.mark = some m →
            ∃ j : Fin 32, j.val = m ∧ j ≠ i ∧ s.lanes[j].desc.enabled = true ∧ s.lanes[j].desc.kind = .mark)
        ∧ (d.moisture = true → d.kind = .value ∧ d.w = 16
            ∧ ∀ j : Fin 32, j ≠ i → s.lanes[j].desc.enabled = true → s.lanes[j].desc.moisture = false)
        ∧ (¬ (d.enabled = true ∧ d.kind = .mark) → ∀ j : Fin 32, s.lanes[j].desc.enabled = true →
            s.lanes[j].desc.kind = .value → s.lanes[j].desc.mark ≠ some i.val)
      let d' := if d.kind = .value then d else { d with w := 0, mark := none, moisture := false }
      let hit := fun n : Nat => n = i.val ∨ ((d.kind = .mark ∨ s.lanes[i].desc.kind = .mark)
        ∧ (s.lane n).desc.kind = .value ∧ (s.lane n).desc.mark = some i.val)
      (inRange → agrees → ∃ t, exec (.writeEntryLane tag i.val (some d)) s = .next t
        ∧ t.lanes[i] = { desc := d', run := LaneRun.reset d' }
        ∧ (∀ j : Fin 32, j ≠ i → t.lanes[j].desc = s.lanes[j].desc
            ∧ (hit j.val → t.lanes[j].run = LaneRun.reset s.lanes[j].desc)
            ∧ (¬ hit j.val → t.lanes[j] = s.lanes[j]))
        ∧ (∀ j : Fin 8,
            let c := s.channels[j]
            let named := hit c.conf.inA ∨ ∃ b, c.conf.inB = some b ∧ hit b
            let dropped := fun x : ChanCond => { c with run := { c.run with
              cond := x, fa := Filter.unadopted, fb := Filter.unadopted, g := 0, n := 0, k := 0, acc := 0, e := 0
              missing := 0, timing := false, f := 0, s := 0 } }
            (named → c.run.cond ≠ .off → takes t c.conf → t.channels[j] = dropped .unstarted)
            ∧ (named → c.run.cond ≠ .off → ¬ takes t c.conf → t.channels[j] = dropped .suspended)
            ∧ (¬ named ∨ c.run.cond = .off → t.channels[j] = c))
        ∧ (∀ a : Actr,
            let x := s.act a
            let atSwitch := fun k : Nat =>
              x.conf.kind = .switches ∧ k < (positions a).length ∧ hit (perPos x.conf.switchLanes k)
            let atEncoder := x.conf.kind = .encoder ∧ hit x.conf.encoderLane
            let atStall := ∃ l, x.conf.stallLane = some l ∧ hit l
            let r := (t.act a).run
            (∀ k : Fin 6, (atSwitch k.val → r.switches[k] = Filter.unadopted)
              ∧ (¬ atSwitch k.val → r.switches[k] = x.run.switches[k]))
            ∧ (atEncoder → r.enc = EncFilter.unadopted) ∧ (¬ atEncoder → r.enc = x.run.enc)
            ∧ (atStall → r.stall = Filter.unadopted) ∧ (¬ atStall → r.stall = x.run.stall)
            ∧ ((∃ k : Nat, atSwitch k) ∨ atEncoder ∨ atStall → t.act a = { x with run := { x.run with
                switches := r.switches, enc := r.enc, stall := r.stall, recognised := none } })
            ∧ (¬ ((∃ k : Nat, atSwitch k) ∨ atEncoder ∨ atStall) → t.act a = x))
        ∧ t = { s with
            lanes := t.lanes, channels := t.channels, main := t.main, selector := t.selector
            regenRotor := t.regenRotor, filterRotor := t.filterRotor
            mgu := { s.mgu with replies := s.mgu.replies ++ [{ tag := tag, body := [0] }] } })
      ∧ (¬ inRange → exec (.writeEntryLane tag i.val (some d)) s = .next (pushReply tag [5] s))
      ∧ (inRange → ¬ agrees → exec (.writeEntryLane tag i.val (some d)) s = .next (pushReply tag [6] s)))
    ∧ (∀ i d, 31 < i → exec (.writeEntryLane tag i d) s = .next (pushReply tag [4] s))
    ∧ (∀ (i : Fin 8) (c : ChannelRec),
      let inRange := c.inA ≤ 31 ∧ (∀ b, c.inB = some b → b ≤ 31) ∧ (∀ p, c.preset = some p → p ≤ 3)
        ∧ (c.mode ≠ .off → c.x ≠ 0) ∧ (c.mode = .valueMean → c.x ≤ 64)
      (inRange → takes s c → ∃ t, exec (.writeEntryChannel tag i.val (some c)) s = .next t
        ∧ t.channels[i] = { conf := c, run := ChannelRun.reset (if c.mode = .off then .off else .unstarted) }
        ∧ (∀ j : Fin 8, j ≠ i → t.channels[j] = s.channels[j])
        ∧ (∀ k : Fin 7, t.trackers[k].conf = s.trackers[k].conf
            ∧ (s.trackers[k].conf.source ≠ i.val → t.trackers[k] = s.trackers[k]))
        ∧ (s.trackers[brineLevel].conf.source ≠ i.val → t.slt = s.slt)
        ∧ t.mgu.replies = s.mgu.replies ++ [{ tag := tag, body := [0] }]
        ∧ t = { s with
            channels := t.channels, trackers := t.trackers, slt := t.slt
            mgu := { s.mgu with replies := t.mgu.replies, changes := t.mgu.changes } })
      ∧ (¬ inRange → exec (.writeEntryChannel tag i.val (some c)) s = .next (pushReply tag [5] s))
      ∧ (inRange → ¬ takes s c → exec (.writeEntryChannel tag i.val (some c)) s = .next (pushReply tag [6] s)))
    ∧ (∀ i c, 7 < i → exec (.writeEntryChannel tag i c) s = .next (pushReply tag [4] s))
    ∧ (∀ (i : Fin 7) (c : TrackerRec),
        let top := roleMax i
        let inRange := c.source ≤ 7 ∧ c.gain ≠ 0 ∧ c.lo ≤ top ∧ c.hi ≤ top ∧ c.lo ≤ c.hi ∧ c.bw ≤ top ∧ c.bn ≤ top
          ∧ c.nHi ≤ top ∧ c.nLo ≤ top ∧ (2 ≤ c.mLock ∧ c.mLock ≤ 63) ∧ (2 ≤ c.kLose ∧ c.kLose ≤ 63)
          ∧ (1 ≤ c.j ∧ c.j ≤ 62)
        let ordered := c.j < c.kLose ∧ c.nLo < c.nHi
        (inRange → ordered → ∃ t, exec (.writeEntryTracker tag i.val (some c)) s = .next t
          ∧ t.trackers[i] = { conf := c, run :=
              if c.enabled = true ∧ modeSuits i (s.channel c.source).conf.mode = true
                ∧ (i = flow → 1 ≤ s.acc.settings.k ∧ s.acc.settings.k ≤ 60000)
              then { TrackerRun.idle with st := .search, awaiting := true } else TrackerRun.idle }
          ∧ (∀ j : Fin 7, j ≠ i → t.trackers[j] = s.trackers[j])
          ∧ (s.trackers[i].run.st = .locked → t.flagSet .lock)
          ∧ (i ≠ brineLevel → t.slt = s.slt)
          ∧ t.mgu.replies = s.mgu.replies ++ [{ tag := tag, body := [0] }]
          ∧ t = { s with
              trackers := t.trackers, slt := t.slt
              mgu := { s.mgu with replies := t.mgu.replies, changes := t.mgu.changes } })
        ∧ (¬ inRange → exec (.writeEntryTracker tag i.val (some c)) s = .next (pushReply tag [5] s))
        ∧ (inRange → ¬ ordered → exec (.writeEntryTracker tag i.val (some c)) s = .next (pushReply tag [6] s)))
    ∧ ∀ i c, 6 < i → exec (.writeEntryTracker tag i c) s = .next (pushReply tag [4] s)

/-- WRITE_ENTRY of the softener settings, of a tank and of the salt settings: accepted, it is stored and answered OK.
The pulse carry becomes 0 when K or the inlet channel changes and the brine carry when Kb or the brine channel does; a
tank's remaining is at most its nominal and its state is judged afresh; the store is clamped to the capacity and
SALT_LOW judged afresh. A field out of its range is RANGE, then the same channel named twice and a present height below
the empty one are CONFLICT and a tank that is REGENERATING is BUSY (R79, R80, R81, R99, R120, R123). A count of seconds
above the ceiling of R98 is stored as the ceiling (assumption 41). -/
def Obligations.SettingsTanksAndSaltAreWritten : Prop :=
  ∀ (tag : Byte) (s : State), s.takesRequests →
    (∀ c : Softener,
      let inRange := c.k ≤ 60000 ∧ c.kb ≤ 60000 ∧ c.hf ≤ 2000 ∧ c.fe ≤ 2000 ∧ c.kFe ≤ 4000 ∧ c.reserve ≤ 100000000
        ∧ (∀ h, c.regenHour = some h → h ≤ 23) ∧ (∀ d, c.maxDays = some d → 1 ≤ d ∧ d ≤ 30)
        ∧ (60 ≤ c.holdLimit ∧ c.holdLimit ≤ 14400) ∧ (1 ≤ c.resin ∧ c.resin ≤ 255) ∧ c.cNom ≤ 400
        ∧ (∀ n, c.inlet = some n → n ≤ 7) ∧ (∀ n, c.brine = some n → n ≤ 7)
      let distinct := ∀ n, ¬ (c.inlet = some n ∧ c.brine = some n)
      (inRange → distinct → ∃ t, exec (.writeEntrySoftener tag 0 (some c)) s = .next t
        ∧ t.acc = { s.acc with
            settings := c
            pulseCarry := if c.k ≠ s.acc.settings.k ∨ c.inlet ≠ s.acc.settings.inlet then 0 else s.acc.pulseCarry
            brineCarry := if c.kb ≠ s.acc.settings.kb ∨ c.brine ≠ s.acc.settings.brine then 0 else s.acc.brineCarry }
        ∧ (∀ i : Fin 7, i ≠ flow → t.trackers[i] = s.trackers[i])
        ∧ (c.k = s.acc.settings.k ∨ s.trackers[flow].conf.enabled = false → t.trackers = s.trackers)
        ∧ (c.k ≠ s.acc.settings.k → s.trackers[flow].conf.enabled = true →
            t.trackers[flow].run.est = none ∧ t.trackers[flow].run.st ≠ .locked)
        ∧ t.mgu.replies = s.mgu.replies ++ [{ tag := tag, body := [0] }]
        ∧ t = { s with acc := t.acc, trackers := t.trackers
                       mgu := { s.mgu with replies := t.mgu.replies, changes := t.mgu.changes } })
      ∧ (¬ inRange → exec (.writeEntrySoftener tag 0 (some c)) s = .next (pushReply tag [5] s))
      ∧ (inRange → ¬ distinct → exec (.writeEntrySoftener tag 0 (some c)) s = .next (pushReply tag [6] s)))
    ∧ (∀ i c, 0 < i → exec (.writeEntrySoftener tag i c) s = .next (pushReply tag [4] s))
    ∧ (∀ (x : TankId) (c : TankContents),
        let inRange := c.nominal ≤ 100000000 ∧ ∀ n, c.remaining = some n → n ≤ 100000000
        let r := min c.nominal (c.remaining.getD (s.tank x).remaining)
        (inRange → (s.tank x).st ≠ .regenerating →
          exec (.writeEntryTank tag x.index c) s = .next (pushReply tag [0] (setTank x { s.tank x with
            nominal := c.nominal, remaining := r, seconds := (c.seconds.map (min max32)).getD (s.tank x).seconds
            st := if c.nominal = 0 then .unconfigured
              else if s.confirmed = some x.pos then (if 0 < r then .service else .exhausted)
              else if s.acc.settings.reserve < r then .standby else .exhausted } s)))
        ∧ (¬ inRange → exec (.writeEntryTank tag x.index c) s = .next (pushReply tag [5] s))
        ∧ (inRange → (s.tank x).st = .regenerating →
            exec (.writeEntryTank tag x.index c) s = .next (pushReply tag [2] s)))
    ∧ (∀ i c, 1 < i → exec (.writeEntryTank tag i c) s = .next (pushReply tag [4] s))
    ∧ (∀ c : SaltSettings,
        let inRange := c.capacity ≤ 500000 ∧ c.reminder ≤ 500000 ∧ c.bridgeConc ≤ 400 ∧ c.presentHeight ≤ 2000
          ∧ c.emptyHeight ≤ 2000 ∧ c.minRise ≤ 2000
        (inRange → c.emptyHeight ≤ c.presentHeight →
          ∃ t, exec (.writeEntrySalt tag 0 c) s = .next t ∧ t.slt.settings = c
            ∧ t.slt.store = min c.capacity s.slt.store
            ∧ (t.slt.saltLow = true ↔ min c.capacity s.slt.store ≤ c.reminder
                ∨ (s.trackers[brineLevel].run.st = .locked
                    ∧ ∃ e, s.trackers[brineLevel].run.est = some e ∧ e ≤ c.emptyHeight))
            ∧ t.slt.bridgeCount = s.slt.bridgeCount ∧ t.slt.bridge = s.slt.bridge ∧ t.slt.refill = s.slt.refill
            ∧ (t.slt.store ≠ s.slt.store ∨ t.slt.saltLow ≠ s.slt.saltLow → t.flagSet .salt)
            ∧ t = { s with slt := t.slt, mgu := { s.mgu with
                replies := s.mgu.replies ++ [{ tag := tag, body := [0] }], changes := t.mgu.changes } })
        ∧ (¬ inRange → exec (.writeEntrySalt tag 0 c) s = .next (pushReply tag [5] s))
        ∧ (inRange → c.presentHeight < c.emptyHeight → exec (.writeEntrySalt tag 0 c) s = .next (pushReply tag [6] s))
        ∧ ∀ i, 0 < i → exec (.writeEntrySalt tag i c) s = .next (pushReply tag [4] s))

/-- WRITE_ENTRY of a stage stores its record and the counters it gives, clears the persistence count and judges DUE
afresh; WRITE_ENTRY of an actuator stores its record, sets its run state back to UNKNOWN with nothing recognised and
keeps the last confirmed position, and MAIN's owner answers its reset notice with the main valve state UNKNOWN, a test
past WAITING ended ABORTED_VALVE, or with its result in REOPENING, and its line released. The ranges and conflicts of
R134, R18 and R57 are spelt out: out of range is RANGE, in conflict CONFLICT, an index above the table's BAD_INDEX; a
stage that the backwash run concerns, after them, and an actuator in MOVING or PAUSED, before them, is BUSY (R18, R57,
R58, R134, R137, R148, R164). A field that the kind does not hold is stored as what reads back as 0 (assumption 11). -/
def Obligations.StagesAndActuatorsAreWritten : Prop :=
  let within := fun (lo hi : Nat) (o : Option Nat) => ∀ n, o = some n → lo ≤ n ∧ n ≤ hi
  ∀ (tag : Byte) (s : State), s.takesRequests →
    (∀ (i : Fin 4) (c : StageContents),
      let r := c.record
      let x := s.flt.stages[i]
      let inRange := within 1 (2 ^ 40 - 1) r.volumeLimit ∧ within 1 3650 r.dayLimit ∧ within 0 2000 r.dpLimit
        ∧ (1 ≤ r.persistence ∧ r.persistence ≤ 255) ∧ (1 ≤ r.qRef ∧ r.qRef ≤ 6000) ∧ (1 ≤ r.qMin ∧ r.qMin ≤ 6000)
        ∧ (r.kind = .media → within 1 (2 ^ 40 - 1) r.bwVolume ∧ within 1 365 r.bwDays)
        ∧ within 0 (2 ^ 40 - 1) c.volRep ∧ within 0 (2 ^ 32 - 1) c.secRep ∧ within 0 (2 ^ 40 - 1) c.volBw
        ∧ within 0 (2 ^ 32 - 1) c.secBw
      let agrees := (r.enabled = true → r.kind = .media → ∀ j : Fin 4, j ≠ i → s.flt.stages[j].conf.enabled = true →
          s.flt.stages[j].conf.kind ≠ .media) ∧ (r.up.isSome → r.up ≠ r.down)
      let busy := s.flt.st ≠ .idle ∧ s.flt.run.stage = some i
      (inRange → agrees → ¬ busy → ∃ t, exec (.writeEntryStage tag i.val (some c)) s = .next t
        ∧ t.flt.stages[i].conf = (if r.kind = .media then r else { r with bwVolume := none, bwDays := none })
        ∧ t.flt.stages[i].volRep = c.volRep.getD x.volRep ∧ t.flt.stages[i].secRep = c.secRep.getD x.secRep
        ∧ t.flt.stages[i].volBw = c.volBw.getD x.volBw ∧ t.flt.stages[i].secBw = c.secBw.getD x.secBw
        ∧ t.flt.stages[i].dpCount = 0
        ∧ (t.flt.stages[i].due = true ↔ r.enabled = true
            ∧ ((∃ l, r.volumeLimit = some l ∧ l ≤ c.volRep.getD x.volRep)
              ∨ (∃ d, r.dayLimit = some d ∧ d * 86400 ≤ c.secRep.getD x.secRep)
              ∨ (r.kind = .media ∧ s.flt.fouled = true)))
        ∧ (∀ j : Fin 4, j ≠ i → t.flt.stages[j] = s.flt.stages[j]) ∧ t.flt.st = s.flt.st ∧ t.flt.run = s.flt.run
        ∧ t.flt.program = s.flt.program ∧ (t.flt.stages[i].due ≠ x.due → t.flagSet .filter)
        ∧ t.mgu.replies = s.mgu.replies ++ [{ tag := tag, body := [0] }]
        ∧ t = { s with flt := t.flt, mgu := { s.mgu with replies := t.mgu.replies, changes := t.mgu.changes } })
      ∧ (¬ inRange → exec (.writeEntryStage tag i.val (some c)) s = .next (pushReply tag [5] s))
      ∧ (inRange → ¬ agrees → exec (.writeEntryStage tag i.val (some c)) s = .next (pushReply tag [6] s))
      ∧ (inRange → agrees → busy → exec (.writeEntryStage tag i.val (some c)) s = .next (pushReply tag [2] s)))
    ∧ (∀ i c, 3 < i → exec (.writeEntryStage tag i c) s = .next (pushReply tag [4] s))
    ∧ (∀ (a : Actr) (c : ActuatorRec), (∀ p n, (s.act a).run.st ≠ .moving p n ∧ (s.act a).run.st ≠ .paused p n) →
      let top := (positions a).length
      let level := fun n : Nat => (s.lane n).desc.enabled = true
        ∧ ((s.lane n).desc.kind = .level ∨ (s.lane n).desc.kind = .mark)
      let apart := fun v : Vector Nat 6 => ∀ k l, k < l → l < top → perPos v k ≠ perPos v l
      let inRange := c.slot ≤ 5 ∧ c.start ≤ 7 ∧ (2 ≤ c.width ∧ c.width ≤ 3) ∧ c.start + c.width ≤ 8
        ∧ c.stopCode < 2 ^ c.width ∧ (∀ k, k < top → perPos c.codes k < 2 ^ c.width)
        ∧ (c.kind = .switches → ∀ k, k < top → perPos c.switchLanes k ≤ 31)
        ∧ (c.kind = .encoder → c.encoderLane ≤ 31 ∧ ∀ k, k < top → perPos c.encoderValues k ≤ 255)
        ∧ within 0 31 c.stallLane ∧ within 0 3 c.preset ∧ (1 ≤ c.travel ∧ c.travel ≤ 255) ∧ c.retry ≤ 7
        ∧ (1 ≤ c.pause ∧ c.pause ≤ 60)
      let agrees := c.enabled = true →
        (∀ b : Actr, b ≠ a → (s.act b).conf.enabled = true → (s.act b).conf.slot = c.slot →
          c.start + c.width ≤ (s.act b).conf.start ∨ (s.act b).conf.start + (s.act b).conf.width ≤ c.start)
        ∧ (∀ k, k < top → perPos c.codes k ≠ c.stopCode) ∧ apart c.codes
        ∧ (c.kind = .switches → (∀ k, k < top → level (perPos c.switchLanes k)) ∧ apart c.switchLanes)
        ∧ (c.kind = .encoder → (s.lane c.encoderLane).desc.enabled = true ∧ (s.lane c.encoderLane).desc.kind = .value
            ∧ (s.lane c.encoderLane).desc.w = 8 ∧ apart c.encoderValues)
        ∧ ∀ n, c.stallLane = some n → level n ∧ (c.kind = .switches → ∀ k, k < top → perPos c.switchLanes k ≠ n)
      let unread := { conf := storedActuator a c, run := { (s.act a).run with
        st := .unknown, switches := Vector.replicate 6 Filter.unadopted, stall := Filter.unadopted
        enc := EncFilter.unadopted, recognised := none, travel := none, pause := none, displace := none
        stallSeen := false, adoptSeen := false } : Actuator }
      (inRange → agrees →
        (a = .selector ∨ (a = .regenRotor ∧ s.rgs.seq = .idle) ∨ (a = .filterRotor ∧ s.flt.st = .idle) →
          exec (.writeEntryActuator tag a.index (some c)) s = .next (pushReply tag [0] (setAct a unread s)))
        ∧ (a = .main → ∃ t, exec (.writeEntryActuator tag 0 (some c)) s = .next t ∧ t.main = unread
            ∧ t.lkg.main = .unknown ∧ t.lkg.latch = s.lkg.latch
            ∧ t.mgu.replies = s.mgu.replies ++ [{ tag := tag, body := [0] }]
            ∧ (s.lkg.test.st = .idle ∨ s.lkg.test.st = .waiting →
                t.lkg.test = s.lkg.test ∧ t.drain = { s.drain with
                  allowance := t.drain.allowance, kind := t.drain.kind })
            ∧ (s.lkg.test.st ≠ .idle → s.lkg.test.st ≠ .waiting → s.drain.holder = some .test →
                t.lkg.test = { s.lkg.test with
                  st := .idle, timer := none
                  record := s.lkg.test.record.map fun x => { x with
                    endedAt := some s.mgu.seconds
                    result := if s.lkg.test.st = .reopening then x.result else some .abortedValve } }
                ∧ t.drain = { s.drain with holder := none, allowance := 0, kind := none } ∧ t.flagSet .test)))
      ∧ (¬ inRange → exec (.writeEntryActuator tag a.index (some c)) s = .next (pushReply tag [5] s))
      ∧ (inRange → ¬ agrees → exec (.writeEntryActuator tag a.index (some c)) s = .next (pushReply tag [6] s)))
    ∧ (∀ (a : Actr) p n c, ((s.act a).run.st = .moving p n ∨ (s.act a).run.st = .paused p n) →
        exec (.writeEntryActuator tag a.index c) s = .next (pushReply tag [2] s))
    ∧ ∀ i c, 3 < i → exec (.writeEntryActuator tag i c) s = .next (pushReply tag [4] s)

/-! ### Commands of the owner -/

/-- OPEN_MAIN is refused with LATCHED while the latch is set, then with BUSY while a test stands between CLOSING and
REOPENING, is OK when the main is OPEN or OPENING already, and otherwise asks MAIN toward OPEN: ACCEPTED with OPENING
when the move starts, OK with OPEN when it is completed at once, WRONG_STATE with FAULT or UNKNOWN when it is refused
(R148, R150). What a completion at once leaves is said with nobody waiting for the drain line and no run held, so that
nothing goes on from it. -/
def Obligations.OpenMainIsTakenByLatchTestAndState : Prop :=
  ∀ (tag : Byte) (s : State), s.takesRequests →
    let testing := s.lkg.test.st = .closing ∨ s.lkg.test.st = .settle ∨ s.lkg.test.st = .measure
      ∨ s.lkg.test.st = .reopening
    let opening := s.lkg.main = .opened ∨ s.lkg.main = .opening
    (s.lkg.latch ≠ none → exec (.openMain tag) s = .next (pushReply tag [8] s))
    ∧ (s.lkg.latch = none → testing → exec (.openMain tag) s = .next (pushReply tag [2] s))
    ∧ (s.lkg.latch = none → ¬ testing → opening → exec (.openMain tag) s = .next (pushReply tag [0] s))
    ∧ (s.lkg.latch = none → ¬ testing → ¬ opening →
        (s.answer .main .mainOpen = .moving → ∃ t, exec (.openMain tag) s = .next t ∧ t.lkg.main = .opening
          ∧ t.main.run.target = some .mainOpen ∧ t.lkg.test = s.lkg.test ∧ t.lkg.latch = none ∧ t.flagSet .main
          ∧ t.mgu.replies = s.mgu.replies ++ [{ tag := tag, body := [1] }] ∧ t.rgs = s.rgs ∧ t.flt = s.flt
          ∧ t.drain = s.drain)
        ∧ (s.answer .main .mainOpen = .completed → ∃ t, exec (.openMain tag) s = .next t
          ∧ t.mgu.replies = s.mgu.replies ++ [{ tag := tag, body := [0] }]
          ∧ (s.noneWaits → s.rgs.seq ≠ .held → s.flt.st ≠ .held →
              t.lkg.main = .opened ∧ t.main.run.st = .at .mainOpen ∧ t.flagSet .main ∧ t.rgs = s.rgs ∧ t.flt = s.flt
                ∧ t.drain = s.drain))
        ∧ (s.answer .main .mainOpen = .faulted → ∃ t, exec (.openMain tag) s = .next t ∧ t.lkg.main = .fault
          ∧ t.main = s.main ∧ t.lkg.test = s.lkg.test
          ∧ t.mgu.replies = s.mgu.replies ++ [{ tag := tag, body := [7] }])
        ∧ (s.answer .main .mainOpen = .disabled → ∃ t, exec (.openMain tag) s = .next t ∧ t.lkg.main = .unknown
          ∧ t.main = s.main ∧ t.lkg.test = s.lkg.test
          ∧ t.mgu.replies = s.mgu.replies ++ [{ tag := tag, body := [7] }]))

/-- CLOSE_MAIN is taken by the main valve state: OPEN, OPENING and UNKNOWN ask MAIN toward CLOSED, CLOSING(TEST) and
CLOSED(TEST) take the reason MANUAL, the other closing and closed states are OK and FAULT is WRONG_STATE, both without
effect (R148, R149). A decay test in progress is ended in the same handling and does not reopen the main: in WAITING
with ABORTED_MANUAL and the request withdrawn, in CLOSING, SETTLE and MEASURE with ABORTED_MANUAL and the line
released, in REOPENING with its result kept, the line released and MAIN turned back toward CLOSED (R149, R164).
CLEAR_LEAK_LATCH with the latch set clears it, the fail count and the tripped SHUT rules, raises LEAK and leaves the
main as it stands; with the latch clear it changes nothing (R152). That a WAITING test is ended with ABORTED_MANUAL in
FAULT too, where the reply is WRONG_STATE, is the model's choice (assumption 19). -/
def Obligations.CloseMainAndClearLeakLatchAreTaken : Prop :=
  ∀ (tag : Byte) (s : State), s.takesRequests →
    let ok := pushReply tag [0] s
    let replied := fun (body : List Byte) (t : State) =>
      t.mgu.replies = s.mgu.replies ++ [{ tag := tag, body := body }]
    let ended := fun r : Option TestResult => { s.lkg.test with
      st := .idle, timer := none
      record := s.lkg.test.record.map fun x =>
        { x with endedAt := some s.mgu.seconds, result := if r.isSome then r else x.result } }
    (s.lkg.test.st = .idle →
      (s.lkg.main = .opened ∨ s.lkg.main = .opening ∨ s.lkg.main = .unknown →
        (s.answer .main .mainClosed = .moving → ∃ t, exec (.closeMain tag) s = .next t
          ∧ t.lkg.main = .closing .manual ∧ t.main.run.target = some .mainClosed ∧ t.lkg.latch = s.lkg.latch
          ∧ t.flagSet .main ∧ t.mgu.replies = s.mgu.replies ++ [{ tag := tag, body := [1] }]
          ∧ (s.lkg.main = .opened → t.rgs.seq ≠ .running ∧ t.flt.st ≠ .running)
          ∧ (s.lkg.main ≠ .opened → t.rgs = s.rgs ∧ t.flt = s.flt))
        ∧ (s.answer .main .mainClosed = .completed → ∃ t, exec (.closeMain tag) s = .next t
          ∧ t.lkg.main = .closed .manual ∧ t.lkg.latch = s.lkg.latch
          ∧ t.mgu.replies = s.mgu.replies ++ [{ tag := tag, body := [0] }])
        ∧ (s.answer .main .mainClosed = .faulted → ∃ t, exec (.closeMain tag) s = .next t ∧ t.lkg.main = .fault
          ∧ t.mgu.replies = s.mgu.replies ++ [{ tag := tag, body := [7] }])
        ∧ (s.answer .main .mainClosed = .disabled → ∃ t, exec (.closeMain tag) s = .next t ∧ t.lkg.main = .unknown
          ∧ t.mgu.replies = s.mgu.replies ++ [{ tag := tag, body := [7] }]))
      ∧ (s.lkg.main = .closing .test → exec (.closeMain tag) s = .next (pushReply tag [1]
          (raise .main { s with lkg := { s.lkg with main := .closing .manual } })))
      ∧ (s.lkg.main = .closed .test → exec (.closeMain tag) s = .next (pushReply tag [0]
          (raise .main { s with lkg := { s.lkg with main := .closed .manual } })))
      ∧ (∀ r, r ≠ .test → s.lkg.main = .closing r ∨ s.lkg.main = .closed r → exec (.closeMain tag) s = .next ok)
      ∧ (s.lkg.main = .fault → exec (.closeMain tag) s = .next (pushReply tag [7] s)))
    ∧ (s.lkg.test.st = .waiting → s.drain.holder ≠ some .test → ∃ t, exec (.closeMain tag) s = .next t
        ∧ t.lkg.test = ended (some .abortedManual) ∧ t.flagSet .test ∧ t.lkg.latch = s.lkg.latch
        ∧ t.drain.waitTest = false ∧ t.drain.holder = s.drain.holder ∧ t.drain.waitRegen = s.drain.waitRegen
        ∧ t.drain.waitBackwash = s.drain.waitBackwash
        ∧ (s.lkg.main = .opened ∨ s.lkg.main = .opening ∨ s.lkg.main = .unknown →
          (s.answer .main .mainClosed = .moving → t.lkg.main = .closing .manual
            ∧ t.main.run.target = some .mainClosed ∧ replied [1] t)
          ∧ (s.answer .main .mainClosed = .completed → t.lkg.main = .closed .manual ∧ replied [0] t)
          ∧ (s.answer .main .mainClosed = .faulted → t.lkg.main = .fault ∧ replied [7] t)
          ∧ (s.answer .main .mainClosed = .disabled → t.lkg.main = .unknown ∧ replied [7] t))
        ∧ (∀ r, r ≠ .test → s.lkg.main = .closing r ∨ s.lkg.main = .closed r →
            t.lkg.main = s.lkg.main ∧ t.main = s.main ∧ replied [0] t)
        ∧ (s.lkg.main = .fault → t.lkg.main = .fault ∧ t.main = s.main ∧ replied [7] t))
    ∧ (s.lkg.test.st = .closing ∨ s.lkg.test.st = .settle ∨ s.lkg.test.st = .measure →
        s.drain.holder = some .test → s.lkg.main = .closing .test ∨ s.lkg.main = .closed .test →
      ∃ t, exec (.closeMain tag) s = .next t ∧ t.lkg.test = ended (some .abortedManual) ∧ t.flagSet .test
        ∧ t.flagSet .main ∧ t.drain = { s.drain with holder := none, allowance := 0, kind := none } ∧ t.main = s.main
        ∧ t.rgs = s.rgs ∧ t.flt = s.flt ∧ t.lkg.latch = s.lkg.latch
        ∧ (s.lkg.main = .closing .test → t.lkg.main = .closing .manual ∧ replied [1] t)
        ∧ (s.lkg.main = .closed .test → t.lkg.main = .closed .manual ∧ replied [0] t))
    ∧ (s.lkg.test.st = .reopening → s.drain.holder = some .test → s.lkg.main = .opening →
        s.answer .main .mainClosed = .moving →
      ∃ t, exec (.closeMain tag) s = .next t ∧ t.lkg.test = ended none ∧ t.flagSet .test
        ∧ t.drain = { s.drain with holder := none, allowance := 0, kind := none } ∧ t.lkg.main = .closing .manual
        ∧ t.main.run.target = some .mainClosed ∧ t.rgs = s.rgs ∧ t.flt = s.flt ∧ t.lkg.latch = s.lkg.latch
        ∧ replied [1] t)
    ∧ (s.lkg.latch ≠ none → exec (.clearLeakLatch tag) s = .next (pushReply tag [0] (raise .leak
        { s with lkg := { s.lkg with
          latch := none, test := { s.lkg.test with failCount := 0 }
          rules := Vector.ofFn fun i =>
            let x := s.lkg.rules[i]
            if x.st = .tripped ∧ x.conf.action = .shut then
              { x with st := if insideHours x.conf s.hour = true then .armed else .dormant, timer := 0 }
            else x } })))
    ∧ (s.lkg.latch = none → exec (.clearLeakLatch tag) s = .next ok)

/-- BYPASS_ON and BYPASS_OFF are BUSY while a selector move is in flight. BYPASS_ON is OK at the bypass already and
otherwise remembers the service tank and asks the SELECTOR to BYPASS; BYPASS_OFF is WRONG_STATE away from the bypass,
and otherwise asks it back to the remembered tank, or tank A, when that is STANDBY, else to the other tank when that is
STANDBY, else is WRONG_STATE (R103, R178). ABORT_LEAK_TEST is taken by the test's state: ended in WAITING, no effect in
REOPENING and IDLE, MAIN asked toward OPEN in between, the record then with its result and not yet its end seconds
(R164; the end seconds at the end of the reopening are assumption 17). -/
def Obligations.BypassAndAbortCommandsAreTaken : Prop :=
  ∀ (tag : Byte) (s : State), s.takesRequests →
    (s.rgs.move ≠ .none → exec (.bypassOn tag) s = .next (pushReply tag [2] s)
      ∧ exec (.bypassOff tag) s = .next (pushReply tag [2] s))
    ∧ (s.rgs.move = .none →
      (s.confirmed = some .bypass → exec (.bypassOn tag) s = .next (pushReply tag [0] s))
      ∧ (s.confirmed ≠ some .bypass → exec (.bypassOff tag) s = .next (pushReply tag [7] s))
      ∧ (s.confirmed ≠ some .bypass → s.answer .selector .bypass = .moving →
          ∃ t, exec (.bypassOn tag) s = .next t ∧ t.rgs = { s.rgs with move := .bypassOn, remembered := s.serviceTank }
            ∧ t.selector.run.target = some .bypass ∧ t.selector.run.lastConfirmed = s.selector.run.lastConfirmed
            ∧ t = { s with rgs := t.rgs, selector := t.selector, mgu := { s.mgu with
                replies := s.mgu.replies ++ [{ tag := tag, body := [1] }] } })
      ∧ (s.confirmed = some .bypass → ∀ x : TankId,
          ((s.tank x).st = .standby ∧ s.rgs.remembered.getD .a = x)
            ∨ ((s.tank x).st = .standby ∧ s.rgs.remembered.getD .a = x.other ∧ (s.tank x.other).st ≠ .standby) →
          s.answer .selector x.pos = .moving →
          ∃ t, exec (.bypassOff tag) s = .next t ∧ t.rgs = { s.rgs with move := .bypassOff x }
            ∧ t.selector.run.target = some x.pos
            ∧ t = { s with rgs := t.rgs, selector := t.selector, mgu := { s.mgu with
                replies := s.mgu.replies ++ [{ tag := tag, body := [1] }] } })
      ∧ (s.confirmed = some .bypass → (∀ x : TankId, (s.tank x).st ≠ .standby) →
          exec (.bypassOff tag) s = .next (pushReply tag [7] s)))
    ∧ (s.lkg.test.st = .idle → exec (.abortLeakTest tag) s = .next (pushReply tag [7] s))
    ∧ (s.lkg.test.st = .reopening → exec (.abortLeakTest tag) s = .next (pushReply tag [0] s))
    ∧ (s.lkg.test.st = .waiting → s.drain.holder ≠ some .test → ∃ t, exec (.abortLeakTest tag) s = .next t
        ∧ t.lkg.test.st = .idle ∧ t.lkg.test.timer = none ∧ t.drain = { s.drain with waitTest := false }
        ∧ t.lkg.test.record = s.lkg.test.record.map (fun r =>
            { r with endedAt := some s.mgu.seconds, result := some .abortedManual })
        ∧ t.lkg.main = s.lkg.main ∧ t.flagSet .test ∧ t.rgs = s.rgs ∧ t.flt = s.flt
        ∧ t.mgu.replies = s.mgu.replies ++ [{ tag := tag, body := [0] }])
    ∧ (s.lkg.test.st = .closing ∨ s.lkg.test.st = .settle ∨ s.lkg.test.st = .measure →
        s.answer .main .mainOpen = .moving → ∃ t, exec (.abortLeakTest tag) s = .next t
        ∧ t.lkg.test.st = .reopening ∧ t.lkg.test.timer = none ∧ t.lkg.main = .opening
        ∧ t.main.run.target = some .mainOpen ∧ t.drain = s.drain
        ∧ t.lkg.test.record = s.lkg.test.record.map (fun r => { r with result := some .abortedManual })
        ∧ t.flagSet .test ∧ t.mgu.replies = s.mgu.replies ++ [{ tag := tag, body := [1] }])

/-- SALT_REFILLED adds to the store up to the capacity, clears the bridge count with BRIDGE and judges SALT_LOW afresh;
the refill check and REFILL_SHORT stay; a mass above 500 000 is RANGE (R121). FILTER_REPLACED sets a stage's counters
since replacement, its persistence count and DUE back, of a media kind those since backwash too, and of the media stage
the demand, the watch and MEDIA_FOULED; a stage above 3 is BAD_INDEX, the stage of the run BUSY (R138). -/
def Obligations.SaltRefilledAndFilterReplacedAreTaken : Prop :=
  ∀ (tag : Byte) (s : State), s.takesRequests →
    (∀ m, m ≤ 500000 → ∃ t, exec (.saltRefilled tag m) s = .next t
      ∧ t.slt.store = min s.slt.settings.capacity (s.slt.store + m) ∧ t.slt.bridgeCount = 0 ∧ t.slt.bridge = false
      ∧ (t.slt.saltLow = true ↔ min s.slt.settings.capacity (s.slt.store + m) ≤ s.slt.settings.reminder
          ∨ (s.trackers[brineLevel].run.st = .locked
              ∧ ∃ e, s.trackers[brineLevel].run.est = some e ∧ e ≤ s.slt.settings.emptyHeight))
      ∧ t.slt.settings = s.slt.settings ∧ t.slt.refill = s.slt.refill ∧ t.slt.refillShort = s.slt.refillShort
      ∧ t.slt.lastDraw = s.slt.lastDraw
      ∧ (t.slt.store ≠ s.slt.store ∨ t.slt.bridge ≠ s.slt.bridge ∨ t.slt.saltLow ≠ s.slt.saltLow → t.flagSet .salt)
      ∧ t = { s with slt := t.slt, mgu := { s.mgu with
          replies := s.mgu.replies ++ [{ tag := tag, body := [0] }], changes := t.mgu.changes } })
    ∧ (∀ m, 500000 < m → exec (.saltRefilled tag m) s = .next (pushReply tag [5] s))
    ∧ (∀ i : Fin 4, (s.flt.st = .idle ∨ s.flt.run.stage ≠ some i) →
      let x := s.flt.stages[i]
      let media := x.conf.enabled = true ∧ x.conf.kind = .media
      ∃ t, exec (.filterReplaced tag i.val) s = .next t
        ∧ t.flt.stages[i] = { x with
            volRep := 0, secRep := 0, dpCount := 0, due := false
            volBw := if x.conf.kind = .media then 0 else x.volBw, secBw := if x.conf.kind = .media then 0 else x.secBw }
        ∧ (∀ j : Fin 4, j ≠ i → t.flt.stages[j] = s.flt.stages[j])
        ∧ (media → t.flt.demand = none ∧ t.flt.watch = false ∧ t.flt.fouled = false)
        ∧ (¬ media → t.flt.demand = s.flt.demand ∧ t.flt.watch = s.flt.watch ∧ t.flt.fouled = s.flt.fouled)
        ∧ (x.due = true ∨ t.flt.fouled ≠ s.flt.fouled → t.flagSet .filter)
        ∧ t = { s with
            flt := { s.flt with
              stages := t.flt.stages, demand := t.flt.demand, watch := t.flt.watch, fouled := t.flt.fouled }
            mgu := { s.mgu with
              replies := s.mgu.replies ++ [{ tag := tag, body := [0] }], changes := t.mgu.changes } })
    ∧ (∀ i : Fin 4, s.flt.st ≠ .idle → s.flt.run.stage = some i →
        exec (.filterReplaced tag i.val) s = .next (pushReply tag [2] s))
    ∧ ∀ i, 3 < i → exec (.filterReplaced tag i) s = .next (pushReply tag [4] s)

/-- The commands that act at once: CLEAR_FAULT sets an actuator in a fault state back to UNKNOWN (R70), and with the
argument 4 clears the first-fault record, as CLEAR_FAULT_RECORD does (R173); CLEAR_SLIP (R91), SET_TIME (R174), RESTART
(R175) and ACK_CHANGES (R172; the order of the two bytes of its reply is assumption 40). Their refusals are RANGE,
BAD_INDEX and WRONG_STATE. -/
def Obligations.CommandsThatActAtOnceAreTaken : Prop :=
  ∀ (tag : Byte) (s : State), s.takesRequests →
    (∀ a : Actr,
        ((s.act a).run.st = .faultNoResponse ∨ (s.act a).run.st = .faultStall →
          exec (.clearFault tag a.index) s = .next (pushReply tag [0]
            (setAct a { s.act a with run := { (s.act a).run with
              st := .unknown, switches := Vector.replicate 6 Filter.unadopted, stall := Filter.unadopted
              enc := EncFilter.unadopted, recognised := none, travel := none, pause := none, displace := none
              stallSeen := false, adoptSeen := false } } s)))
        ∧ ((s.act a).run.st ≠ .faultNoResponse → (s.act a).run.st ≠ .faultStall →
            exec (.clearFault tag a.index) s = .next (pushReply tag [7] s)))
    ∧ (∀ n, 4 < n → exec (.clearFault tag n) s = .next (pushReply tag [4] s))
    ∧ exec (.clearFaultRecord tag) s = .next (pushReply tag [0]
        { s with mgu := { s.mgu with fault := { s.mgu.fault with valid := false, lost := false } } })
    ∧ exec (.clearFault tag 4) s = exec (.clearFaultRecord tag) s
    ∧ exec (.clearSlip tag) s = .next (pushReply tag [0] { s with acc := { s.acc with slip := 0, slipSet := false } })
    ∧ (∀ d n, n ≤ 86399 → exec (.setTime tag d n) s = .next (pushReply tag [0]
        { s with mgu := { s.mgu with timeValid := true, day := d, secondOfDay := n } }))
    ∧ (∀ d n, 86399 < n → exec (.setTime tag d n) s = .next (pushReply tag [5] s))
    ∧ exec (.restart tag) s = .next (pushReply tag [1] { s with mgu := { s.mgu with restartPending := true } })
    ∧ ∀ lo hi : Byte, ∃ t, exec (.ackChanges tag lo hi) s = .next t
        ∧ (∀ f : Flag, t.flagSet f = (s.flagSet f && !(if f.number < 8 then lo.getLsbD f.number
            else hi.getLsbD (f.number - 8))))
        ∧ t = { s with mgu := { s.mgu with changes := t.mgu.changes, replies := s.mgu.replies ++
            [{ tag := tag, body := [0, toByte (s.mgu.changes.toNat % 256), toByte (s.mgu.changes.toNat / 256)] }] } }

/-! ### Requests as messages -/

/-- Every well-formed request is read back from the bytes of its message, with all its operands (R169 to R171,
R177). -/
def Obligations.ARequestIsReadBackFromItsMessage : Prop :=
  ∀ (c : Instr) (m : List Byte), c.wellFormed = true → encodeRequest c = some m → decodeRequest m = some c

/-- The bytes of a well-formed request's message, with its CRC-16, escaped and between delimiters, given one by one to
the request receiver while it stands between messages, execute that request and leave the receiver collecting with no
bytes (R166, R167, R177). That a request's command stands for the closing of its message is assumption 34. -/
def Obligations.TheBytesOfAMessageExecuteTheRequest : Prop :=
  ∀ (c : Instr) (m : List Byte) (s : State), c.wellFormed = true → encodeRequest c = some m →
    (s.mgu.rx.collecting = true → s.mgu.rx.escape = true ∨ s.mgu.rx.count = 0) →
    exec c { s with mgu := { s.mgu with rx := { collecting := true, escape := false, bytes := [], count := 0 } } }
      = .next ((encoded (messageOf m)).foldl (fun u b => receiveByte b u) s)

/-! ### Laws that every command keeps -/

/-- The law of the first-fault record: while it is valid its contents do not change, except by CLEAR_FAULT or power-on
reset; an offer meanwhile sets LOST alone (R173). Said of every command but those two and the gateway's frames, which
may carry a CLEAR_FAULT within. -/
def Obligations.AValidFirstFaultRecordKeepsItsContents : Prop :=
  ∀ (c : Instr) (s t : State), c ≠ .powerOnReset → (∀ tag, c ≠ .clearFaultRecord tag ∧ c ≠ .clearFault tag 4) →
    c.mayCarry = false → s.mgu.fault.valid = true → exec c s = .next t →
    t.mgu.fault.valid = true ∧ t.mgu.fault.kind = s.mgu.fault.kind ∧ t.mgu.fault.source = s.mgu.fault.source
      ∧ t.mgu.fault.seconds = s.mgu.fault.seconds ∧ t.mgu.fault.detail = s.mgu.fault.detail
      ∧ (s.mgu.fault.lost = true → t.mgu.fault.lost = true)

/-- Every command keeps the counts of LNK and MGU and the presets in their ranges, and keeps the trackers in theirs: a
LOCKED tracker has an estimate, and estimates and clamp bounds stay in the tracker's range (R3, R23, R40, R44 to R46,
R49, R166, R167, R174). It leaves the queue of the waiting commands as it stands. -/
def Obligations.EveryCommandKeepsCountsAndEstimatesInRange : Prop :=
  ∀ (c : Instr) (s t : State), exec c s = .next t →
    t.pending = s.pending ∧ (s.countLaw → t.countLaw) ∧ (s.trackerLaw → t.trackerLaw)

/-- Every command keeps the laws of the account: each carry less than one increment, a tank's remaining at most its
nominal and its seconds in their range with an efficiency curve of at most 1024, the store at most the capacity (R81,
R83, R84, R86, R93, R95, R98, R99, R120 to R122). -/
def Obligations.EveryCommandKeepsTheAccountLaws : Prop :=
  ∀ (c : Instr) (s t : State), exec c s = .next t →
    (s.carryLaw → t.carryLaw) ∧ (s.tankLaw → t.tankLaw) ∧ (s.storeLaw → t.storeLaw)

/-- The laws of the shut supply and of the drain line: no step of a regeneration or a backwash is RUNNING while the
main is not OPEN or the field link not FRESH; the allowance in force belongs to the line's holder and is 0 without one;
a run that is POSITIONING, RUNNING or HELD, or PARKING with its outcome not decided, and a test past WAITING hold the
line. Every command keeps each (R73 to R77, R109, R112, R142, R143, R162). -/
def Obligations.EveryCommandKeepsTheShutSupplyAndTheDrainLaws : Prop :=
  ∀ (c : Instr) (s t : State), exec c s = .next t →
    (s.supplyLaw → t.supplyLaw) ∧ (s.drainLaw → t.drainLaw) ∧ (s.holderLaw → t.holderLaw)

/-- The law of the latch: while the leak latch is set the main valve state is neither OPEN nor OPENING, MAIN is in no
move toward OPEN, and no decay test is in progress (R150 to R152, R161, R164); it rests on MAIN moving toward OPEN only
in OPENING. The law of the regenerated tank: the tank of a run is REGENERATING and never at the SELECTOR's last
confirmed position, and no selector move of RGS targets a REGENERATING tank (R107, R116). Every command keeps each. -/
def Obligations.EveryCommandKeepsTheLatchAndTheRunTankLaws : Prop :=
  ∀ (c : Instr) (s t : State), exec c s = .next t →
    (s.mainLaw → t.mainLaw) ∧ (s.mainLaw → s.latchLaw → t.latchLaw) ∧ (s.runTankLaw → t.runTankLaw)

/-- The state after a power-on reset meets every law that the commands keep. -/
def Obligations.ResetMeetsEveryLaw : Prop :=
  State.reset.countLaw ∧ State.reset.carryLaw ∧ State.reset.tankLaw ∧ State.reset.storeLaw ∧ State.reset.supplyLaw
    ∧ State.reset.drainLaw ∧ State.reset.holderLaw ∧ State.reset.mainLaw ∧ State.reset.latchLaw
    ∧ State.reset.runTankLaw ∧ State.reset.trackerLaw ∧ State.reset.pending = []
end

