-- ==== Sys2Proof/Laws/Bytes.lean ====
section
/-! SUPPORT. Numbers as bytes and back, and bit fields of a slot. -/

namespace Sys2Proof.Machine

theorem num_length (w n : Nat) : (num w n).length = w := by
  induction w generalizing n with
  | zero => rfl
  | succ w ih => simp [num, ih]

theorem ofBytes_append (bs : List Byte) (b : Byte) : ofBytes (bs ++ [b]) = ofBytes bs * 256 + b.toNat := by
  simp [ofBytes]

/-- A number that fits its width is read back as it was written (R169). -/
theorem ofBytes_num (w n : Nat) (h : n < 256 ^ w) : ofBytes (num w n) = n := by
  induction w generalizing n with
  | zero => simp at h; subst h; rfl
  | succ w ih =>
    rw [num, ofBytes_append, ih _ (Nat.div_lt_of_lt_mul (by rwa [Nat.mul_comm, ← Nat.pow_succ]))]
    simp only [toByte, BitVec.toNat_ofNat]
    omega

theorem ofBytes_lt (bs : List Byte) : ofBytes bs < 256 ^ bs.length := by
  induction bs using List.reverseRecOn with
  | nil => simp [ofBytes]
  | append_singleton bs b ih =>
    rw [ofBytes_append, List.length_append, List.length_singleton, Nat.pow_succ]
    have := b.isLt
    omega

/-- What was packed is unpacked (R169). -/
theorem unpack_pack (ws ns : List Nat) (h : fitsAll ws ns) : unpack ws (pack ws ns) = ns := by
  induction ws generalizing ns with
  | nil => cases ns with
    | nil => rfl
    | cons _ _ => simp [fitsAll] at h
  | cons w ws ih => cases ns with
    | nil => simp [fitsAll] at h
    | cons n ns =>
      simp only [fitsAll, fits, Bool.and_eq_true, decide_eq_true_eq] at h
      have l : (num w n).length = w := num_length w n
      simp only [pack, unpack]
      rw [List.take_append_of_le_length (by omega), List.take_of_length_le (by omega), ofBytes_num w n h.1,
        List.drop_append_of_le_length (by omega), List.drop_of_length_le (by omega), List.nil_append, ih ns h.2]

theorem pack_length (ws ns : List Nat) (h : fitsAll ws ns) : (pack ws ns).length = ws.sum := by
  induction ws generalizing ns with
  | nil => cases ns <;> rfl
  | cons w ws ih => cases ns with
    | nil => simp [fitsAll] at h
    | cons n ns =>
      simp only [fitsAll, Bool.and_eq_true] at h
      simp [pack, num_length, ih ns h.2]

/-- A field laid over a slot is what the field reads (R17, R19). -/
theorem bitField_overlay (v start width x : Nat) : bitField (overlay v start width x) start width = x % 2 ^ width := by
  have hs : v % 2 ^ start < 2 ^ start := Nat.mod_lt _ (by positivity)
  have e : overlay v start width x
      = v % 2 ^ start + 2 ^ start * (x % 2 ^ width + 2 ^ width * (v / 2 ^ (start + width))) := by
    unfold overlay; rw [Nat.pow_add]; ring
  rw [bitField, e, Nat.add_mul_div_left _ _ (by positivity), Nat.div_eq_of_lt hs, Nat.zero_add,
    Nat.add_mul_mod_self_left, Nat.mod_mod]

/-- The bits below a field laid over a slot stay as they were. -/
theorem overlay_below (v start width x : Nat) : overlay v start width x % 2 ^ start = v % 2 ^ start := by
  have e : overlay v start width x
      = v % 2 ^ start + 2 ^ start * (x % 2 ^ width + 2 ^ width * (v / 2 ^ (start + width))) := by
    unfold overlay; rw [Nat.pow_add]; ring
  rw [e, Nat.add_mul_mod_self_left, Nat.mod_mod]

end Sys2Proof.Machine
end

