-- ==== Sys2Proof/Laws/State.lean ====
section
/-! SUPPORT. What each small update of the state leaves alone and what it sets, field by field, for simp. -/

namespace Sys2Proof.Machine

/-! ### raise -/

@[simp] theorem raise_link (f : Flag) (s : State) : (raise f s).link = s.link := rfl
@[simp] theorem raise_lanes (f : Flag) (s : State) : (raise f s).lanes = s.lanes := rfl
@[simp] theorem raise_channels (f : Flag) (s : State) : (raise f s).channels = s.channels := rfl
@[simp] theorem raise_presets (f : Flag) (s : State) : (raise f s).presets = s.presets := rfl
@[simp] theorem raise_trackers (f : Flag) (s : State) : (raise f s).trackers = s.trackers := rfl
@[simp] theorem raise_main (f : Flag) (s : State) : (raise f s).main = s.main := rfl
@[simp] theorem raise_selector (f : Flag) (s : State) : (raise f s).selector = s.selector := rfl
@[simp] theorem raise_regenRotor (f : Flag) (s : State) : (raise f s).regenRotor = s.regenRotor := rfl
@[simp] theorem raise_filterRotor (f : Flag) (s : State) : (raise f s).filterRotor = s.filterRotor := rfl
@[simp] theorem raise_drain (f : Flag) (s : State) : (raise f s).drain = s.drain := rfl
@[simp] theorem raise_acc (f : Flag) (s : State) : (raise f s).acc = s.acc := rfl
@[simp] theorem raise_rgs (f : Flag) (s : State) : (raise f s).rgs = s.rgs := rfl
@[simp] theorem raise_slt (f : Flag) (s : State) : (raise f s).slt = s.slt := rfl
@[simp] theorem raise_flt (f : Flag) (s : State) : (raise f s).flt = s.flt := rfl
@[simp] theorem raise_lkg (f : Flag) (s : State) : (raise f s).lkg = s.lkg := rfl
@[simp] theorem raise_choices (f : Flag) (s : State) : (raise f s).choices = s.choices := rfl
@[simp] theorem raise_pending (f : Flag) (s : State) : (raise f s).pending = s.pending := rfl

/-! ### raiseIf -/

@[simp] theorem raiseIf_link (b : Bool) (f : Flag) (s : State) : (raiseIf b f s).link = s.link := by
  unfold raiseIf; split <;> rfl
@[simp] theorem raiseIf_lanes (b : Bool) (f : Flag) (s : State) : (raiseIf b f s).lanes = s.lanes := by
  unfold raiseIf; split <;> rfl
@[simp] theorem raiseIf_channels (b : Bool) (f : Flag) (s : State) : (raiseIf b f s).channels = s.channels := by
  unfold raiseIf; split <;> rfl
@[simp] theorem raiseIf_presets (b : Bool) (f : Flag) (s : State) : (raiseIf b f s).presets = s.presets := by
  unfold raiseIf; split <;> rfl
@[simp] theorem raiseIf_trackers (b : Bool) (f : Flag) (s : State) : (raiseIf b f s).trackers = s.trackers := by
  unfold raiseIf; split <;> rfl
@[simp] theorem raiseIf_main (b : Bool) (f : Flag) (s : State) : (raiseIf b f s).main = s.main := by
  unfold raiseIf; split <;> rfl
@[simp] theorem raiseIf_selector (b : Bool) (f : Flag) (s : State) : (raiseIf b f s).selector = s.selector := by
  unfold raiseIf; split <;> rfl
@[simp] theorem raiseIf_regenRotor (b : Bool) (f : Flag) (s : State) : (raiseIf b f s).regenRotor = s.regenRotor := by
  unfold raiseIf; split <;> rfl
@[simp] theorem raiseIf_filterRotor (b : Bool) (f : Flag) (s : State) : (raiseIf b f s).filterRotor = s.filterRotor := by
  unfold raiseIf; split <;> rfl
@[simp] theorem raiseIf_drain (b : Bool) (f : Flag) (s : State) : (raiseIf b f s).drain = s.drain := by
  unfold raiseIf; split <;> rfl
@[simp] theorem raiseIf_acc (b : Bool) (f : Flag) (s : State) : (raiseIf b f s).acc = s.acc := by
  unfold raiseIf; split <;> rfl
@[simp] theorem raiseIf_rgs (b : Bool) (f : Flag) (s : State) : (raiseIf b f s).rgs = s.rgs := by
  unfold raiseIf; split <;> rfl
@[simp] theorem raiseIf_slt (b : Bool) (f : Flag) (s : State) : (raiseIf b f s).slt = s.slt := by
  unfold raiseIf; split <;> rfl
@[simp] theorem raiseIf_flt (b : Bool) (f : Flag) (s : State) : (raiseIf b f s).flt = s.flt := by
  unfold raiseIf; split <;> rfl
@[simp] theorem raiseIf_lkg (b : Bool) (f : Flag) (s : State) : (raiseIf b f s).lkg = s.lkg := by
  unfold raiseIf; split <;> rfl
@[simp] theorem raiseIf_choices (b : Bool) (f : Flag) (s : State) : (raiseIf b f s).choices = s.choices := by
  unfold raiseIf; split <;> rfl
@[simp] theorem raiseIf_pending (b : Bool) (f : Flag) (s : State) : (raiseIf b f s).pending = s.pending := by
  unfold raiseIf; split <;> rfl

/-! ### clearFlags -/

@[simp] theorem clearFlags_link (lo hi : Byte) (s : State) : (clearFlags lo hi s).link = s.link := rfl
@[simp] theorem clearFlags_lanes (lo hi : Byte) (s : State) : (clearFlags lo hi s).lanes = s.lanes := rfl
@[simp] theorem clearFlags_channels (lo hi : Byte) (s : State) : (clearFlags lo hi s).channels = s.channels := rfl
@[simp] theorem clearFlags_presets (lo hi : Byte) (s : State) : (clearFlags lo hi s).presets = s.presets := rfl
@[simp] theorem clearFlags_trackers (lo hi : Byte) (s : State) : (clearFlags lo hi s).trackers = s.trackers := rfl
@[simp] theorem clearFlags_main (lo hi : Byte) (s : State) : (clearFlags lo hi s).main = s.main := rfl
@[simp] theorem clearFlags_selector (lo hi : Byte) (s : State) : (clearFlags lo hi s).selector = s.selector := rfl
@[simp] theorem clearFlags_regenRotor (lo hi : Byte) (s : State) : (clearFlags lo hi s).regenRotor = s.regenRotor := rfl
@[simp] theorem clearFlags_filterRotor (lo hi : Byte) (s : State) : (clearFlags lo hi s).filterRotor = s.filterRotor := rfl
@[simp] theorem clearFlags_drain (lo hi : Byte) (s : State) : (clearFlags lo hi s).drain = s.drain := rfl
@[simp] theorem clearFlags_acc (lo hi : Byte) (s : State) : (clearFlags lo hi s).acc = s.acc := rfl
@[simp] theorem clearFlags_rgs (lo hi : Byte) (s : State) : (clearFlags lo hi s).rgs = s.rgs := rfl
@[simp] theorem clearFlags_slt (lo hi : Byte) (s : State) : (clearFlags lo hi s).slt = s.slt := rfl
@[simp] theorem clearFlags_flt (lo hi : Byte) (s : State) : (clearFlags lo hi s).flt = s.flt := rfl
@[simp] theorem clearFlags_lkg (lo hi : Byte) (s : State) : (clearFlags lo hi s).lkg = s.lkg := rfl
@[simp] theorem clearFlags_choices (lo hi : Byte) (s : State) : (clearFlags lo hi s).choices = s.choices := rfl
@[simp] theorem clearFlags_pending (lo hi : Byte) (s : State) : (clearFlags lo hi s).pending = s.pending := rfl

/-! ### offerFault -/

@[simp] theorem offerFault_link (k : FaultKind) (n : Nat) (d : Vector Byte 4) (s : State) : (offerFault k n d s).link = s.link := by
  unfold offerFault; split <;> rfl
@[simp] theorem offerFault_lanes (k : FaultKind) (n : Nat) (d : Vector Byte 4) (s : State) : (offerFault k n d s).lanes = s.lanes := by
  unfold offerFault; split <;> rfl
@[simp] theorem offerFault_channels (k : FaultKind) (n : Nat) (d : Vector Byte 4) (s : State) : (offerFault k n d s).channels = s.channels := by
  unfold offerFault; split <;> rfl
@[simp] theorem offerFault_presets (k : FaultKind) (n : Nat) (d : Vector Byte 4) (s : State) : (offerFault k n d s).presets = s.presets := by
  unfold offerFault; split <;> rfl
@[simp] theorem offerFault_trackers (k : FaultKind) (n : Nat) (d : Vector Byte 4) (s : State) : (offerFault k n d s).trackers = s.trackers := by
  unfold offerFault; split <;> rfl
@[simp] theorem offerFault_main (k : FaultKind) (n : Nat) (d : Vector Byte 4) (s : State) : (offerFault k n d s).main = s.main := by
  unfold offerFault; split <;> rfl
@[simp] theorem offerFault_selector (k : FaultKind) (n : Nat) (d : Vector Byte 4) (s : State) : (offerFault k n d s).selector = s.selector := by
  unfold offerFault; split <;> rfl
@[simp] theorem offerFault_regenRotor (k : FaultKind) (n : Nat) (d : Vector Byte 4) (s : State) : (offerFault k n d s).regenRotor = s.regenRotor := by
  unfold offerFault; split <;> rfl
@[simp] theorem offerFault_filterRotor (k : FaultKind) (n : Nat) (d : Vector Byte 4) (s : State) : (offerFault k n d s).filterRotor = s.filterRotor := by
  unfold offerFault; split <;> rfl
@[simp] theorem offerFault_drain (k : FaultKind) (n : Nat) (d : Vector Byte 4) (s : State) : (offerFault k n d s).drain = s.drain := by
  unfold offerFault; split <;> rfl
@[simp] theorem offerFault_acc (k : FaultKind) (n : Nat) (d : Vector Byte 4) (s : State) : (offerFault k n d s).acc = s.acc := by
  unfold offerFault; split <;> rfl
@[simp] theorem offerFault_rgs (k : FaultKind) (n : Nat) (d : Vector Byte 4) (s : State) : (offerFault k n d s).rgs = s.rgs := by
  unfold offerFault; split <;> rfl
@[simp] theorem offerFault_slt (k : FaultKind) (n : Nat) (d : Vector Byte 4) (s : State) : (offerFault k n d s).slt = s.slt := by
  unfold offerFault; split <;> rfl
@[simp] theorem offerFault_flt (k : FaultKind) (n : Nat) (d : Vector Byte 4) (s : State) : (offerFault k n d s).flt = s.flt := by
  unfold offerFault; split <;> rfl
@[simp] theorem offerFault_lkg (k : FaultKind) (n : Nat) (d : Vector Byte 4) (s : State) : (offerFault k n d s).lkg = s.lkg := by
  unfold offerFault; split <;> rfl
@[simp] theorem offerFault_choices (k : FaultKind) (n : Nat) (d : Vector Byte 4) (s : State) : (offerFault k n d s).choices = s.choices := by
  unfold offerFault; split <;> rfl
@[simp] theorem offerFault_pending (k : FaultKind) (n : Nat) (d : Vector Byte 4) (s : State) : (offerFault k n d s).pending = s.pending := by
  unfold offerFault; split <;> rfl

/-! ### pushReply -/

@[simp] theorem pushReply_link (tag : Byte) (body : List Byte) (s : State) : (pushReply tag body s).link = s.link := rfl
@[simp] theorem pushReply_lanes (tag : Byte) (body : List Byte) (s : State) : (pushReply tag body s).lanes = s.lanes := rfl
@[simp] theorem pushReply_channels (tag : Byte) (body : List Byte) (s : State) : (pushReply tag body s).channels = s.channels := rfl
@[simp] theorem pushReply_presets (tag : Byte) (body : List Byte) (s : State) : (pushReply tag body s).presets = s.presets := rfl
@[simp] theorem pushReply_trackers (tag : Byte) (body : List Byte) (s : State) : (pushReply tag body s).trackers = s.trackers := rfl
@[simp] theorem pushReply_main (tag : Byte) (body : List Byte) (s : State) : (pushReply tag body s).main = s.main := rfl
@[simp] theorem pushReply_selector (tag : Byte) (body : List Byte) (s : State) : (pushReply tag body s).selector = s.selector := rfl
@[simp] theorem pushReply_regenRotor (tag : Byte) (body : List Byte) (s : State) : (pushReply tag body s).regenRotor = s.regenRotor := rfl
@[simp] theorem pushReply_filterRotor (tag : Byte) (body : List Byte) (s : State) : (pushReply tag body s).filterRotor = s.filterRotor := rfl
@[simp] theorem pushReply_drain (tag : Byte) (body : List Byte) (s : State) : (pushReply tag body s).drain = s.drain := rfl
@[simp] theorem pushReply_acc (tag : Byte) (body : List Byte) (s : State) : (pushReply tag body s).acc = s.acc := rfl
@[simp] theorem pushReply_rgs (tag : Byte) (body : List Byte) (s : State) : (pushReply tag body s).rgs = s.rgs := rfl
@[simp] theorem pushReply_slt (tag : Byte) (body : List Byte) (s : State) : (pushReply tag body s).slt = s.slt := rfl
@[simp] theorem pushReply_flt (tag : Byte) (body : List Byte) (s : State) : (pushReply tag body s).flt = s.flt := rfl
@[simp] theorem pushReply_lkg (tag : Byte) (body : List Byte) (s : State) : (pushReply tag body s).lkg = s.lkg := rfl
@[simp] theorem pushReply_choices (tag : Byte) (body : List Byte) (s : State) : (pushReply tag body s).choices = s.choices := rfl
@[simp] theorem pushReply_pending (tag : Byte) (body : List Byte) (s : State) : (pushReply tag body s).pending = s.pending := rfl

/-! ### setReceiver -/

@[simp] theorem setReceiver_link (r : ReqReceiver) (s : State) : (setReceiver r s).link = s.link := rfl
@[simp] theorem setReceiver_lanes (r : ReqReceiver) (s : State) : (setReceiver r s).lanes = s.lanes := rfl
@[simp] theorem setReceiver_channels (r : ReqReceiver) (s : State) : (setReceiver r s).channels = s.channels := rfl
@[simp] theorem setReceiver_presets (r : ReqReceiver) (s : State) : (setReceiver r s).presets = s.presets := rfl
@[simp] theorem setReceiver_trackers (r : ReqReceiver) (s : State) : (setReceiver r s).trackers = s.trackers := rfl
@[simp] theorem setReceiver_main (r : ReqReceiver) (s : State) : (setReceiver r s).main = s.main := rfl
@[simp] theorem setReceiver_selector (r : ReqReceiver) (s : State) : (setReceiver r s).selector = s.selector := rfl
@[simp] theorem setReceiver_regenRotor (r : ReqReceiver) (s : State) : (setReceiver r s).regenRotor = s.regenRotor := rfl
@[simp] theorem setReceiver_filterRotor (r : ReqReceiver) (s : State) : (setReceiver r s).filterRotor = s.filterRotor := rfl
@[simp] theorem setReceiver_drain (r : ReqReceiver) (s : State) : (setReceiver r s).drain = s.drain := rfl
@[simp] theorem setReceiver_acc (r : ReqReceiver) (s : State) : (setReceiver r s).acc = s.acc := rfl
@[simp] theorem setReceiver_rgs (r : ReqReceiver) (s : State) : (setReceiver r s).rgs = s.rgs := rfl
@[simp] theorem setReceiver_slt (r : ReqReceiver) (s : State) : (setReceiver r s).slt = s.slt := rfl
@[simp] theorem setReceiver_flt (r : ReqReceiver) (s : State) : (setReceiver r s).flt = s.flt := rfl
@[simp] theorem setReceiver_lkg (r : ReqReceiver) (s : State) : (setReceiver r s).lkg = s.lkg := rfl
@[simp] theorem setReceiver_choices (r : ReqReceiver) (s : State) : (setReceiver r s).choices = s.choices := rfl
@[simp] theorem setReceiver_pending (r : ReqReceiver) (s : State) : (setReceiver r s).pending = s.pending := rfl

/-! ### setTracker -/

@[simp] theorem setTracker_link (i : Fin 7) (x : Tracker) (s : State) : (setTracker i x s).link = s.link := rfl
@[simp] theorem setTracker_lanes (i : Fin 7) (x : Tracker) (s : State) : (setTracker i x s).lanes = s.lanes := rfl
@[simp] theorem setTracker_channels (i : Fin 7) (x : Tracker) (s : State) : (setTracker i x s).channels = s.channels := rfl
@[simp] theorem setTracker_presets (i : Fin 7) (x : Tracker) (s : State) : (setTracker i x s).presets = s.presets := rfl
@[simp] theorem setTracker_main (i : Fin 7) (x : Tracker) (s : State) : (setTracker i x s).main = s.main := rfl
@[simp] theorem setTracker_selector (i : Fin 7) (x : Tracker) (s : State) : (setTracker i x s).selector = s.selector := rfl
@[simp] theorem setTracker_regenRotor (i : Fin 7) (x : Tracker) (s : State) : (setTracker i x s).regenRotor = s.regenRotor := rfl
@[simp] theorem setTracker_filterRotor (i : Fin 7) (x : Tracker) (s : State) : (setTracker i x s).filterRotor = s.filterRotor := rfl
@[simp] theorem setTracker_drain (i : Fin 7) (x : Tracker) (s : State) : (setTracker i x s).drain = s.drain := rfl
@[simp] theorem setTracker_acc (i : Fin 7) (x : Tracker) (s : State) : (setTracker i x s).acc = s.acc := rfl
@[simp] theorem setTracker_rgs (i : Fin 7) (x : Tracker) (s : State) : (setTracker i x s).rgs = s.rgs := rfl
@[simp] theorem setTracker_slt (i : Fin 7) (x : Tracker) (s : State) : (setTracker i x s).slt = s.slt := rfl
@[simp] theorem setTracker_flt (i : Fin 7) (x : Tracker) (s : State) : (setTracker i x s).flt = s.flt := rfl
@[simp] theorem setTracker_lkg (i : Fin 7) (x : Tracker) (s : State) : (setTracker i x s).lkg = s.lkg := rfl
@[simp] theorem setTracker_mgu (i : Fin 7) (x : Tracker) (s : State) : (setTracker i x s).mgu = s.mgu := rfl
@[simp] theorem setTracker_choices (i : Fin 7) (x : Tracker) (s : State) : (setTracker i x s).choices = s.choices := rfl
@[simp] theorem setTracker_pending (i : Fin 7) (x : Tracker) (s : State) : (setTracker i x s).pending = s.pending := rfl

/-! ### setChannel -/

@[simp] theorem setChannel_link (i : Fin 8) (x : Channel) (s : State) : (setChannel i x s).link = s.link := rfl
@[simp] theorem setChannel_lanes (i : Fin 8) (x : Channel) (s : State) : (setChannel i x s).lanes = s.lanes := rfl
@[simp] theorem setChannel_presets (i : Fin 8) (x : Channel) (s : State) : (setChannel i x s).presets = s.presets := rfl
@[simp] theorem setChannel_trackers (i : Fin 8) (x : Channel) (s : State) : (setChannel i x s).trackers = s.trackers := rfl
@[simp] theorem setChannel_main (i : Fin 8) (x : Channel) (s : State) : (setChannel i x s).main = s.main := rfl
@[simp] theorem setChannel_selector (i : Fin 8) (x : Channel) (s : State) : (setChannel i x s).selector = s.selector := rfl
@[simp] theorem setChannel_regenRotor (i : Fin 8) (x : Channel) (s : State) : (setChannel i x s).regenRotor = s.regenRotor := rfl
@[simp] theorem setChannel_filterRotor (i : Fin 8) (x : Channel) (s : State) : (setChannel i x s).filterRotor = s.filterRotor := rfl
@[simp] theorem setChannel_drain (i : Fin 8) (x : Channel) (s : State) : (setChannel i x s).drain = s.drain := rfl
@[simp] theorem setChannel_acc (i : Fin 8) (x : Channel) (s : State) : (setChannel i x s).acc = s.acc := rfl
@[simp] theorem setChannel_rgs (i : Fin 8) (x : Channel) (s : State) : (setChannel i x s).rgs = s.rgs := rfl
@[simp] theorem setChannel_slt (i : Fin 8) (x : Channel) (s : State) : (setChannel i x s).slt = s.slt := rfl
@[simp] theorem setChannel_flt (i : Fin 8) (x : Channel) (s : State) : (setChannel i x s).flt = s.flt := rfl
@[simp] theorem setChannel_lkg (i : Fin 8) (x : Channel) (s : State) : (setChannel i x s).lkg = s.lkg := rfl
@[simp] theorem setChannel_mgu (i : Fin 8) (x : Channel) (s : State) : (setChannel i x s).mgu = s.mgu := rfl
@[simp] theorem setChannel_choices (i : Fin 8) (x : Channel) (s : State) : (setChannel i x s).choices = s.choices := rfl
@[simp] theorem setChannel_pending (i : Fin 8) (x : Channel) (s : State) : (setChannel i x s).pending = s.pending := rfl

/-! ### setAct -/

@[simp] theorem setAct_link (a : Actr) (x : Actuator) (s : State) : (setAct a x s).link = s.link := by cases a <;> rfl
@[simp] theorem setAct_lanes (a : Actr) (x : Actuator) (s : State) : (setAct a x s).lanes = s.lanes := by cases a <;> rfl
@[simp] theorem setAct_channels (a : Actr) (x : Actuator) (s : State) : (setAct a x s).channels = s.channels := by cases a <;> rfl
@[simp] theorem setAct_presets (a : Actr) (x : Actuator) (s : State) : (setAct a x s).presets = s.presets := by cases a <;> rfl
@[simp] theorem setAct_trackers (a : Actr) (x : Actuator) (s : State) : (setAct a x s).trackers = s.trackers := by cases a <;> rfl
@[simp] theorem setAct_drain (a : Actr) (x : Actuator) (s : State) : (setAct a x s).drain = s.drain := by cases a <;> rfl
@[simp] theorem setAct_acc (a : Actr) (x : Actuator) (s : State) : (setAct a x s).acc = s.acc := by cases a <;> rfl
@[simp] theorem setAct_rgs (a : Actr) (x : Actuator) (s : State) : (setAct a x s).rgs = s.rgs := by cases a <;> rfl
@[simp] theorem setAct_slt (a : Actr) (x : Actuator) (s : State) : (setAct a x s).slt = s.slt := by cases a <;> rfl
@[simp] theorem setAct_flt (a : Actr) (x : Actuator) (s : State) : (setAct a x s).flt = s.flt := by cases a <;> rfl
@[simp] theorem setAct_lkg (a : Actr) (x : Actuator) (s : State) : (setAct a x s).lkg = s.lkg := by cases a <;> rfl
@[simp] theorem setAct_mgu (a : Actr) (x : Actuator) (s : State) : (setAct a x s).mgu = s.mgu := by cases a <;> rfl
@[simp] theorem setAct_choices (a : Actr) (x : Actuator) (s : State) : (setAct a x s).choices = s.choices := by cases a <;> rfl
@[simp] theorem setAct_pending (a : Actr) (x : Actuator) (s : State) : (setAct a x s).pending = s.pending := by cases a <;> rfl

/-! ### setRun -/

@[simp] theorem setRun_link (a : Actr) (r : ActuatorRun) (s : State) : (setRun a r s).link = s.link := by cases a <;> rfl
@[simp] theorem setRun_lanes (a : Actr) (r : ActuatorRun) (s : State) : (setRun a r s).lanes = s.lanes := by cases a <;> rfl
@[simp] theorem setRun_channels (a : Actr) (r : ActuatorRun) (s : State) : (setRun a r s).channels = s.channels := by cases a <;> rfl
@[simp] theorem setRun_presets (a : Actr) (r : ActuatorRun) (s : State) : (setRun a r s).presets = s.presets := by cases a <;> rfl
@[simp] theorem setRun_trackers (a : Actr) (r : ActuatorRun) (s : State) : (setRun a r s).trackers = s.trackers := by cases a <;> rfl
@[simp] theorem setRun_drain (a : Actr) (r : ActuatorRun) (s : State) : (setRun a r s).drain = s.drain := by cases a <;> rfl
@[simp] theorem setRun_acc (a : Actr) (r : ActuatorRun) (s : State) : (setRun a r s).acc = s.acc := by cases a <;> rfl
@[simp] theorem setRun_rgs (a : Actr) (r : ActuatorRun) (s : State) : (setRun a r s).rgs = s.rgs := by cases a <;> rfl
@[simp] theorem setRun_slt (a : Actr) (r : ActuatorRun) (s : State) : (setRun a r s).slt = s.slt := by cases a <;> rfl
@[simp] theorem setRun_flt (a : Actr) (r : ActuatorRun) (s : State) : (setRun a r s).flt = s.flt := by cases a <;> rfl
@[simp] theorem setRun_lkg (a : Actr) (r : ActuatorRun) (s : State) : (setRun a r s).lkg = s.lkg := by cases a <;> rfl
@[simp] theorem setRun_mgu (a : Actr) (r : ActuatorRun) (s : State) : (setRun a r s).mgu = s.mgu := by cases a <;> rfl
@[simp] theorem setRun_choices (a : Actr) (r : ActuatorRun) (s : State) : (setRun a r s).choices = s.choices := by cases a <;> rfl
@[simp] theorem setRun_pending (a : Actr) (r : ActuatorRun) (s : State) : (setRun a r s).pending = s.pending := by cases a <;> rfl

/-! ### actRequest -/

@[simp] theorem actRequest_link (a : Actr) (p : Pos) (s : State) : (actRequest a p s).link = s.link := by cases a <;> rfl
@[simp] theorem actRequest_lanes (a : Actr) (p : Pos) (s : State) : (actRequest a p s).lanes = s.lanes := by cases a <;> rfl
@[simp] theorem actRequest_channels (a : Actr) (p : Pos) (s : State) : (actRequest a p s).channels = s.channels := by cases a <;> rfl
@[simp] theorem actRequest_presets (a : Actr) (p : Pos) (s : State) : (actRequest a p s).presets = s.presets := by cases a <;> rfl
@[simp] theorem actRequest_trackers (a : Actr) (p : Pos) (s : State) : (actRequest a p s).trackers = s.trackers := by cases a <;> rfl
@[simp] theorem actRequest_drain (a : Actr) (p : Pos) (s : State) : (actRequest a p s).drain = s.drain := by cases a <;> rfl
@[simp] theorem actRequest_acc (a : Actr) (p : Pos) (s : State) : (actRequest a p s).acc = s.acc := by cases a <;> rfl
@[simp] theorem actRequest_rgs (a : Actr) (p : Pos) (s : State) : (actRequest a p s).rgs = s.rgs := by cases a <;> rfl
@[simp] theorem actRequest_slt (a : Actr) (p : Pos) (s : State) : (actRequest a p s).slt = s.slt := by cases a <;> rfl
@[simp] theorem actRequest_flt (a : Actr) (p : Pos) (s : State) : (actRequest a p s).flt = s.flt := by cases a <;> rfl
@[simp] theorem actRequest_lkg (a : Actr) (p : Pos) (s : State) : (actRequest a p s).lkg = s.lkg := by cases a <;> rfl
@[simp] theorem actRequest_mgu (a : Actr) (p : Pos) (s : State) : (actRequest a p s).mgu = s.mgu := by cases a <;> rfl
@[simp] theorem actRequest_choices (a : Actr) (p : Pos) (s : State) : (actRequest a p s).choices = s.choices := by cases a <;> rfl
@[simp] theorem actRequest_pending (a : Actr) (p : Pos) (s : State) : (actRequest a p s).pending = s.pending := by cases a <;> rfl

/-! ### setTank -/

@[simp] theorem setTank_link (t : TankId) (x : Tank) (s : State) : (setTank t x s).link = s.link := by
  cases t <;> (unfold setTank raiseIf; split <;> rfl)
@[simp] theorem setTank_lanes (t : TankId) (x : Tank) (s : State) : (setTank t x s).lanes = s.lanes := by
  cases t <;> (unfold setTank raiseIf; split <;> rfl)
@[simp] theorem setTank_channels (t : TankId) (x : Tank) (s : State) : (setTank t x s).channels = s.channels := by
  cases t <;> (unfold setTank raiseIf; split <;> rfl)
@[simp] theorem setTank_presets (t : TankId) (x : Tank) (s : State) : (setTank t x s).presets = s.presets := by
  cases t <;> (unfold setTank raiseIf; split <;> rfl)
@[simp] theorem setTank_trackers (t : TankId) (x : Tank) (s : State) : (setTank t x s).trackers = s.trackers := by
  cases t <;> (unfold setTank raiseIf; split <;> rfl)
@[simp] theorem setTank_main (t : TankId) (x : Tank) (s : State) : (setTank t x s).main = s.main := by
  cases t <;> (unfold setTank raiseIf; split <;> rfl)
@[simp] theorem setTank_selector (t : TankId) (x : Tank) (s : State) : (setTank t x s).selector = s.selector := by
  cases t <;> (unfold setTank raiseIf; split <;> rfl)
@[simp] theorem setTank_regenRotor (t : TankId) (x : Tank) (s : State) : (setTank t x s).regenRotor = s.regenRotor := by
  cases t <;> (unfold setTank raiseIf; split <;> rfl)
@[simp] theorem setTank_filterRotor (t : TankId) (x : Tank) (s : State) : (setTank t x s).filterRotor = s.filterRotor := by
  cases t <;> (unfold setTank raiseIf; split <;> rfl)
@[simp] theorem setTank_drain (t : TankId) (x : Tank) (s : State) : (setTank t x s).drain = s.drain := by
  cases t <;> (unfold setTank raiseIf; split <;> rfl)
@[simp] theorem setTank_acc (t : TankId) (x : Tank) (s : State) : (setTank t x s).acc = s.acc := by
  cases t <;> (unfold setTank raiseIf; split <;> rfl)
@[simp] theorem setTank_slt (t : TankId) (x : Tank) (s : State) : (setTank t x s).slt = s.slt := by
  cases t <;> (unfold setTank raiseIf; split <;> rfl)
@[simp] theorem setTank_flt (t : TankId) (x : Tank) (s : State) : (setTank t x s).flt = s.flt := by
  cases t <;> (unfold setTank raiseIf; split <;> rfl)
@[simp] theorem setTank_lkg (t : TankId) (x : Tank) (s : State) : (setTank t x s).lkg = s.lkg := by
  cases t <;> (unfold setTank raiseIf; split <;> rfl)
@[simp] theorem setTank_choices (t : TankId) (x : Tank) (s : State) : (setTank t x s).choices = s.choices := by
  cases t <;> (unfold setTank raiseIf; split <;> rfl)
@[simp] theorem setTank_pending (t : TankId) (x : Tank) (s : State) : (setTank t x s).pending = s.pending := by
  cases t <;> (unfold setTank raiseIf; split <;> rfl)

/-! ### setAllowance -/

@[simp] theorem setAllowance_link (n : Nat) (q : Option Requester) (s : State) : (setAllowance n q s).link = s.link := by
  unfold setAllowance; split <;> rfl
@[simp] theorem setAllowance_lanes (n : Nat) (q : Option Requester) (s : State) : (setAllowance n q s).lanes = s.lanes := by
  unfold setAllowance; split <;> rfl
@[simp] theorem setAllowance_channels (n : Nat) (q : Option Requester) (s : State) : (setAllowance n q s).channels = s.channels := by
  unfold setAllowance; split <;> rfl
@[simp] theorem setAllowance_presets (n : Nat) (q : Option Requester) (s : State) : (setAllowance n q s).presets = s.presets := by
  unfold setAllowance; split <;> rfl
@[simp] theorem setAllowance_trackers (n : Nat) (q : Option Requester) (s : State) : (setAllowance n q s).trackers = s.trackers := by
  unfold setAllowance; split <;> rfl
@[simp] theorem setAllowance_main (n : Nat) (q : Option Requester) (s : State) : (setAllowance n q s).main = s.main := by
  unfold setAllowance; split <;> rfl
@[simp] theorem setAllowance_selector (n : Nat) (q : Option Requester) (s : State) : (setAllowance n q s).selector = s.selector := by
  unfold setAllowance; split <;> rfl
@[simp] theorem setAllowance_regenRotor (n : Nat) (q : Option Requester) (s : State) : (setAllowance n q s).regenRotor = s.regenRotor := by
  unfold setAllowance; split <;> rfl
@[simp] theorem setAllowance_filterRotor (n : Nat) (q : Option Requester) (s : State) : (setAllowance n q s).filterRotor = s.filterRotor := by
  unfold setAllowance; split <;> rfl
@[simp] theorem setAllowance_rgs (n : Nat) (q : Option Requester) (s : State) : (setAllowance n q s).rgs = s.rgs := by
  unfold setAllowance; split <;> rfl
@[simp] theorem setAllowance_slt (n : Nat) (q : Option Requester) (s : State) : (setAllowance n q s).slt = s.slt := by
  unfold setAllowance; split <;> rfl
@[simp] theorem setAllowance_flt (n : Nat) (q : Option Requester) (s : State) : (setAllowance n q s).flt = s.flt := by
  unfold setAllowance; split <;> rfl
@[simp] theorem setAllowance_lkg (n : Nat) (q : Option Requester) (s : State) : (setAllowance n q s).lkg = s.lkg := by
  unfold setAllowance; split <;> rfl
@[simp] theorem setAllowance_mgu (n : Nat) (q : Option Requester) (s : State) : (setAllowance n q s).mgu = s.mgu := by
  unfold setAllowance; split <;> rfl
@[simp] theorem setAllowance_choices (n : Nat) (q : Option Requester) (s : State) : (setAllowance n q s).choices = s.choices := by
  unfold setAllowance; split <;> rfl
@[simp] theorem setAllowance_pending (n : Nat) (q : Option Requester) (s : State) : (setAllowance n q s).pending = s.pending := by
  unfold setAllowance; split <;> rfl

/-! ### setSalt -/

@[simp] theorem setSalt_link (x : Salt) (s : State) : (setSalt x s).link = s.link := by
  unfold setSalt raiseIf; split <;> rfl
@[simp] theorem setSalt_lanes (x : Salt) (s : State) : (setSalt x s).lanes = s.lanes := by
  unfold setSalt raiseIf; split <;> rfl
@[simp] theorem setSalt_channels (x : Salt) (s : State) : (setSalt x s).channels = s.channels := by
  unfold setSalt raiseIf; split <;> rfl
@[simp] theorem setSalt_presets (x : Salt) (s : State) : (setSalt x s).presets = s.presets := by
  unfold setSalt raiseIf; split <;> rfl
@[simp] theorem setSalt_trackers (x : Salt) (s : State) : (setSalt x s).trackers = s.trackers := by
  unfold setSalt raiseIf; split <;> rfl
@[simp] theorem setSalt_main (x : Salt) (s : State) : (setSalt x s).main = s.main := by
  unfold setSalt raiseIf; split <;> rfl
@[simp] theorem setSalt_selector (x : Salt) (s : State) : (setSalt x s).selector = s.selector := by
  unfold setSalt raiseIf; split <;> rfl
@[simp] theorem setSalt_regenRotor (x : Salt) (s : State) : (setSalt x s).regenRotor = s.regenRotor := by
  unfold setSalt raiseIf; split <;> rfl
@[simp] theorem setSalt_filterRotor (x : Salt) (s : State) : (setSalt x s).filterRotor = s.filterRotor := by
  unfold setSalt raiseIf; split <;> rfl
@[simp] theorem setSalt_drain (x : Salt) (s : State) : (setSalt x s).drain = s.drain := by
  unfold setSalt raiseIf; split <;> rfl
@[simp] theorem setSalt_acc (x : Salt) (s : State) : (setSalt x s).acc = s.acc := by
  unfold setSalt raiseIf; split <;> rfl
@[simp] theorem setSalt_rgs (x : Salt) (s : State) : (setSalt x s).rgs = s.rgs := by
  unfold setSalt raiseIf; split <;> rfl
@[simp] theorem setSalt_flt (x : Salt) (s : State) : (setSalt x s).flt = s.flt := by
  unfold setSalt raiseIf; split <;> rfl
@[simp] theorem setSalt_lkg (x : Salt) (s : State) : (setSalt x s).lkg = s.lkg := by
  unfold setSalt raiseIf; split <;> rfl
@[simp] theorem setSalt_choices (x : Salt) (s : State) : (setSalt x s).choices = s.choices := by
  unfold setSalt raiseIf; split <;> rfl
@[simp] theorem setSalt_pending (x : Salt) (s : State) : (setSalt x s).pending = s.pending := by
  unfold setSalt raiseIf; split <;> rfl

/-! ### setSeq -/

@[simp] theorem setSeq_link (q : SeqState) (s : State) : (setSeq q s).link = s.link := rfl
@[simp] theorem setSeq_lanes (q : SeqState) (s : State) : (setSeq q s).lanes = s.lanes := rfl
@[simp] theorem setSeq_channels (q : SeqState) (s : State) : (setSeq q s).channels = s.channels := rfl
@[simp] theorem setSeq_presets (q : SeqState) (s : State) : (setSeq q s).presets = s.presets := rfl
@[simp] theorem setSeq_trackers (q : SeqState) (s : State) : (setSeq q s).trackers = s.trackers := rfl
@[simp] theorem setSeq_main (q : SeqState) (s : State) : (setSeq q s).main = s.main := rfl
@[simp] theorem setSeq_selector (q : SeqState) (s : State) : (setSeq q s).selector = s.selector := rfl
@[simp] theorem setSeq_regenRotor (q : SeqState) (s : State) : (setSeq q s).regenRotor = s.regenRotor := rfl
@[simp] theorem setSeq_filterRotor (q : SeqState) (s : State) : (setSeq q s).filterRotor = s.filterRotor := rfl
@[simp] theorem setSeq_drain (q : SeqState) (s : State) : (setSeq q s).drain = s.drain := rfl
@[simp] theorem setSeq_acc (q : SeqState) (s : State) : (setSeq q s).acc = s.acc := rfl
@[simp] theorem setSeq_slt (q : SeqState) (s : State) : (setSeq q s).slt = s.slt := rfl
@[simp] theorem setSeq_flt (q : SeqState) (s : State) : (setSeq q s).flt = s.flt := rfl
@[simp] theorem setSeq_lkg (q : SeqState) (s : State) : (setSeq q s).lkg = s.lkg := rfl
@[simp] theorem setSeq_choices (q : SeqState) (s : State) : (setSeq q s).choices = s.choices := rfl
@[simp] theorem setSeq_pending (q : SeqState) (s : State) : (setSeq q s).pending = s.pending := rfl

/-! ### setRegenRun -/

@[simp] theorem setRegenRun_link (r : RegenRun) (s : State) : (setRegenRun r s).link = s.link := rfl
@[simp] theorem setRegenRun_lanes (r : RegenRun) (s : State) : (setRegenRun r s).lanes = s.lanes := rfl
@[simp] theorem setRegenRun_channels (r : RegenRun) (s : State) : (setRegenRun r s).channels = s.channels := rfl
@[simp] theorem setRegenRun_presets (r : RegenRun) (s : State) : (setRegenRun r s).presets = s.presets := rfl
@[simp] theorem setRegenRun_trackers (r : RegenRun) (s : State) : (setRegenRun r s).trackers = s.trackers := rfl
@[simp] theorem setRegenRun_main (r : RegenRun) (s : State) : (setRegenRun r s).main = s.main := rfl
@[simp] theorem setRegenRun_selector (r : RegenRun) (s : State) : (setRegenRun r s).selector = s.selector := rfl
@[simp] theorem setRegenRun_regenRotor (r : RegenRun) (s : State) : (setRegenRun r s).regenRotor = s.regenRotor := rfl
@[simp] theorem setRegenRun_filterRotor (r : RegenRun) (s : State) : (setRegenRun r s).filterRotor = s.filterRotor := rfl
@[simp] theorem setRegenRun_drain (r : RegenRun) (s : State) : (setRegenRun r s).drain = s.drain := rfl
@[simp] theorem setRegenRun_acc (r : RegenRun) (s : State) : (setRegenRun r s).acc = s.acc := rfl
@[simp] theorem setRegenRun_slt (r : RegenRun) (s : State) : (setRegenRun r s).slt = s.slt := rfl
@[simp] theorem setRegenRun_flt (r : RegenRun) (s : State) : (setRegenRun r s).flt = s.flt := rfl
@[simp] theorem setRegenRun_lkg (r : RegenRun) (s : State) : (setRegenRun r s).lkg = s.lkg := rfl
@[simp] theorem setRegenRun_mgu (r : RegenRun) (s : State) : (setRegenRun r s).mgu = s.mgu := rfl
@[simp] theorem setRegenRun_choices (r : RegenRun) (s : State) : (setRegenRun r s).choices = s.choices := rfl
@[simp] theorem setRegenRun_pending (r : RegenRun) (s : State) : (setRegenRun r s).pending = s.pending := rfl

/-! ### setMove -/

@[simp] theorem setMove_link (m : SelMove) (s : State) : (setMove m s).link = s.link := rfl
@[simp] theorem setMove_lanes (m : SelMove) (s : State) : (setMove m s).lanes = s.lanes := rfl
@[simp] theorem setMove_channels (m : SelMove) (s : State) : (setMove m s).channels = s.channels := rfl
@[simp] theorem setMove_presets (m : SelMove) (s : State) : (setMove m s).presets = s.presets := rfl
@[simp] theorem setMove_trackers (m : SelMove) (s : State) : (setMove m s).trackers = s.trackers := rfl
@[simp] theorem setMove_main (m : SelMove) (s : State) : (setMove m s).main = s.main := rfl
@[simp] theorem setMove_selector (m : SelMove) (s : State) : (setMove m s).selector = s.selector := rfl
@[simp] theorem setMove_regenRotor (m : SelMove) (s : State) : (setMove m s).regenRotor = s.regenRotor := rfl
@[simp] theorem setMove_filterRotor (m : SelMove) (s : State) : (setMove m s).filterRotor = s.filterRotor := rfl
@[simp] theorem setMove_drain (m : SelMove) (s : State) : (setMove m s).drain = s.drain := rfl
@[simp] theorem setMove_acc (m : SelMove) (s : State) : (setMove m s).acc = s.acc := rfl
@[simp] theorem setMove_slt (m : SelMove) (s : State) : (setMove m s).slt = s.slt := rfl
@[simp] theorem setMove_flt (m : SelMove) (s : State) : (setMove m s).flt = s.flt := rfl
@[simp] theorem setMove_lkg (m : SelMove) (s : State) : (setMove m s).lkg = s.lkg := rfl
@[simp] theorem setMove_mgu (m : SelMove) (s : State) : (setMove m s).mgu = s.mgu := rfl
@[simp] theorem setMove_choices (m : SelMove) (s : State) : (setMove m s).choices = s.choices := rfl
@[simp] theorem setMove_pending (m : SelMove) (s : State) : (setMove m s).pending = s.pending := rfl

/-! ### updateRecord -/

@[simp] theorem updateRecord_link (f : RegenRecord → RegenRecord) (s : State) : (updateRecord f s).link = s.link := rfl
@[simp] theorem updateRecord_lanes (f : RegenRecord → RegenRecord) (s : State) : (updateRecord f s).lanes = s.lanes := rfl
@[simp] theorem updateRecord_channels (f : RegenRecord → RegenRecord) (s : State) : (updateRecord f s).channels = s.channels := rfl
@[simp] theorem updateRecord_presets (f : RegenRecord → RegenRecord) (s : State) : (updateRecord f s).presets = s.presets := rfl
@[simp] theorem updateRecord_trackers (f : RegenRecord → RegenRecord) (s : State) : (updateRecord f s).trackers = s.trackers := rfl
@[simp] theorem updateRecord_main (f : RegenRecord → RegenRecord) (s : State) : (updateRecord f s).main = s.main := rfl
@[simp] theorem updateRecord_selector (f : RegenRecord → RegenRecord) (s : State) : (updateRecord f s).selector = s.selector := rfl
@[simp] theorem updateRecord_regenRotor (f : RegenRecord → RegenRecord) (s : State) : (updateRecord f s).regenRotor = s.regenRotor := rfl
@[simp] theorem updateRecord_filterRotor (f : RegenRecord → RegenRecord) (s : State) : (updateRecord f s).filterRotor = s.filterRotor := rfl
@[simp] theorem updateRecord_drain (f : RegenRecord → RegenRecord) (s : State) : (updateRecord f s).drain = s.drain := rfl
@[simp] theorem updateRecord_acc (f : RegenRecord → RegenRecord) (s : State) : (updateRecord f s).acc = s.acc := rfl
@[simp] theorem updateRecord_slt (f : RegenRecord → RegenRecord) (s : State) : (updateRecord f s).slt = s.slt := rfl
@[simp] theorem updateRecord_flt (f : RegenRecord → RegenRecord) (s : State) : (updateRecord f s).flt = s.flt := rfl
@[simp] theorem updateRecord_lkg (f : RegenRecord → RegenRecord) (s : State) : (updateRecord f s).lkg = s.lkg := rfl
@[simp] theorem updateRecord_mgu (f : RegenRecord → RegenRecord) (s : State) : (updateRecord f s).mgu = s.mgu := rfl
@[simp] theorem updateRecord_choices (f : RegenRecord → RegenRecord) (s : State) : (updateRecord f s).choices = s.choices := rfl
@[simp] theorem updateRecord_pending (f : RegenRecord → RegenRecord) (s : State) : (updateRecord f s).pending = s.pending := rfl

/-! ### recordEnd -/

@[simp] theorem recordEnd_link (o : RunOutcome) (s : State) : (recordEnd o s).link = s.link := rfl
@[simp] theorem recordEnd_lanes (o : RunOutcome) (s : State) : (recordEnd o s).lanes = s.lanes := rfl
@[simp] theorem recordEnd_channels (o : RunOutcome) (s : State) : (recordEnd o s).channels = s.channels := rfl
@[simp] theorem recordEnd_presets (o : RunOutcome) (s : State) : (recordEnd o s).presets = s.presets := rfl
@[simp] theorem recordEnd_trackers (o : RunOutcome) (s : State) : (recordEnd o s).trackers = s.trackers := rfl
@[simp] theorem recordEnd_main (o : RunOutcome) (s : State) : (recordEnd o s).main = s.main := rfl
@[simp] theorem recordEnd_selector (o : RunOutcome) (s : State) : (recordEnd o s).selector = s.selector := rfl
@[simp] theorem recordEnd_regenRotor (o : RunOutcome) (s : State) : (recordEnd o s).regenRotor = s.regenRotor := rfl
@[simp] theorem recordEnd_filterRotor (o : RunOutcome) (s : State) : (recordEnd o s).filterRotor = s.filterRotor := rfl
@[simp] theorem recordEnd_drain (o : RunOutcome) (s : State) : (recordEnd o s).drain = s.drain := rfl
@[simp] theorem recordEnd_acc (o : RunOutcome) (s : State) : (recordEnd o s).acc = s.acc := rfl
@[simp] theorem recordEnd_slt (o : RunOutcome) (s : State) : (recordEnd o s).slt = s.slt := rfl
@[simp] theorem recordEnd_flt (o : RunOutcome) (s : State) : (recordEnd o s).flt = s.flt := rfl
@[simp] theorem recordEnd_lkg (o : RunOutcome) (s : State) : (recordEnd o s).lkg = s.lkg := rfl
@[simp] theorem recordEnd_mgu (o : RunOutcome) (s : State) : (recordEnd o s).mgu = s.mgu := rfl
@[simp] theorem recordEnd_choices (o : RunOutcome) (s : State) : (recordEnd o s).choices = s.choices := rfl
@[simp] theorem recordEnd_pending (o : RunOutcome) (s : State) : (recordEnd o s).pending = s.pending := rfl

/-! ### setFlt -/

@[simp] theorem setFlt_link (q : SeqState) (s : State) : (setFlt q s).link = s.link := rfl
@[simp] theorem setFlt_lanes (q : SeqState) (s : State) : (setFlt q s).lanes = s.lanes := rfl
@[simp] theorem setFlt_channels (q : SeqState) (s : State) : (setFlt q s).channels = s.channels := rfl
@[simp] theorem setFlt_presets (q : SeqState) (s : State) : (setFlt q s).presets = s.presets := rfl
@[simp] theorem setFlt_trackers (q : SeqState) (s : State) : (setFlt q s).trackers = s.trackers := rfl
@[simp] theorem setFlt_main (q : SeqState) (s : State) : (setFlt q s).main = s.main := rfl
@[simp] theorem setFlt_selector (q : SeqState) (s : State) : (setFlt q s).selector = s.selector := rfl
@[simp] theorem setFlt_regenRotor (q : SeqState) (s : State) : (setFlt q s).regenRotor = s.regenRotor := rfl
@[simp] theorem setFlt_filterRotor (q : SeqState) (s : State) : (setFlt q s).filterRotor = s.filterRotor := rfl
@[simp] theorem setFlt_drain (q : SeqState) (s : State) : (setFlt q s).drain = s.drain := rfl
@[simp] theorem setFlt_acc (q : SeqState) (s : State) : (setFlt q s).acc = s.acc := rfl
@[simp] theorem setFlt_rgs (q : SeqState) (s : State) : (setFlt q s).rgs = s.rgs := rfl
@[simp] theorem setFlt_slt (q : SeqState) (s : State) : (setFlt q s).slt = s.slt := rfl
@[simp] theorem setFlt_lkg (q : SeqState) (s : State) : (setFlt q s).lkg = s.lkg := rfl
@[simp] theorem setFlt_choices (q : SeqState) (s : State) : (setFlt q s).choices = s.choices := rfl
@[simp] theorem setFlt_pending (q : SeqState) (s : State) : (setFlt q s).pending = s.pending := rfl

/-! ### setBwRun -/

@[simp] theorem setBwRun_link (r : BwRun) (s : State) : (setBwRun r s).link = s.link := rfl
@[simp] theorem setBwRun_lanes (r : BwRun) (s : State) : (setBwRun r s).lanes = s.lanes := rfl
@[simp] theorem setBwRun_channels (r : BwRun) (s : State) : (setBwRun r s).channels = s.channels := rfl
@[simp] theorem setBwRun_presets (r : BwRun) (s : State) : (setBwRun r s).presets = s.presets := rfl
@[simp] theorem setBwRun_trackers (r : BwRun) (s : State) : (setBwRun r s).trackers = s.trackers := rfl
@[simp] theorem setBwRun_main (r : BwRun) (s : State) : (setBwRun r s).main = s.main := rfl
@[simp] theorem setBwRun_selector (r : BwRun) (s : State) : (setBwRun r s).selector = s.selector := rfl
@[simp] theorem setBwRun_regenRotor (r : BwRun) (s : State) : (setBwRun r s).regenRotor = s.regenRotor := rfl
@[simp] theorem setBwRun_filterRotor (r : BwRun) (s : State) : (setBwRun r s).filterRotor = s.filterRotor := rfl
@[simp] theorem setBwRun_drain (r : BwRun) (s : State) : (setBwRun r s).drain = s.drain := rfl
@[simp] theorem setBwRun_acc (r : BwRun) (s : State) : (setBwRun r s).acc = s.acc := rfl
@[simp] theorem setBwRun_rgs (r : BwRun) (s : State) : (setBwRun r s).rgs = s.rgs := rfl
@[simp] theorem setBwRun_slt (r : BwRun) (s : State) : (setBwRun r s).slt = s.slt := rfl
@[simp] theorem setBwRun_lkg (r : BwRun) (s : State) : (setBwRun r s).lkg = s.lkg := rfl
@[simp] theorem setBwRun_mgu (r : BwRun) (s : State) : (setBwRun r s).mgu = s.mgu := rfl
@[simp] theorem setBwRun_choices (r : BwRun) (s : State) : (setBwRun r s).choices = s.choices := rfl
@[simp] theorem setBwRun_pending (r : BwRun) (s : State) : (setBwRun r s).pending = s.pending := rfl

/-! ### setStage -/

@[simp] theorem setStage_link (i : Fin 4) (x : Stage) (s : State) : (setStage i x s).link = s.link := rfl
@[simp] theorem setStage_lanes (i : Fin 4) (x : Stage) (s : State) : (setStage i x s).lanes = s.lanes := rfl
@[simp] theorem setStage_channels (i : Fin 4) (x : Stage) (s : State) : (setStage i x s).channels = s.channels := rfl
@[simp] theorem setStage_presets (i : Fin 4) (x : Stage) (s : State) : (setStage i x s).presets = s.presets := rfl
@[simp] theorem setStage_trackers (i : Fin 4) (x : Stage) (s : State) : (setStage i x s).trackers = s.trackers := rfl
@[simp] theorem setStage_main (i : Fin 4) (x : Stage) (s : State) : (setStage i x s).main = s.main := rfl
@[simp] theorem setStage_selector (i : Fin 4) (x : Stage) (s : State) : (setStage i x s).selector = s.selector := rfl
@[simp] theorem setStage_regenRotor (i : Fin 4) (x : Stage) (s : State) : (setStage i x s).regenRotor = s.regenRotor := rfl
@[simp] theorem setStage_filterRotor (i : Fin 4) (x : Stage) (s : State) : (setStage i x s).filterRotor = s.filterRotor := rfl
@[simp] theorem setStage_drain (i : Fin 4) (x : Stage) (s : State) : (setStage i x s).drain = s.drain := rfl
@[simp] theorem setStage_acc (i : Fin 4) (x : Stage) (s : State) : (setStage i x s).acc = s.acc := rfl
@[simp] theorem setStage_rgs (i : Fin 4) (x : Stage) (s : State) : (setStage i x s).rgs = s.rgs := rfl
@[simp] theorem setStage_slt (i : Fin 4) (x : Stage) (s : State) : (setStage i x s).slt = s.slt := rfl
@[simp] theorem setStage_lkg (i : Fin 4) (x : Stage) (s : State) : (setStage i x s).lkg = s.lkg := rfl
@[simp] theorem setStage_mgu (i : Fin 4) (x : Stage) (s : State) : (setStage i x s).mgu = s.mgu := rfl
@[simp] theorem setStage_choices (i : Fin 4) (x : Stage) (s : State) : (setStage i x s).choices = s.choices := rfl
@[simp] theorem setStage_pending (i : Fin 4) (x : Stage) (s : State) : (setStage i x s).pending = s.pending := rfl

/-! ### updateBwRecord -/

@[simp] theorem updateBwRecord_link (f : BwRecord → BwRecord) (s : State) : (updateBwRecord f s).link = s.link := rfl
@[simp] theorem updateBwRecord_lanes (f : BwRecord → BwRecord) (s : State) : (updateBwRecord f s).lanes = s.lanes := rfl
@[simp] theorem updateBwRecord_channels (f : BwRecord → BwRecord) (s : State) : (updateBwRecord f s).channels = s.channels := rfl
@[simp] theorem updateBwRecord_presets (f : BwRecord → BwRecord) (s : State) : (updateBwRecord f s).presets = s.presets := rfl
@[simp] theorem updateBwRecord_trackers (f : BwRecord → BwRecord) (s : State) : (updateBwRecord f s).trackers = s.trackers := rfl
@[simp] theorem updateBwRecord_main (f : BwRecord → BwRecord) (s : State) : (updateBwRecord f s).main = s.main := rfl
@[simp] theorem updateBwRecord_selector (f : BwRecord → BwRecord) (s : State) : (updateBwRecord f s).selector = s.selector := rfl
@[simp] theorem updateBwRecord_regenRotor (f : BwRecord → BwRecord) (s : State) : (updateBwRecord f s).regenRotor = s.regenRotor := rfl
@[simp] theorem updateBwRecord_filterRotor (f : BwRecord → BwRecord) (s : State) : (updateBwRecord f s).filterRotor = s.filterRotor := rfl
@[simp] theorem updateBwRecord_drain (f : BwRecord → BwRecord) (s : State) : (updateBwRecord f s).drain = s.drain := rfl
@[simp] theorem updateBwRecord_acc (f : BwRecord → BwRecord) (s : State) : (updateBwRecord f s).acc = s.acc := rfl
@[simp] theorem updateBwRecord_rgs (f : BwRecord → BwRecord) (s : State) : (updateBwRecord f s).rgs = s.rgs := rfl
@[simp] theorem updateBwRecord_slt (f : BwRecord → BwRecord) (s : State) : (updateBwRecord f s).slt = s.slt := rfl
@[simp] theorem updateBwRecord_lkg (f : BwRecord → BwRecord) (s : State) : (updateBwRecord f s).lkg = s.lkg := rfl
@[simp] theorem updateBwRecord_mgu (f : BwRecord → BwRecord) (s : State) : (updateBwRecord f s).mgu = s.mgu := rfl
@[simp] theorem updateBwRecord_choices (f : BwRecord → BwRecord) (s : State) : (updateBwRecord f s).choices = s.choices := rfl
@[simp] theorem updateBwRecord_pending (f : BwRecord → BwRecord) (s : State) : (updateBwRecord f s).pending = s.pending := rfl

/-! ### bwRecordEnd -/

@[simp] theorem bwRecordEnd_link (o : RunOutcome) (s : State) : (bwRecordEnd o s).link = s.link := rfl
@[simp] theorem bwRecordEnd_lanes (o : RunOutcome) (s : State) : (bwRecordEnd o s).lanes = s.lanes := rfl
@[simp] theorem bwRecordEnd_channels (o : RunOutcome) (s : State) : (bwRecordEnd o s).channels = s.channels := rfl
@[simp] theorem bwRecordEnd_presets (o : RunOutcome) (s : State) : (bwRecordEnd o s).presets = s.presets := rfl
@[simp] theorem bwRecordEnd_trackers (o : RunOutcome) (s : State) : (bwRecordEnd o s).trackers = s.trackers := rfl
@[simp] theorem bwRecordEnd_main (o : RunOutcome) (s : State) : (bwRecordEnd o s).main = s.main := rfl
@[simp] theorem bwRecordEnd_selector (o : RunOutcome) (s : State) : (bwRecordEnd o s).selector = s.selector := rfl
@[simp] theorem bwRecordEnd_regenRotor (o : RunOutcome) (s : State) : (bwRecordEnd o s).regenRotor = s.regenRotor := rfl
@[simp] theorem bwRecordEnd_filterRotor (o : RunOutcome) (s : State) : (bwRecordEnd o s).filterRotor = s.filterRotor := rfl
@[simp] theorem bwRecordEnd_drain (o : RunOutcome) (s : State) : (bwRecordEnd o s).drain = s.drain := rfl
@[simp] theorem bwRecordEnd_acc (o : RunOutcome) (s : State) : (bwRecordEnd o s).acc = s.acc := rfl
@[simp] theorem bwRecordEnd_rgs (o : RunOutcome) (s : State) : (bwRecordEnd o s).rgs = s.rgs := rfl
@[simp] theorem bwRecordEnd_slt (o : RunOutcome) (s : State) : (bwRecordEnd o s).slt = s.slt := rfl
@[simp] theorem bwRecordEnd_lkg (o : RunOutcome) (s : State) : (bwRecordEnd o s).lkg = s.lkg := rfl
@[simp] theorem bwRecordEnd_mgu (o : RunOutcome) (s : State) : (bwRecordEnd o s).mgu = s.mgu := rfl
@[simp] theorem bwRecordEnd_choices (o : RunOutcome) (s : State) : (bwRecordEnd o s).choices = s.choices := rfl
@[simp] theorem bwRecordEnd_pending (o : RunOutcome) (s : State) : (bwRecordEnd o s).pending = s.pending := rfl

/-! ### setMain -/

@[simp] theorem setMain_link (m : MainState) (s : State) : (setMain m s).link = s.link := by
  unfold setMain raiseIf; split <;> rfl
@[simp] theorem setMain_lanes (m : MainState) (s : State) : (setMain m s).lanes = s.lanes := by
  unfold setMain raiseIf; split <;> rfl
@[simp] theorem setMain_channels (m : MainState) (s : State) : (setMain m s).channels = s.channels := by
  unfold setMain raiseIf; split <;> rfl
@[simp] theorem setMain_presets (m : MainState) (s : State) : (setMain m s).presets = s.presets := by
  unfold setMain raiseIf; split <;> rfl
@[simp] theorem setMain_trackers (m : MainState) (s : State) : (setMain m s).trackers = s.trackers := by
  unfold setMain raiseIf; split <;> rfl
@[simp] theorem setMain_main (m : MainState) (s : State) : (setMain m s).main = s.main := by
  unfold setMain raiseIf; split <;> rfl
@[simp] theorem setMain_selector (m : MainState) (s : State) : (setMain m s).selector = s.selector := by
  unfold setMain raiseIf; split <;> rfl
@[simp] theorem setMain_regenRotor (m : MainState) (s : State) : (setMain m s).regenRotor = s.regenRotor := by
  unfold setMain raiseIf; split <;> rfl
@[simp] theorem setMain_filterRotor (m : MainState) (s : State) : (setMain m s).filterRotor = s.filterRotor := by
  unfold setMain raiseIf; split <;> rfl
@[simp] theorem setMain_drain (m : MainState) (s : State) : (setMain m s).drain = s.drain := by
  unfold setMain raiseIf; split <;> rfl
@[simp] theorem setMain_acc (m : MainState) (s : State) : (setMain m s).acc = s.acc := by
  unfold setMain raiseIf; split <;> rfl
@[simp] theorem setMain_rgs (m : MainState) (s : State) : (setMain m s).rgs = s.rgs := by
  unfold setMain raiseIf; split <;> rfl
@[simp] theorem setMain_slt (m : MainState) (s : State) : (setMain m s).slt = s.slt := by
  unfold setMain raiseIf; split <;> rfl
@[simp] theorem setMain_flt (m : MainState) (s : State) : (setMain m s).flt = s.flt := by
  unfold setMain raiseIf; split <;> rfl
@[simp] theorem setMain_choices (m : MainState) (s : State) : (setMain m s).choices = s.choices := by
  unfold setMain raiseIf; split <;> rfl
@[simp] theorem setMain_pending (m : MainState) (s : State) : (setMain m s).pending = s.pending := by
  unfold setMain raiseIf; split <;> rfl

/-! ### setTest -/

@[simp] theorem setTest_link (t : TestState) (s : State) : (setTest t s).link = s.link := rfl
@[simp] theorem setTest_lanes (t : TestState) (s : State) : (setTest t s).lanes = s.lanes := rfl
@[simp] theorem setTest_channels (t : TestState) (s : State) : (setTest t s).channels = s.channels := rfl
@[simp] theorem setTest_presets (t : TestState) (s : State) : (setTest t s).presets = s.presets := rfl
@[simp] theorem setTest_trackers (t : TestState) (s : State) : (setTest t s).trackers = s.trackers := rfl
@[simp] theorem setTest_main (t : TestState) (s : State) : (setTest t s).main = s.main := rfl
@[simp] theorem setTest_selector (t : TestState) (s : State) : (setTest t s).selector = s.selector := rfl
@[simp] theorem setTest_regenRotor (t : TestState) (s : State) : (setTest t s).regenRotor = s.regenRotor := rfl
@[simp] theorem setTest_filterRotor (t : TestState) (s : State) : (setTest t s).filterRotor = s.filterRotor := rfl
@[simp] theorem setTest_drain (t : TestState) (s : State) : (setTest t s).drain = s.drain := rfl
@[simp] theorem setTest_acc (t : TestState) (s : State) : (setTest t s).acc = s.acc := rfl
@[simp] theorem setTest_rgs (t : TestState) (s : State) : (setTest t s).rgs = s.rgs := rfl
@[simp] theorem setTest_slt (t : TestState) (s : State) : (setTest t s).slt = s.slt := rfl
@[simp] theorem setTest_flt (t : TestState) (s : State) : (setTest t s).flt = s.flt := rfl
@[simp] theorem setTest_choices (t : TestState) (s : State) : (setTest t s).choices = s.choices := rfl
@[simp] theorem setTest_pending (t : TestState) (s : State) : (setTest t s).pending = s.pending := rfl

/-! ### putTest -/

@[simp] theorem putTest_link (t : DecayTest) (s : State) : (putTest t s).link = s.link := rfl
@[simp] theorem putTest_lanes (t : DecayTest) (s : State) : (putTest t s).lanes = s.lanes := rfl
@[simp] theorem putTest_channels (t : DecayTest) (s : State) : (putTest t s).channels = s.channels := rfl
@[simp] theorem putTest_presets (t : DecayTest) (s : State) : (putTest t s).presets = s.presets := rfl
@[simp] theorem putTest_trackers (t : DecayTest) (s : State) : (putTest t s).trackers = s.trackers := rfl
@[simp] theorem putTest_main (t : DecayTest) (s : State) : (putTest t s).main = s.main := rfl
@[simp] theorem putTest_selector (t : DecayTest) (s : State) : (putTest t s).selector = s.selector := rfl
@[simp] theorem putTest_regenRotor (t : DecayTest) (s : State) : (putTest t s).regenRotor = s.regenRotor := rfl
@[simp] theorem putTest_filterRotor (t : DecayTest) (s : State) : (putTest t s).filterRotor = s.filterRotor := rfl
@[simp] theorem putTest_drain (t : DecayTest) (s : State) : (putTest t s).drain = s.drain := rfl
@[simp] theorem putTest_acc (t : DecayTest) (s : State) : (putTest t s).acc = s.acc := rfl
@[simp] theorem putTest_rgs (t : DecayTest) (s : State) : (putTest t s).rgs = s.rgs := rfl
@[simp] theorem putTest_slt (t : DecayTest) (s : State) : (putTest t s).slt = s.slt := rfl
@[simp] theorem putTest_flt (t : DecayTest) (s : State) : (putTest t s).flt = s.flt := rfl
@[simp] theorem putTest_mgu (t : DecayTest) (s : State) : (putTest t s).mgu = s.mgu := rfl
@[simp] theorem putTest_choices (t : DecayTest) (s : State) : (putTest t s).choices = s.choices := rfl
@[simp] theorem putTest_pending (t : DecayTest) (s : State) : (putTest t s).pending = s.pending := rfl

/-! ### updateTestRecord -/

@[simp] theorem updateTestRecord_link (f : TestRecord → TestRecord) (s : State) : (updateTestRecord f s).link = s.link := rfl
@[simp] theorem updateTestRecord_lanes (f : TestRecord → TestRecord) (s : State) : (updateTestRecord f s).lanes = s.lanes := rfl
@[simp] theorem updateTestRecord_channels (f : TestRecord → TestRecord) (s : State) : (updateTestRecord f s).channels = s.channels := rfl
@[simp] theorem updateTestRecord_presets (f : TestRecord → TestRecord) (s : State) : (updateTestRecord f s).presets = s.presets := rfl
@[simp] theorem updateTestRecord_trackers (f : TestRecord → TestRecord) (s : State) : (updateTestRecord f s).trackers = s.trackers := rfl
@[simp] theorem updateTestRecord_main (f : TestRecord → TestRecord) (s : State) : (updateTestRecord f s).main = s.main := rfl
@[simp] theorem updateTestRecord_selector (f : TestRecord → TestRecord) (s : State) : (updateTestRecord f s).selector = s.selector := rfl
@[simp] theorem updateTestRecord_regenRotor (f : TestRecord → TestRecord) (s : State) : (updateTestRecord f s).regenRotor = s.regenRotor := rfl
@[simp] theorem updateTestRecord_filterRotor (f : TestRecord → TestRecord) (s : State) : (updateTestRecord f s).filterRotor = s.filterRotor := rfl
@[simp] theorem updateTestRecord_drain (f : TestRecord → TestRecord) (s : State) : (updateTestRecord f s).drain = s.drain := rfl
@[simp] theorem updateTestRecord_acc (f : TestRecord → TestRecord) (s : State) : (updateTestRecord f s).acc = s.acc := rfl
@[simp] theorem updateTestRecord_rgs (f : TestRecord → TestRecord) (s : State) : (updateTestRecord f s).rgs = s.rgs := rfl
@[simp] theorem updateTestRecord_slt (f : TestRecord → TestRecord) (s : State) : (updateTestRecord f s).slt = s.slt := rfl
@[simp] theorem updateTestRecord_flt (f : TestRecord → TestRecord) (s : State) : (updateTestRecord f s).flt = s.flt := rfl
@[simp] theorem updateTestRecord_mgu (f : TestRecord → TestRecord) (s : State) : (updateTestRecord f s).mgu = s.mgu := rfl
@[simp] theorem updateTestRecord_choices (f : TestRecord → TestRecord) (s : State) : (updateTestRecord f s).choices = s.choices := rfl
@[simp] theorem updateTestRecord_pending (f : TestRecord → TestRecord) (s : State) : (updateTestRecord f s).pending = s.pending := rfl

/-! ### setResult -/

@[simp] theorem setResult_link (r : TestResult) (s : State) : (setResult r s).link = s.link := rfl
@[simp] theorem setResult_lanes (r : TestResult) (s : State) : (setResult r s).lanes = s.lanes := rfl
@[simp] theorem setResult_channels (r : TestResult) (s : State) : (setResult r s).channels = s.channels := rfl
@[simp] theorem setResult_presets (r : TestResult) (s : State) : (setResult r s).presets = s.presets := rfl
@[simp] theorem setResult_trackers (r : TestResult) (s : State) : (setResult r s).trackers = s.trackers := rfl
@[simp] theorem setResult_main (r : TestResult) (s : State) : (setResult r s).main = s.main := rfl
@[simp] theorem setResult_selector (r : TestResult) (s : State) : (setResult r s).selector = s.selector := rfl
@[simp] theorem setResult_regenRotor (r : TestResult) (s : State) : (setResult r s).regenRotor = s.regenRotor := rfl
@[simp] theorem setResult_filterRotor (r : TestResult) (s : State) : (setResult r s).filterRotor = s.filterRotor := rfl
@[simp] theorem setResult_drain (r : TestResult) (s : State) : (setResult r s).drain = s.drain := rfl
@[simp] theorem setResult_acc (r : TestResult) (s : State) : (setResult r s).acc = s.acc := rfl
@[simp] theorem setResult_rgs (r : TestResult) (s : State) : (setResult r s).rgs = s.rgs := rfl
@[simp] theorem setResult_slt (r : TestResult) (s : State) : (setResult r s).slt = s.slt := rfl
@[simp] theorem setResult_flt (r : TestResult) (s : State) : (setResult r s).flt = s.flt := rfl
@[simp] theorem setResult_choices (r : TestResult) (s : State) : (setResult r s).choices = s.choices := rfl
@[simp] theorem setResult_pending (r : TestResult) (s : State) : (setResult r s).pending = s.pending := rfl

/-! ### setRule -/

@[simp] theorem setRule_link (i : Fin 16) (x : Rule) (s : State) : (setRule i x s).link = s.link := rfl
@[simp] theorem setRule_lanes (i : Fin 16) (x : Rule) (s : State) : (setRule i x s).lanes = s.lanes := rfl
@[simp] theorem setRule_channels (i : Fin 16) (x : Rule) (s : State) : (setRule i x s).channels = s.channels := rfl
@[simp] theorem setRule_presets (i : Fin 16) (x : Rule) (s : State) : (setRule i x s).presets = s.presets := rfl
@[simp] theorem setRule_trackers (i : Fin 16) (x : Rule) (s : State) : (setRule i x s).trackers = s.trackers := rfl
@[simp] theorem setRule_main (i : Fin 16) (x : Rule) (s : State) : (setRule i x s).main = s.main := rfl
@[simp] theorem setRule_selector (i : Fin 16) (x : Rule) (s : State) : (setRule i x s).selector = s.selector := rfl
@[simp] theorem setRule_regenRotor (i : Fin 16) (x : Rule) (s : State) : (setRule i x s).regenRotor = s.regenRotor := rfl
@[simp] theorem setRule_filterRotor (i : Fin 16) (x : Rule) (s : State) : (setRule i x s).filterRotor = s.filterRotor := rfl
@[simp] theorem setRule_drain (i : Fin 16) (x : Rule) (s : State) : (setRule i x s).drain = s.drain := rfl
@[simp] theorem setRule_acc (i : Fin 16) (x : Rule) (s : State) : (setRule i x s).acc = s.acc := rfl
@[simp] theorem setRule_rgs (i : Fin 16) (x : Rule) (s : State) : (setRule i x s).rgs = s.rgs := rfl
@[simp] theorem setRule_slt (i : Fin 16) (x : Rule) (s : State) : (setRule i x s).slt = s.slt := rfl
@[simp] theorem setRule_flt (i : Fin 16) (x : Rule) (s : State) : (setRule i x s).flt = s.flt := rfl
@[simp] theorem setRule_mgu (i : Fin 16) (x : Rule) (s : State) : (setRule i x s).mgu = s.mgu := rfl
@[simp] theorem setRule_choices (i : Fin 16) (x : Rule) (s : State) : (setRule i x s).choices = s.choices := rfl
@[simp] theorem setRule_pending (i : Fin 16) (x : Rule) (s : State) : (setRule i x s).pending = s.pending := rfl

/-! ### setZone -/

@[simp] theorem setZone_link (i : Fin 8) (z : Zone) (s : State) : (setZone i z s).link = s.link := rfl
@[simp] theorem setZone_lanes (i : Fin 8) (z : Zone) (s : State) : (setZone i z s).lanes = s.lanes := rfl
@[simp] theorem setZone_channels (i : Fin 8) (z : Zone) (s : State) : (setZone i z s).channels = s.channels := rfl
@[simp] theorem setZone_presets (i : Fin 8) (z : Zone) (s : State) : (setZone i z s).presets = s.presets := rfl
@[simp] theorem setZone_trackers (i : Fin 8) (z : Zone) (s : State) : (setZone i z s).trackers = s.trackers := rfl
@[simp] theorem setZone_main (i : Fin 8) (z : Zone) (s : State) : (setZone i z s).main = s.main := rfl
@[simp] theorem setZone_selector (i : Fin 8) (z : Zone) (s : State) : (setZone i z s).selector = s.selector := rfl
@[simp] theorem setZone_regenRotor (i : Fin 8) (z : Zone) (s : State) : (setZone i z s).regenRotor = s.regenRotor := rfl
@[simp] theorem setZone_filterRotor (i : Fin 8) (z : Zone) (s : State) : (setZone i z s).filterRotor = s.filterRotor := rfl
@[simp] theorem setZone_drain (i : Fin 8) (z : Zone) (s : State) : (setZone i z s).drain = s.drain := rfl
@[simp] theorem setZone_acc (i : Fin 8) (z : Zone) (s : State) : (setZone i z s).acc = s.acc := rfl
@[simp] theorem setZone_rgs (i : Fin 8) (z : Zone) (s : State) : (setZone i z s).rgs = s.rgs := rfl
@[simp] theorem setZone_slt (i : Fin 8) (z : Zone) (s : State) : (setZone i z s).slt = s.slt := rfl
@[simp] theorem setZone_flt (i : Fin 8) (z : Zone) (s : State) : (setZone i z s).flt = s.flt := rfl
@[simp] theorem setZone_mgu (i : Fin 8) (z : Zone) (s : State) : (setZone i z s).mgu = s.mgu := rfl
@[simp] theorem setZone_choices (i : Fin 8) (z : Zone) (s : State) : (setZone i z s).choices = s.choices := rfl
@[simp] theorem setZone_pending (i : Fin 8) (z : Zone) (s : State) : (setZone i z s).pending = s.pending := rfl

/-! ### setTransmitter -/

@[simp] theorem setTransmitter_lanes (p : OutPort) (t : Transmitter) (s : State) : (setTransmitter p t s).lanes = s.lanes := by cases p <;> rfl
@[simp] theorem setTransmitter_channels (p : OutPort) (t : Transmitter) (s : State) : (setTransmitter p t s).channels = s.channels := by cases p <;> rfl
@[simp] theorem setTransmitter_presets (p : OutPort) (t : Transmitter) (s : State) : (setTransmitter p t s).presets = s.presets := by cases p <;> rfl
@[simp] theorem setTransmitter_trackers (p : OutPort) (t : Transmitter) (s : State) : (setTransmitter p t s).trackers = s.trackers := by cases p <;> rfl
@[simp] theorem setTransmitter_main (p : OutPort) (t : Transmitter) (s : State) : (setTransmitter p t s).main = s.main := by cases p <;> rfl
@[simp] theorem setTransmitter_selector (p : OutPort) (t : Transmitter) (s : State) : (setTransmitter p t s).selector = s.selector := by cases p <;> rfl
@[simp] theorem setTransmitter_regenRotor (p : OutPort) (t : Transmitter) (s : State) : (setTransmitter p t s).regenRotor = s.regenRotor := by cases p <;> rfl
@[simp] theorem setTransmitter_filterRotor (p : OutPort) (t : Transmitter) (s : State) : (setTransmitter p t s).filterRotor = s.filterRotor := by cases p <;> rfl
@[simp] theorem setTransmitter_drain (p : OutPort) (t : Transmitter) (s : State) : (setTransmitter p t s).drain = s.drain := by cases p <;> rfl
@[simp] theorem setTransmitter_acc (p : OutPort) (t : Transmitter) (s : State) : (setTransmitter p t s).acc = s.acc := by cases p <;> rfl
@[simp] theorem setTransmitter_rgs (p : OutPort) (t : Transmitter) (s : State) : (setTransmitter p t s).rgs = s.rgs := by cases p <;> rfl
@[simp] theorem setTransmitter_slt (p : OutPort) (t : Transmitter) (s : State) : (setTransmitter p t s).slt = s.slt := by cases p <;> rfl
@[simp] theorem setTransmitter_flt (p : OutPort) (t : Transmitter) (s : State) : (setTransmitter p t s).flt = s.flt := by cases p <;> rfl
@[simp] theorem setTransmitter_lkg (p : OutPort) (t : Transmitter) (s : State) : (setTransmitter p t s).lkg = s.lkg := by cases p <;> rfl
@[simp] theorem setTransmitter_mgu (p : OutPort) (t : Transmitter) (s : State) : (setTransmitter p t s).mgu = s.mgu := by cases p <;> rfl
@[simp] theorem setTransmitter_choices (p : OutPort) (t : Transmitter) (s : State) : (setTransmitter p t s).choices = s.choices := by cases p <;> rfl
@[simp] theorem setTransmitter_pending (p : OutPort) (t : Transmitter) (s : State) : (setTransmitter p t s).pending = s.pending := by cases p <;> rfl

/-! ### What the updates set -/

@[simp] theorem setRegenRun_rgs (r : RegenRun) (s : State) : (setRegenRun r s).rgs = { s.rgs with run := r } := rfl
@[simp] theorem setMove_rgs (m : SelMove) (s : State) : (setMove m s).rgs = { s.rgs with move := m } := rfl
@[simp] theorem setSeq_rgs (q : SeqState) (s : State) : (setSeq q s).rgs = { s.rgs with seq := q } := rfl
@[simp] theorem updateRecord_rgs (f : RegenRecord → RegenRecord) (s : State) :
    (updateRecord f s).rgs = { s.rgs with record := s.rgs.record.map f } := rfl
@[simp] theorem setFlt_flt (q : SeqState) (s : State) : (setFlt q s).flt = { s.flt with st := q } := rfl
@[simp] theorem setBwRun_flt (r : BwRun) (s : State) : (setBwRun r s).flt = { s.flt with run := r } := rfl
@[simp] theorem setStage_flt (i : Fin 4) (x : Stage) (s : State) :
    (setStage i x s).flt = { s.flt with stages := s.flt.stages.set i x } := rfl
@[simp] theorem updateBwRecord_flt (f : BwRecord → BwRecord) (s : State) :
    (updateBwRecord f s).flt = { s.flt with record := s.flt.record.map f } := rfl
@[simp] theorem setMain_lkg (m : MainState) (s : State) : (setMain m s).lkg = { s.lkg with main := m } := by
  unfold setMain raiseIf; split <;> rfl
@[simp] theorem setTest_lkg (t : TestState) (s : State) :
    (setTest t s).lkg = { s.lkg with test := { s.lkg.test with st := t } } := rfl
@[simp] theorem putTest_lkg (t : DecayTest) (s : State) : (putTest t s).lkg = { s.lkg with test := t } := rfl
@[simp] theorem setRule_lkg (i : Fin 16) (x : Rule) (s : State) :
    (setRule i x s).lkg = { s.lkg with rules := s.lkg.rules.set i x } := rfl
@[simp] theorem setZone_lkg (i : Fin 8) (z : Zone) (s : State) :
    (setZone i z s).lkg = { s.lkg with zones := s.lkg.zones.set i z } := rfl
@[simp] theorem setSalt_slt (x : Salt) (s : State) : (setSalt x s).slt = x := by unfold setSalt raiseIf; split <;> rfl
@[simp] theorem setTracker_trackers (i : Fin 7) (x : Tracker) (s : State) :
    (setTracker i x s).trackers = s.trackers.set i x := rfl
@[simp] theorem setChannel_channels (i : Fin 8) (x : Channel) (s : State) :
    (setChannel i x s).channels = s.channels.set i x := rfl
@[simp] theorem setReceiver_rx (r : ReqReceiver) (s : State) : (setReceiver r s).mgu.rx = r := rfl
@[simp] theorem pushReply_mgu (tag : Byte) (body : List Byte) (s : State) :
    (pushReply tag body s).mgu = { s.mgu with replies := s.mgu.replies ++ [{ tag := tag, body := body }] } := rfl

/-! ### One actuator, one tank -/

@[simp] theorem setAct_act_self (a : Actr) (x : Actuator) (s : State) : (setAct a x s).act a = x := by cases a <;> rfl
theorem setAct_act_other (a b : Actr) (x : Actuator) (s : State) (h : b ≠ a) : (setAct a x s).act b = s.act b := by
  cases a <;> cases b <;> first | rfl | exact absurd rfl h
@[simp] theorem setAct_act_again (a : Actr) (s : State) : setAct a (s.act a) s = s := by cases a <;> rfl
theorem raise_act (f : Flag) (s : State) (a : Actr) : (raise f s).act a = s.act a := by cases a <;> rfl
theorem offerFault_act (k : FaultKind) (n : Nat) (d : Vector Byte 4) (s : State) (a : Actr) :
    (offerFault k n d s).act a = s.act a := by cases a <;> (unfold offerFault; split <;> rfl)
theorem raise_tank (f : Flag) (s : State) (t : TankId) : (raise f s).tank t = s.tank t := by cases t <;> rfl
@[simp] theorem setTank_tank_self (t : TankId) (x : Tank) (s : State) : (setTank t x s).tank t = x := by
  cases t <;> (unfold setTank raiseIf; split <;> rfl)
theorem setTank_tank_other (t u : TankId) (x : Tank) (s : State) (h : u ≠ t) :
    (setTank t x s).tank u = s.tank u := by
  cases t <;> cases u <;> first | exact absurd rfl h | (unfold setTank raiseIf; split <;> rfl)

end Sys2Proof.Machine
end

