-- ==== Sys2Proof/Laws/Reach.lean ====
section
/-! SUPPORT. Everything that DRA, RGS, SLT, FLT, LKG and ACT's notices can do to the state, said once: `Reach s t` holds of
the state `t` an operation of theirs leaves. What every such operation leaves alone follows from it (Laws/Frame.lean). -/

namespace Sys2Proof.Machine

/-! ### What a part may become -/

/-- ACC but for the allowance carry, which may become 0, the brine phase and the draw accumulator. -/
structure AccKeeps (a b : Account) : Prop where
  parts : { b with allowCarry := 0, phase := .none, draw := DrawAcc.reset } =
    { a with allowCarry := 0, phase := .none, draw := DrawAcc.reset }
  carry : b.allowCarry = a.allowCarry ∨ b.allowCarry = 0

/-- A tank keeps its nominal and the range of its seconds; its remaining does not grow but by a restoration. -/
structure TankKeeps (curve : List (Nat × Nat)) (x y : Tank) : Prop where
  nominal : y.nominal = x.nominal
  remaining : y.remaining ≤ x.remaining ∨ ∃ dose, y.remaining = x.nominal * (curveEval curve dose).getD 0 / 1024
  seconds : x.seconds ≤ max32 → y.seconds ≤ max32

/-- RGS keeps its program; its tanks change as TankKeeps says. -/
structure RgsKeeps (curve : List (Nat × Nat)) (a b : Rgs) : Prop where
  program : b.program = a.program
  tankA : TankKeeps curve a.tankA b.tankA
  tankB : TankKeeps curve a.tankB b.tankB

/-- SLT keeps its settings; the store does not grow. -/
structure SltKeeps (a b : Salt) : Prop where
  settings : b.settings = a.settings
  store : b.store ≤ a.store

/-- FLT keeps its program and stage records. -/
structure FltKeeps (a b : Flt) : Prop where
  program : b.program = a.program
  records : ∀ i : Fin 4, b.stages[i].conf = a.stages[i].conf

/-- LKG keeps its configuration, windows and rule records. -/
structure LkgKeeps (a b : Lkg) : Prop where
  config : b.config = a.config
  windows : b.windows = a.windows
  records : ∀ i : Fin 16, b.rules[i].conf = a.rules[i].conf

/-- One thing an operation does: raise a flag, offer a fault, request a move, or change the parts. -/
inductive Prim : State → State → Prop where
  | flag (f : Flag) (s : State) : Prim s (raise f s)
  | offer (k : FaultKind) (n : Nat) (d : Vector Byte 4) (s : State) : Prim s (offerFault k n d s)
  | request (a : Actr) (p : Pos) (s : State) : Prim s (actRequest a p s)
  | parts (s : State) (d : Drain) (a : Account) (r : Rgs) (x : Salt) (f : Flt) (l : Lkg)
      (ha : AccKeeps s.acc a) (hr : RgsKeeps s.acc.efficiencyCurve s.rgs r) (hx : SltKeeps s.slt x)
      (hf : FltKeeps s.flt f) (hl : LkgKeeps s.lkg l) :
      Prim s { s with drain := d, acc := a, rgs := r, slt := x, flt := f, lkg := l }

/-- What a run of such things leaves. -/
inductive Reach (s : State) : State → Prop where
  | same : Reach s s
  | more {u t : State} : Reach s u → Prim u t → Reach s t

theorem AccKeeps.refl (a : Account) : AccKeeps a a := ⟨rfl, .inl rfl⟩
theorem TankKeeps.refl (c : List (Nat × Nat)) (a : Tank) : TankKeeps c a a := ⟨rfl, .inl le_rfl, id⟩
theorem RgsKeeps.refl (c : List (Nat × Nat)) (a : Rgs) : RgsKeeps c a a := ⟨rfl, .refl .., .refl ..⟩
theorem SltKeeps.refl (a : Salt) : SltKeeps a a := ⟨rfl, le_rfl⟩
theorem FltKeeps.refl (a : Flt) : FltKeeps a a := ⟨rfl, fun _ => rfl⟩
theorem LkgKeeps.refl (a : Lkg) : LkgKeeps a a := ⟨rfl, rfl, fun _ => rfl⟩

theorem Reach.trans {s u t : State} (h : Reach s u) (g : Reach u t) : Reach s t := by
  induction g with
  | same => exact h
  | more _ p ih => exact ih.more p

variable {s0 s : State}

theorem Reach.parts (h : Reach s0 s) {d : Drain} {a : Account} {r : Rgs} {x : Salt} {f : Flt} {l : Lkg}
    (ha : AccKeeps s.acc a) (hr : RgsKeeps s.acc.efficiencyCurve s.rgs r) (hx : SltKeeps s.slt x)
    (hf : FltKeeps s.flt f) (hl : LkgKeeps s.lkg l) :
    Reach s0 { s with drain := d, acc := a, rgs := r, slt := x, flt := f, lkg := l } :=
  h.more (.parts _ d a r x f l ha hr hx hf hl)

theorem Reach.drain (h : Reach s0 s) (d : Drain) : Reach s0 { s with drain := d } :=
  h.parts (.refl _) (.refl _ _) (.refl _) (.refl _) (.refl _)
theorem Reach.acc (h : Reach s0 s) {a : Account} (ha : AccKeeps s.acc a) : Reach s0 { s with acc := a } :=
  h.parts ha (.refl _ _) (.refl _) (.refl _) (.refl _)
theorem Reach.rgs (h : Reach s0 s) {r : Rgs} (hr : RgsKeeps s.acc.efficiencyCurve s.rgs r) :
    Reach s0 { s with rgs := r } := h.parts (.refl _) hr (.refl _) (.refl _) (.refl _)
theorem Reach.slt (h : Reach s0 s) {x : Salt} (hx : SltKeeps s.slt x) : Reach s0 { s with slt := x } :=
  h.parts (.refl _) (.refl _ _) hx (.refl _) (.refl _)
theorem Reach.flt (h : Reach s0 s) {f : Flt} (hf : FltKeeps s.flt f) : Reach s0 { s with flt := f } :=
  h.parts (.refl _) (.refl _ _) (.refl _) hf (.refl _)
theorem Reach.lkg (h : Reach s0 s) {l : Lkg} (hl : LkgKeeps s.lkg l) : Reach s0 { s with lkg := l } :=
  h.parts (.refl _) (.refl _ _) (.refl _) (.refl _) hl

/-! ### Small updates -/

theorem reach_raise (f : Flag) (h : Reach s0 s) : Reach s0 (raise f s) := h.more (.flag f s)
theorem reach_raiseIf (b : Bool) (f : Flag) (h : Reach s0 s) : Reach s0 (raiseIf b f s) := by
  unfold raiseIf; split
  · exact reach_raise f h
  · exact h
theorem reach_offerFault (k : FaultKind) (n : Nat) (d : Vector Byte 4) (h : Reach s0 s) :
    Reach s0 (offerFault k n d s) := h.more (.offer k n d s)
theorem reach_actRequest (a : Actr) (p : Pos) (h : Reach s0 s) : Reach s0 (actRequest a p s) := h.more (.request a p s)
theorem reach_accOpen (h : Reach s0 s) : Reach s0 (accOpen s) := h.acc ⟨rfl, .inl rfl⟩
theorem reach_accClosed (h : Reach s0 s) : Reach s0 (accClosed s) := h.acc ⟨rfl, .inl rfl⟩
theorem reach_setSalt {x : Salt} (h : Reach s0 s) (hx : SltKeeps s.slt x) : Reach s0 (setSalt x s) :=
  reach_raiseIf _ _ (h.slt hx)
theorem reach_setTank (t : TankId) {x : Tank} (h : Reach s0 s) (hx : TankKeeps s.acc.efficiencyCurve (s.tank t) x) :
    Reach s0 (setTank t x s) := by
  cases t
  · exact reach_raiseIf _ _ (h.rgs ⟨rfl, hx, .refl ..⟩)
  · exact reach_raiseIf _ _ (h.rgs ⟨rfl, .refl .., hx⟩)
theorem reach_setRegenRun (r : RegenRun) (h : Reach s0 s) : Reach s0 (setRegenRun r s) := h.rgs ⟨rfl, .refl .., .refl ..⟩
theorem reach_setMove (m : SelMove) (h : Reach s0 s) : Reach s0 (setMove m s) := h.rgs ⟨rfl, .refl .., .refl ..⟩
theorem reach_updateRecord (f : RegenRecord → RegenRecord) (h : Reach s0 s) : Reach s0 (updateRecord f s) :=
  h.rgs ⟨rfl, .refl .., .refl ..⟩
theorem reach_recordEnd (o : RunOutcome) (h : Reach s0 s) : Reach s0 (recordEnd o s) := reach_updateRecord _ h
theorem reach_setSeq (q : SeqState) (h : Reach s0 s) : Reach s0 (setSeq q s) :=
  reach_raise _ (h.rgs ⟨rfl, .refl .., .refl ..⟩)
theorem reach_setBwRun (r : BwRun) (h : Reach s0 s) : Reach s0 (setBwRun r s) := h.flt ⟨rfl, fun _ => rfl⟩
theorem reach_setFlt (q : SeqState) (h : Reach s0 s) : Reach s0 (setFlt q s) := reach_raise _ (h.flt ⟨rfl, fun _ => rfl⟩)
theorem reach_updateBwRecord (f : BwRecord → BwRecord) (h : Reach s0 s) : Reach s0 (updateBwRecord f s) :=
  h.flt ⟨rfl, fun _ => rfl⟩
theorem reach_bwRecordEnd (o : RunOutcome) (h : Reach s0 s) : Reach s0 (bwRecordEnd o s) := reach_updateBwRecord _ h
theorem reach_setStage (i : Fin 4) {x : Stage} (h : Reach s0 s) (hx : x.conf = s.flt.stages[i].conf) :
    Reach s0 (setStage i x s) := by
  refine h.flt ⟨rfl, fun j => ?_⟩
  by_cases e : i = j
  · subst e; simpa using hx
  · simp [Fin.val_inj, e]
theorem reach_setRule (i : Fin 16) {x : Rule} (h : Reach s0 s) (hx : x.conf = s.lkg.rules[i].conf) :
    Reach s0 (setRule i x s) := by
  refine h.lkg ⟨rfl, rfl, fun j => ?_⟩
  by_cases e : i = j
  · subst e; simpa using hx
  · simp [Fin.val_inj, e]
theorem reach_putTest (t : DecayTest) (h : Reach s0 s) : Reach s0 (putTest t s) := h.lkg ⟨rfl, rfl, fun _ => rfl⟩
theorem reach_setTest (t : TestState) (h : Reach s0 s) : Reach s0 (setTest t s) :=
  reach_raise _ (h.lkg ⟨rfl, rfl, fun _ => rfl⟩)
theorem reach_updateTestRecord (f : TestRecord → TestRecord) (h : Reach s0 s) : Reach s0 (updateTestRecord f s) :=
  reach_putTest _ h
theorem reach_setResult (r : TestResult) (h : Reach s0 s) : Reach s0 (setResult r s) :=
  reach_raise _ (reach_updateTestRecord _ h)
theorem reach_setMain (m : MainState) (h : Reach s0 s) : Reach s0 (setMain m s) :=
  reach_raiseIf _ _ (h.lkg ⟨rfl, rfl, fun _ => rfl⟩)
theorem reach_setZone (i : Fin 8) (z : Zone) (h : Reach s0 s) : Reach s0 (setZone i z s) := h.lkg ⟨rfl, rfl, fun _ => rfl⟩

end Sys2Proof.Machine
end

