-- ==== Sys2Proof/Laws/Core.lean ====
section
/-! SUPPORT. Every operation of DRA, RGS, SLT, FLT and LKG, and every notice and event of ACT, leaves a state that Reach
describes. -/

namespace Sys2Proof.Machine

variable {s0 s : State}

/-- What a requester does at its grant stays within Reach. -/
abbrev SafeGrant (k : Grant) : Prop := ∀ r {s0 s : State}, Reach s0 s → Reach s0 (k r s)

theorem reach_judgeSalt (h : Reach s0 s) : Reach s0 (judgeSalt s) := by
  unfold judgeSalt
  all_goals repeat with_reducible first | assumption | apply reach_setSalt
  all_goals exact ⟨rfl, le_rfl⟩

theorem reach_setBridgeCount (n : Nat) (h : Reach s0 s) : Reach s0 (setBridgeCount n s) := by
  unfold setBridgeCount
  all_goals repeat with_reducible first | assumption | apply reach_setSalt
  all_goals exact ⟨rfl, le_rfl⟩

theorem reach_bridgeCheck (b : BridgeResult) (h : Reach s0 s) : Reach s0 (bridgeCheck b s) := by
  unfold bridgeCheck
  repeat' split
  all_goals repeat with_reducible first | assumption | apply reach_setBridgeCount

theorem reach_endRefillUnchecked (h : Reach s0 s) : Reach s0 (endRefillUnchecked s) := by
  unfold endRefillUnchecked
  apply Reach.parts
  all_goals try assumption
  all_goals first | exact .refl .. | exact ⟨rfl, le_rfl⟩

theorem reach_sltClose (v : DrawValues) (warm : Bool) (h : Reach s0 s) : Reach s0 (sltClose v warm s) := by
  unfold sltClose
  try dsimp only
  repeat' split
  all_goals try apply Reach.parts
  all_goals repeat with_reducible first
    | assumption | apply reach_setSalt | apply reach_judgeSalt | apply reach_bridgeCheck
    | apply reach_endRefillUnchecked
  all_goals first
    | exact ⟨rfl, Nat.sub_le ..⟩ | exact ⟨rfl, .refl .., .refl ..⟩ | exact ⟨rfl, fun _ => rfl⟩
    | exact ⟨rfl, rfl, fun _ => rfl⟩ | exact ⟨rfl, .inl rfl⟩ | exact ⟨rfl, le_rfl⟩

theorem reach_refillStart (h : Reach s0 s) : Reach s0 (refillStart s) := by
  unfold refillStart
  apply Reach.parts
  all_goals try assumption
  all_goals first | exact .refl .. | exact ⟨rfl, le_rfl⟩

theorem reach_refillIncrement (dv : Nat) (h : Reach s0 s) : Reach s0 (refillIncrement dv s) := by
  unfold refillIncrement
  repeat' split
  all_goals try apply Reach.parts
  all_goals try assumption
  all_goals first | exact .refl .. | exact ⟨rfl, le_rfl⟩

theorem reach_refillEnd (short : Bool) (h : Reach s0 s) : Reach s0 (refillEnd short s) := by
  unfold refillEnd
  repeat' split
  all_goals repeat with_reducible first | apply reach_setSalt
  all_goals try apply Reach.parts
  all_goals repeat with_reducible assumption
  all_goals first | exact .refl .. | exact ⟨rfl, le_rfl⟩

theorem reach_settle600 (h : Reach s0 s) : Reach s0 (settle600 s) := by
  unfold settle600
  all_goals repeat with_reducible first | assumption | apply reach_setSalt
  all_goals exact ⟨rfl, le_rfl⟩

theorem reach_setAllowance (a : Nat) (kind : Option Requester) (h :
    Reach s0 s) : Reach s0 (setAllowance a kind s) := by
  unfold setAllowance
  repeat' split
  all_goals try apply Reach.parts
  all_goals try assumption
  all_goals first | exact .refl .. | exact ⟨rfl, .inr rfl⟩

theorem reach_allowanceReport (r : Requester) (a : Option Nat) (h :
    Reach s0 s) : Reach s0 (allowanceReport r a s) := by
  unfold allowanceReport
  repeat' split
  all_goals repeat with_reducible first | assumption | apply reach_setAllowance

theorem reach_grantTo (k : Grant) (r : Requester) (hk : SafeGrant k) (h : Reach s0 s) : Reach s0 (grantTo k r s) := by
  unfold grantTo
  all_goals repeat with_reducible first | apply hk
  apply Reach.parts
  all_goals repeat with_reducible assumption
  all_goals exact .refl ..

theorem reach_drainRegrant (k : Grant) (hk : SafeGrant k) (h : Reach s0 s) : Reach s0 (drainRegrant k s) := by
  unfold drainRegrant
  repeat' split
  all_goals repeat with_reducible first | assumption | apply reach_grantTo

theorem reach_drainRequest (k : Grant) (r : Requester) (hk : SafeGrant k) (h :
    Reach s0 s) : Reach s0 (drainRequest k r s) := by
  unfold drainRequest
  repeat' split
  all_goals repeat with_reducible first | assumption | apply reach_grantTo
  all_goals try apply Reach.parts
  all_goals repeat with_reducible first | assumption | apply hk
  all_goals exact .refl ..

theorem reach_drainFreed (h : Reach s0 s) : Reach s0 (drainFreed s) := by
  unfold drainFreed
  all_goals repeat with_reducible first | apply reach_setAllowance
  apply Reach.parts
  all_goals repeat with_reducible assumption
  all_goals exact .refl ..

theorem reach_drainRelease (k : Grant) (r : Requester) (hk : SafeGrant k) (h :
    Reach s0 s) : Reach s0 (drainRelease k r s) := by
  unfold drainRelease
  repeat' split
  all_goals repeat with_reducible first | assumption | apply reach_drainRegrant | apply reach_drainFreed
  all_goals try apply Reach.parts
  all_goals repeat with_reducible first | assumption | apply reach_drainRegrant
  all_goals exact .refl ..

theorem reach_stopStep (h : Reach s0 s) : Reach s0 (stopStep s) := by
  unfold stopStep
  repeat' split
  all_goals repeat with_reducible assumption
  all_goals try apply Reach.parts
  all_goals repeat with_reducible first | assumption | apply reach_allowanceReport
  all_goals first | exact .refl .. | exact ⟨rfl, .inl rfl⟩

theorem reach_closeDraw (warm : Bool) (h : Reach s0 s) : Reach s0 (closeDraw warm s) := by
  unfold closeDraw
  repeat with_reducible first | assumption | apply reach_updateRecord | apply reach_sltClose | apply reach_accClosed

theorem reach_endTank (st : TankState) (remaining : Nat) (o : RunOutcome) (h : Reach s0 s)
    (hr : ∀ t, s.rgs.run.tank = some t → remaining ≤ (s.tank t).remaining) : Reach s0 (endTank st remaining o s) := by
  unfold endTank
  split
  · exact reach_recordEnd _ (reach_setTank _ h ⟨rfl, .inl (hr _ (by assumption)), id⟩)
  · exact h

theorem reach_exhaustTank (o : RunOutcome) (h : Reach s0 s) : Reach s0 (exhaustTank o s) :=
  reach_endTank _ _ _ h fun _ _ => Nat.zero_le _

theorem reach_keepTank (st : TankState) (o : RunOutcome) (h : Reach s0 s) : Reach s0 (keepTank st o s) := by
  unfold keepTank
  split
  · rename_i t e
    exact reach_endTank _ _ _ h fun u hu => by rw [e] at hu; cases hu; exact le_rfl
  · exact h

theorem reach_dropTank (h : Reach s0 s) : Reach s0 (dropTank s) := by
  unfold dropTank
  repeat with_reducible first | assumption | apply reach_setRegenRun

theorem reach_offerRgs (kind : FaultKind) (d2 : Byte) (h : Reach s0 s) : Reach s0 (offerRgs kind d2 s) := by
  unfold offerRgs
  repeat' split
  all_goals repeat with_reducible first | assumption | apply reach_offerFault

theorem reach_toIdle (h : Reach s0 s) : Reach s0 (toIdle s) := by
  unfold toIdle
  repeat with_reducible first | assumption | apply reach_setSeq | apply reach_setRegenRun

theorem reach_tankLeft (t : TankId) (h : Reach s0 s) : Reach s0 (tankLeft t s) := by
  unfold tankLeft
  try dsimp only
  repeat' split
  all_goals repeat with_reducible first | assumption | apply reach_setTank
  all_goals exact ⟨rfl, .inl le_rfl, id⟩

theorem reach_tankReached (t : TankId) (h : Reach s0 s) : Reach s0 (tankReached t s) := by
  unfold tankReached
  try dsimp only
  repeat' split
  all_goals repeat with_reducible first | assumption | apply reach_setTank
  all_goals exact ⟨rfl, .inl le_rfl, id⟩

theorem reach_judgeTanks (old : Option Pos) (p : Pos) (h : Reach s0 s) : Reach s0 (judgeTanks old p s) := by
  unfold judgeTanks
  repeat' split
  all_goals repeat with_reducible first | assumption | apply reach_tankLeft | apply reach_tankReached

theorem reach_rgsQueue (k : Grant) (t : TankId) (trig : RegenTrigger) (prior : TankState) (hk : SafeGrant k) (h :
    Reach s0 s) : Reach s0 (rgsQueue k t trig prior s) := by
  unfold rgsQueue
  all_goals repeat with_reducible first
    | assumption | apply reach_setTank | apply reach_drainRequest | apply reach_setSeq
  apply Reach.parts
  all_goals repeat with_reducible first
    | assumption | apply reach_setTank | apply reach_setRegenRun | apply reach_drainRequest
  all_goals first
    | exact ⟨rfl, .inl le_rfl, id⟩ | exact ⟨rfl, .refl .., .refl ..⟩ | exact ⟨rfl, fun _ => rfl⟩
    | exact ⟨rfl, rfl, fun _ => rfl⟩ | exact ⟨rfl, .inl rfl⟩ | exact ⟨rfl, le_rfl⟩

theorem reach_selMoveDone (k : Grant) (hk : SafeGrant k) (h : Reach s0 s) : Reach s0 (selMoveDone k s) := by
  unfold selMoveDone
  try dsimp only
  repeat' split
  all_goals repeat with_reducible first | assumption | apply reach_rgsQueue
  all_goals try apply Reach.parts
  all_goals repeat with_reducible first | assumption | apply reach_setMove
  all_goals first | exact .refl .. | exact ⟨rfl, .refl .., .refl ..⟩

theorem reach_selFailed (h : Reach s0 s) : Reach s0 (selFailed s) := by
  unfold selFailed
  repeat' split
  all_goals try apply Reach.parts
  all_goals try assumption
  all_goals first | exact .refl .. | exact ⟨rfl, .refl .., .refl ..⟩

theorem reach_startSwap (k : Grant) (t : TankId) (hk : SafeGrant k) (h :
    Reach s0 s) : Reach s0 (startSwap k t s) := by
  unfold startSwap
  repeat' split
  all_goals repeat with_reducible first
    | assumption | apply reach_actRequest | apply reach_setMove | apply reach_selMoveDone
    | apply reach_judgeTanks | apply reach_selFailed

theorem reach_seekAtNotice (k : Grant) (t : TankId) (hk : SafeGrant k) (h :
    Reach s0 s) : Reach s0 (seekAtNotice k t s) := by
  unfold seekAtNotice
  repeat' split
  all_goals repeat with_reducible first | assumption | apply reach_startSwap

theorem reach_swapSeek (k : Grant) (hk : SafeGrant k) (h : Reach s0 s) : Reach s0 (swapSeek k s) := by
  unfold swapSeek
  repeat' split
  all_goals repeat with_reducible first | assumption | apply reach_seekAtNotice

theorem reach_reserveNotice (k : Grant) (t : TankId) (hk : SafeGrant k) (h :
    Reach s0 s) : Reach s0 (reserveNotice k t s) := by
  unfold reserveNotice
  repeat with_reducible first | assumption | apply reach_seekAtNotice

theorem reach_exhaustionNotice (k : Grant) (t : TankId) (hk : SafeGrant k) (h :
    Reach s0 s) : Reach s0 (exhaustionNotice k t s) := by
  unfold exhaustionNotice
  repeat' split
  all_goals repeat with_reducible first | assumption | apply reach_seekAtNotice | apply reach_setTank
  all_goals exact ⟨rfl, .inl le_rfl, id⟩

theorem reach_finish (k : Grant) (hk : SafeGrant k) (h : Reach s0 s) : Reach s0 (finish k s) := by
  unfold finish
  repeat with_reducible first | assumption | apply reach_swapSeek | apply reach_toIdle

theorem reach_releaseAndFinish (k : Grant) (hk : SafeGrant k) (h : Reach s0 s) : Reach s0 (releaseAndFinish k s) := by
  unfold releaseAndFinish
  repeat with_reducible first | assumption | apply reach_finish | apply reach_drainRelease

theorem reach_restoreTank (t : TankId) (h : Reach s0 s) : Reach s0 (restoreTank t s) := by
  unfold restoreTank
  all_goals repeat with_reducible first
    | assumption | apply reach_closeDraw | apply reach_setTank | apply reach_updateRecord | apply reach_recordEnd
  all_goals exact ⟨rfl, .inr ⟨_, rfl⟩, fun _ => Nat.zero_le _⟩

theorem reach_parkDone (k : Grant) (hk : SafeGrant k) (h : Reach s0 s) : Reach s0 (parkDone k s) := by
  unfold parkDone
  repeat' split
  all_goals repeat with_reducible first | assumption | apply reach_releaseAndFinish | apply reach_restoreTank

theorem reach_rgsFault (k : Grant) (code : Byte) (hk : SafeGrant k) (h :
    Reach s0 s) : Reach s0 (rgsFault k code s) := by
  unfold rgsFault
  repeat with_reducible first
    | assumption | apply reach_exhaustTank | apply reach_closeDraw | apply reach_stopStep
    | apply reach_releaseAndFinish | apply reach_offerRgs

theorem reach_rgsRotorFailed (k : Grant) (code : Byte) (hk : SafeGrant k) (h :
    Reach s0 s) : Reach s0 (rgsRotorFailed k code s) := by
  unfold rgsRotorFailed
  repeat' split
  all_goals repeat with_reducible first | assumption | apply reach_rgsFault | apply reach_releaseAndFinish

theorem reach_enterHeld (phase : SeqState) (h : Reach s0 s) : Reach s0 (enterHeld phase s) := by
  unfold enterHeld
  all_goals repeat with_reducible first | assumption | apply reach_setSeq
  apply Reach.parts
  all_goals repeat with_reducible first | assumption | apply reach_stopStep
  all_goals first | exact .refl .. | exact ⟨rfl, .refl .., .refl ..⟩

theorem reach_rgsHold (h : Reach s0 s) : Reach s0 (rgsHold s) := by
  unfold rgsHold
  repeat' split
  all_goals repeat with_reducible first | assumption | apply reach_enterHeld

theorem reach_startRunning (x : RegenStep) (h : Reach s0 s) : Reach s0 (startRunning x s) := by
  unfold startRunning
  repeat' split
  all_goals repeat with_reducible first
    | assumption | apply reach_refillStart | apply reach_setSeq | apply reach_setRegenRun
  all_goals try apply Reach.parts
  all_goals repeat with_reducible first | assumption | apply reach_allowanceReport | apply reach_setSeq
  all_goals first | exact .refl .. | exact ⟨rfl, .inl rfl⟩

theorem reach_rgsRotorDone (k : Grant) (p : Pos) (hk : SafeGrant k) (h :
    Reach s0 s) : Reach s0 (rgsRotorDone k p s) := by
  unfold rgsRotorDone
  repeat' split
  all_goals repeat with_reducible first
    | assumption | apply reach_startRunning | apply reach_enterHeld | apply reach_parkDone

theorem reach_rgsRotorAsk (k : Grant) (p : Pos) (hk : SafeGrant k) (h :
    Reach s0 s) : Reach s0 (rgsRotorAsk k p s) := by
  unfold rgsRotorAsk
  repeat' split
  all_goals repeat with_reducible first
    | assumption | apply reach_actRequest | apply reach_rgsRotorDone | apply reach_rgsRotorFailed

theorem reach_askStep (k : Grant) (hk : SafeGrant k) (h : Reach s0 s) : Reach s0 (askStep k s) := by
  unfold askStep
  repeat' split
  all_goals repeat with_reducible first | assumption | apply reach_rgsRotorAsk

theorem reach_enterPositioning (k : Grant) (hk : SafeGrant k) (h : Reach s0 s) : Reach s0 (enterPositioning k s) := by
  unfold enterPositioning
  repeat' split
  all_goals repeat with_reducible first
    | assumption | apply reach_askStep | apply reach_setSeq | apply reach_enterHeld

theorem reach_startParking (k : Grant) (hk : SafeGrant k) (h : Reach s0 s) : Reach s0 (startParking k s) := by
  unfold startParking
  repeat with_reducible first | assumption | apply reach_rgsRotorAsk | apply reach_setSeq | apply reach_setRegenRun

theorem reach_takeStep (k : Grant) (i : Fin 8) (hk : SafeGrant k) (h : Reach s0 s) : Reach s0 (takeStep k i s) := by
  unfold takeStep
  repeat with_reducible first | assumption | apply reach_enterPositioning | apply reach_setRegenRun

theorem reach_rgsGranted (k : Grant) (hk : SafeGrant k) (h : Reach s0 s) : Reach s0 (rgsGranted k s) := by
  have h1 : Reach s0 { s with rgs := { s.rgs with snapshot := s.rgs.program } } := h.rgs ⟨rfl, .refl .., .refl ..⟩
  unfold rgsGranted
  dsimp only
  split
  · split
    · exact reach_takeStep _ _ hk (reach_accOpen (reach_updateRecord _ h1))
    · exact reach_finish _ hk (reach_closeDraw _ (reach_keepTank _ _
        (reach_drainRelease _ _ hk (reach_accOpen (reach_updateRecord _ h1)))))
  · exact reach_drainRelease _ _ hk h

theorem reach_countStep (i : Option (Fin 8)) (short : Bool) (h : Reach s0 s) : Reach s0 (countStep i short s) := by
  unfold countStep
  repeat with_reducible first | assumption | apply reach_updateRecord

theorem reach_endStep (k : Grant) (short : Bool) (hk : SafeGrant k) (h :
    Reach s0 s) : Reach s0 (endStep k short s) := by
  unfold endStep
  try dsimp only
  repeat' split
  all_goals repeat with_reducible first
    | assumption | apply reach_countStep | apply reach_stopStep | apply reach_raise | apply reach_refillEnd
    | apply reach_takeStep | apply reach_startParking

theorem reach_rgsIncrement (dv : Nat) (h : Reach s0 s) : Reach s0 (rgsIncrement dv s) := by
  unfold rgsIncrement
  repeat' split
  all_goals repeat with_reducible first | assumption | apply reach_setRegenRun

theorem reach_rgsResume (k : Grant) (hk : SafeGrant k) (h : Reach s0 s) : Reach s0 (rgsResume k s) := by
  unfold rgsResume
  repeat' split
  all_goals repeat with_reducible first | assumption | apply reach_askStep | apply reach_setSeq

theorem reach_rgsAbandon (k : Grant) (hk : SafeGrant k) (h : Reach s0 s) : Reach s0 (rgsAbandon k s) := by
  unfold rgsAbandon
  repeat with_reducible first
    | assumption | apply reach_exhaustTank | apply reach_closeDraw | apply reach_dropTank | apply reach_offerRgs
    | apply reach_startParking | apply reach_drainRelease

theorem reach_runTankReached (k : Grant) (old : Option Pos) (p : Pos) (hk : SafeGrant k) (h :
    Reach s0 s) : Reach s0 (runTankReached k old p s) := by
  unfold runTankReached
  repeat' split
  all_goals repeat with_reducible first
    | assumption | apply reach_finish | apply reach_drainRelease | apply reach_judgeTanks | apply reach_dropTank
    | apply reach_exhaustTank | apply reach_closeDraw | apply reach_stopStep | apply reach_offerRgs
    | apply reach_startParking

theorem reach_selReached (k : Grant) (old : Option Pos) (p : Pos) (hk : SafeGrant k) (h :
    Reach s0 s) : Reach s0 (selReached k old p s) := by
  unfold selReached
  repeat' split
  all_goals repeat with_reducible first | assumption | apply reach_runTankReached | apply reach_judgeTanks

theorem reach_selDone (k : Grant) (old : Option Pos) (p : Pos) (hk : SafeGrant k) (h :
    Reach s0 s) : Reach s0 (selDone k old p s) := by
  unfold selDone
  repeat' split
  all_goals repeat with_reducible first | assumption | apply reach_selMoveDone | apply reach_selReached

theorem reach_rgsRotorMoved (k : Grant) (reset : Bool) (at? : Option Pos) (hk : SafeGrant k) (h :
    Reach s0 s) : Reach s0 (rgsRotorMoved k reset at? s) := by
  unfold rgsRotorMoved
  repeat' split
  all_goals repeat with_reducible first
    | assumption | apply reach_enterPositioning | apply reach_stopStep | apply reach_askStep
    | apply reach_rgsRotorAsk | apply reach_actRequest

theorem reach_rgsRotorAdopted (p : Pos) (h : Reach s0 s) : Reach s0 (rgsRotorAdopted p s) := by
  unfold rgsRotorAdopted
  repeat' split
  all_goals repeat with_reducible first | assumption | apply reach_actRequest

theorem reach_rgsCalendar (k : Grant) (hk : SafeGrant k) (h : Reach s0 s) : Reach s0 (rgsCalendar k s) := by
  unfold rgsCalendar
  try dsimp only
  repeat' split
  all_goals repeat with_reducible first | apply reach_rgsQueue
  all_goals try apply Reach.parts
  all_goals repeat with_reducible assumption
  all_goals first | exact .refl .. | exact ⟨rfl, .refl .., .refl ..⟩

theorem reach_cancelRun (k : Grant) (hk : SafeGrant k) (h : Reach s0 s) : Reach s0 (cancelRun k s) := by
  unfold cancelRun
  try dsimp only
  repeat' split
  all_goals repeat with_reducible first
    | assumption | apply reach_closeDraw | apply reach_stopStep | apply reach_exhaustTank | apply reach_keepTank
    | apply reach_startParking | apply reach_dropTank

theorem reach_cancelQueued (k : Grant) (hk : SafeGrant k) (h : Reach s0 s) : Reach s0 (cancelQueued k s) := by
  unfold cancelQueued
  repeat with_reducible first | assumption | apply reach_drainRelease | apply reach_finish | apply reach_keepTank

theorem reach_selCommand (k : Grant) (p : Pos) (hk : SafeGrant k) (h : Reach s0 s) : Reach s0 (selCommand k p s) := by
  unfold selCommand
  repeat' split
  all_goals repeat with_reducible first
    | assumption | apply reach_actRequest | apply reach_selDone | apply reach_selFailed

theorem reach_bypassOnTaken (k : Grant) (hk : SafeGrant k) (h : Reach s0 s) : Reach s0 (bypassOnTaken k s) := by
  unfold bypassOnTaken
  all_goals repeat with_reducible first | apply reach_selCommand
  all_goals try apply Reach.parts
  all_goals repeat with_reducible assumption
  all_goals first | exact .refl .. | exact ⟨rfl, .refl .., .refl ..⟩

theorem reach_bypassOffTaken (k : Grant) (t : TankId) (hk : SafeGrant k) (h :
    Reach s0 s) : Reach s0 (bypassOffTaken k t s) := by
  unfold bypassOffTaken
  repeat with_reducible first | assumption | apply reach_selCommand | apply reach_setMove

theorem reach_markDue (i : Fin 4) (h : Reach s0 s) : Reach s0 (markDue i s) := by
  unfold markDue
  repeat' split
  all_goals repeat with_reducible first | assumption | apply reach_raise | apply reach_setStage
  all_goals rfl

theorem reach_setDemand (cause : BwTrigger) (h : Reach s0 s) : Reach s0 (setDemand cause s) := by
  unfold setDemand
  split
  · exact (reach_raise _ (h.flt ⟨rfl, fun _ => rfl⟩)).flt ⟨rfl, fun _ => rfl⟩
  · exact h

theorem reach_judgeDemand (h : Reach s0 s) : Reach s0 (judgeDemand s) := by
  unfold judgeDemand
  repeat' split
  all_goals repeat with_reducible first | assumption | apply reach_setDemand

theorem reach_setFouled (b : Bool) (h : Reach s0 s) : Reach s0 (setFouled b s) := by
  unfold setFouled
  all_goals repeat with_reducible first | apply reach_raiseIf
  apply Reach.parts
  all_goals repeat with_reducible assumption
  all_goals first | exact .refl .. | exact ⟨rfl, fun _ => rfl⟩

theorem reach_fltIncrement (dv : Nat) (h : Reach s0 s) : Reach s0 (fltIncrement dv s) :=
  h.flt ⟨rfl, fun i => by simp [stageVolume, apply_ite Stage.conf]⟩

theorem reach_stagesSecond (h : Reach s0 s) : Reach s0 (stagesSecond s) :=
  h.flt ⟨rfl, fun i => by simp [stageSecond, apply_ite Stage.conf]⟩

theorem reach_judgeWatch (i : Fin 4) (high : Bool) (h : Reach s0 s) : Reach s0 (judgeWatch i high s) := by
  unfold judgeWatch
  repeat' split
  all_goals repeat with_reducible first | apply reach_setFouled | apply reach_markDue
  all_goals try apply Reach.parts
  all_goals repeat with_reducible first | assumption | apply reach_setFouled
  all_goals first | exact .refl .. | exact ⟨rfl, fun _ => rfl⟩

theorem reach_persisted (i : Fin 4) (h : Reach s0 s) : Reach s0 (persisted i s) := by
  unfold persisted
  repeat' split
  all_goals repeat with_reducible first | assumption | apply reach_markDue | apply reach_setDemand

theorem reach_evaluateStage (i : Fin 4) (h : Reach s0 s) : Reach s0 (evaluateStage i s) := by
  unfold evaluateStage
  try dsimp only
  repeat' split
  all_goals repeat with_reducible first
    | assumption | apply reach_setStage | apply reach_judgeWatch | apply reach_persisted
  all_goals rfl

theorem reach_foldl {α : Type} (f : State → α → State) (hf : ∀ a {s0 s}, Reach s0 s → Reach s0 (f s a)) (l : List α)
 (h : Reach s0 s) : Reach s0 (l.foldl f s) := by
  induction l generalizing s with
  | nil => exact h
  | cons a l ih => exact ih (hf a h)

theorem reach_fltFlowUpdate (h : Reach s0 s) : Reach s0 (fltFlowUpdate s) :=
  reach_foldl _ (fun _ _ _ h => reach_evaluateStage _ h) _ h

theorem reach_fltQueue (k : Grant) (st : Fin 4) (trig : BwTrigger) (hk : SafeGrant k) (h :
    Reach s0 s) : Reach s0 (fltQueue k st trig s) := by
  unfold fltQueue
  all_goals repeat with_reducible first | assumption | apply reach_drainRequest | apply reach_setFlt
  apply Reach.parts
  all_goals repeat with_reducible first | assumption | apply reach_setBwRun | apply reach_drainRequest
  all_goals first | exact .refl .. | exact ⟨rfl, fun _ => rfl⟩

theorem reach_stopBwStep (h : Reach s0 s) : Reach s0 (stopBwStep s) := by
  unfold stopBwStep
  repeat' split
  all_goals repeat with_reducible first | assumption | apply reach_allowanceReport

theorem reach_bwIdle (h : Reach s0 s) : Reach s0 (bwIdle s) := by
  unfold bwIdle
  repeat with_reducible first | assumption | apply reach_setFlt | apply reach_setBwRun

theorem reach_bwRestore (h : Reach s0 s) : Reach s0 (bwRestore s) := by
  unfold bwRestore
  repeat' split
  all_goals repeat with_reducible first | assumption | apply reach_bwRecordEnd
  all_goals try apply Reach.parts
  all_goals repeat with_reducible first | assumption | apply reach_setStage
  all_goals first | exact .refl .. | exact ⟨rfl, fun _ => rfl⟩

theorem reach_bwParkDone (k : Grant) (hk : SafeGrant k) (h : Reach s0 s) : Reach s0 (bwParkDone k s) := by
  unfold bwParkDone
  repeat' split
  all_goals repeat with_reducible first
    | assumption | apply reach_bwIdle | apply reach_drainRelease | apply reach_bwRestore

theorem reach_bwFault (k : Grant) (hk : SafeGrant k) (h : Reach s0 s) : Reach s0 (bwFault k s) := by
  unfold bwFault
  repeat with_reducible first
    | assumption | apply reach_bwIdle | apply reach_drainRelease | apply reach_bwRecordEnd | apply reach_stopBwStep

theorem reach_bwRotorFailed (k : Grant) (hk : SafeGrant k) (h : Reach s0 s) : Reach s0 (bwRotorFailed k s) := by
  unfold bwRotorFailed
  repeat' split
  all_goals repeat with_reducible first | assumption | apply reach_bwFault | apply reach_bwIdle

theorem reach_enterBwHeld (phase : SeqState) (h : Reach s0 s) : Reach s0 (enterBwHeld phase s) := by
  unfold enterBwHeld
  all_goals repeat with_reducible first | assumption | apply reach_setFlt
  apply Reach.parts
  all_goals repeat with_reducible first | assumption | apply reach_stopBwStep
  all_goals first | exact .refl .. | exact ⟨rfl, fun _ => rfl⟩

theorem reach_fltHold (h : Reach s0 s) : Reach s0 (fltHold s) := by
  unfold fltHold
  repeat' split
  all_goals repeat with_reducible first | assumption | apply reach_enterBwHeld

theorem reach_bwRotorDone (k : Grant) (p : Pos) (hk : SafeGrant k) (h :
    Reach s0 s) : Reach s0 (bwRotorDone k p s) := by
  unfold bwRotorDone
  repeat' split
  all_goals repeat with_reducible first
    | assumption | apply reach_setFlt | apply reach_allowanceReport | apply reach_enterBwHeld | apply reach_bwParkDone

theorem reach_bwRotorAsk (k : Grant) (p : Pos) (hk : SafeGrant k) (h : Reach s0 s) : Reach s0 (bwRotorAsk k p s) := by
  unfold bwRotorAsk
  repeat' split
  all_goals repeat with_reducible first
    | assumption | apply reach_actRequest | apply reach_bwRotorDone | apply reach_bwRotorFailed

theorem reach_askBwStep (k : Grant) (hk : SafeGrant k) (h : Reach s0 s) : Reach s0 (askBwStep k s) := by
  unfold askBwStep
  repeat' split
  all_goals repeat with_reducible first | assumption | apply reach_bwRotorAsk

theorem reach_enterBwPositioning (k : Grant) (hk : SafeGrant k) (h :
    Reach s0 s) : Reach s0 (enterBwPositioning k s) := by
  unfold enterBwPositioning
  repeat' split
  all_goals repeat with_reducible first
    | assumption | apply reach_askBwStep | apply reach_setFlt | apply reach_enterBwHeld

theorem reach_startBwParking (k : Grant) (decided : Bool) (hk : SafeGrant k) (h :
    Reach s0 s) : Reach s0 (startBwParking k decided s) := by
  unfold startBwParking
  repeat with_reducible first | assumption | apply reach_bwRotorAsk | apply reach_setFlt | apply reach_setBwRun

theorem reach_takeBwStep (k : Grant) (i : Fin 4) (hk : SafeGrant k) (h :
    Reach s0 s) : Reach s0 (takeBwStep k i s) := by
  unfold takeBwStep
  repeat with_reducible first | assumption | apply reach_enterBwPositioning | apply reach_setBwRun

theorem reach_fltGranted (k : Grant) (hk : SafeGrant k) (h : Reach s0 s) : Reach s0 (fltGranted k s) := by
  unfold fltGranted
  try dsimp only
  repeat' split
  all_goals repeat with_reducible first
    | assumption | apply reach_updateBwRecord | apply reach_takeBwStep | apply reach_bwIdle
    | apply reach_bwRecordEnd | apply reach_drainRelease
  all_goals try apply Reach.parts
  all_goals repeat with_reducible first | assumption | apply reach_takeBwStep | apply reach_bwRecordEnd
  all_goals first | exact .refl .. | exact ⟨rfl, fun _ => rfl⟩

theorem reach_endBwStep (k : Grant) (hk : SafeGrant k) (h : Reach s0 s) : Reach s0 (endBwStep k s) := by
  unfold endBwStep
  try dsimp only
  repeat' split
  all_goals repeat with_reducible first
    | assumption | apply reach_raise | apply reach_updateBwRecord | apply reach_stopBwStep
    | apply reach_takeBwStep | apply reach_startBwParking

theorem reach_fltResume (k : Grant) (hk : SafeGrant k) (h : Reach s0 s) : Reach s0 (fltResume k s) := by
  unfold fltResume
  repeat' split
  all_goals repeat with_reducible first | assumption | apply reach_askBwStep | apply reach_setFlt

theorem reach_offerFlt (h : Reach s0 s) : Reach s0 (offerFlt s) := by
  unfold offerFlt
  repeat' split
  all_goals repeat with_reducible first | assumption | apply reach_offerFault

theorem reach_bwAbandon (k : Grant) (hk : SafeGrant k) (h : Reach s0 s) : Reach s0 (bwAbandon k s) := by
  unfold bwAbandon
  repeat with_reducible first
    | assumption | apply reach_startBwParking | apply reach_drainRelease | apply reach_offerFlt
    | apply reach_bwRecordEnd

theorem reach_bwRotorMoved (k : Grant) (reset : Bool) (at? : Option Pos) (hk : SafeGrant k) (h :
    Reach s0 s) : Reach s0 (bwRotorMoved k reset at? s) := by
  unfold bwRotorMoved
  repeat' split
  all_goals repeat with_reducible first
    | assumption | apply reach_enterBwPositioning | apply reach_stopBwStep | apply reach_askBwStep
    | apply reach_bwRotorAsk | apply reach_actRequest

theorem reach_bwRotorAdopted (p : Pos) (h : Reach s0 s) : Reach s0 (bwRotorAdopted p s) := by
  unfold bwRotorAdopted
  repeat' split
  all_goals repeat with_reducible first | assumption | apply reach_actRequest

theorem reach_queueForDemand (k : Grant) (hk : SafeGrant k) (h : Reach s0 s) : Reach s0 (queueForDemand k s) := by
  unfold queueForDemand
  try dsimp only
  repeat' split
  all_goals repeat with_reducible first | apply reach_fltQueue
  all_goals try apply Reach.parts
  all_goals repeat with_reducible assumption
  all_goals first | exact .refl .. | exact ⟨rfl, fun _ => rfl⟩

theorem reach_filterReplacedTaken (i : Fin 4) (h : Reach s0 s) : Reach s0 (filterReplacedTaken i s) := by
  unfold filterReplacedTaken
  try dsimp only
  repeat' split
  all_goals repeat with_reducible first | apply reach_raiseIf | apply reach_setStage
  all_goals try apply Reach.parts
  all_goals repeat with_reducible first
    | assumption | apply reach_raiseIf | apply reach_setStage | apply reach_setFouled
  all_goals first | exact .refl .. | exact ⟨rfl, fun _ => rfl⟩

theorem reach_dueAfresh (i : Fin 4) (h : Reach s0 s) : Reach s0 (dueAfresh i s) := by
  unfold dueAfresh
  all_goals repeat with_reducible first | assumption | apply reach_raiseIf | apply reach_setStage
  all_goals rfl

theorem reach_setMainShut (m : MainState) (h : Reach s0 s) : Reach s0 (setMainShut m s) := by
  unfold setMainShut
  repeat' split
  all_goals repeat with_reducible first | assumption | apply reach_setMain | apply reach_fltHold | apply reach_rgsHold

theorem reach_setMainOpen (k : Grant) (hk : SafeGrant k) (h : Reach s0 s) : Reach s0 (setMainOpen k s) := by
  unfold setMainOpen
  repeat' split
  all_goals repeat with_reducible first
    | assumption | apply reach_fltResume | apply reach_rgsResume | apply reach_drainRegrant | apply reach_setMain

theorem reach_testIdle (h : Reach s0 s) : Reach s0 (testIdle s) := by
  unfold testIdle
  repeat with_reducible first | assumption | apply reach_updateTestRecord | apply reach_setTest | apply reach_putTest

theorem reach_testRelease (k : Grant) (hk : SafeGrant k) (h : Reach s0 s) : Reach s0 (testRelease k s) := by
  unfold testRelease
  repeat with_reducible first | assumption | apply reach_testIdle | apply reach_drainRelease

theorem reach_testStop (k : Grant) (r : TestResult) (hk : SafeGrant k) (h :
    Reach s0 s) : Reach s0 (testStop k r s) := by
  unfold testStop
  repeat' split
  all_goals repeat with_reducible first | assumption | apply reach_testRelease | apply reach_setResult

theorem reach_testValve (k : Grant) (hk : SafeGrant k) (h : Reach s0 s) : Reach s0 (testValve k s) := by
  unfold testValve
  repeat' split
  all_goals repeat with_reducible first | assumption | apply reach_testStop

theorem reach_mainRefused (k : Grant) (a : Answer) (hk : SafeGrant k) (h :
    Reach s0 s) : Reach s0 (mainRefused k a s) := by
  unfold mainRefused
  repeat with_reducible first | assumption | apply reach_testValve | apply reach_setMainShut

theorem reach_closeMainFor (k : Grant) (r : CloseReason) (hk : SafeGrant k) (h :
    Reach s0 s) : Reach s0 (closeMainFor k r s) := by
  unfold closeMainFor
  repeat' split
  all_goals repeat with_reducible first
    | assumption | apply reach_actRequest | apply reach_setMainShut | apply reach_mainRefused

theorem reach_openMainAsk (k : Grant) (hk : SafeGrant k) (h : Reach s0 s) : Reach s0 (openMainAsk k s) := by
  unfold openMainAsk
  repeat' split
  all_goals repeat with_reducible first
    | assumption | apply reach_actRequest | apply reach_setMainShut | apply reach_setMainOpen
    | apply reach_mainRefused

theorem reach_latchClose (k : Grant) (hk : SafeGrant k) (h : Reach s0 s) : Reach s0 (latchClose k s) := by
  unfold latchClose
  repeat' split
  all_goals repeat with_reducible first | assumption | apply reach_closeMainFor | apply reach_setMainShut

theorem reach_latchSet (k : Grant) (c : LatchCause) (hk : SafeGrant k) (h :
    Reach s0 s) : Reach s0 (latchSet k c s) := by
  unfold latchSet
  repeat' split
  all_goals repeat with_reducible first
    | assumption | apply reach_raise | apply reach_latchClose | apply reach_testStop
  all_goals try apply Reach.parts
  all_goals repeat with_reducible first | assumption | apply reach_latchClose
  all_goals first | exact .refl .. | exact ⟨rfl, rfl, fun _ => rfl⟩

theorem reach_latchedRetry (k : Grant) (hk : SafeGrant k) (h : Reach s0 s) : Reach s0 (latchedRetry k s) := by
  unfold latchedRetry
  try dsimp only
  repeat' split
  all_goals repeat with_reducible first | apply reach_closeMainFor
  all_goals try apply Reach.parts
  all_goals repeat with_reducible assumption
  all_goals first | exact .refl .. | exact ⟨rfl, rfl, fun _ => rfl⟩

theorem reach_enterSettle (h : Reach s0 s) : Reach s0 (enterSettle s) := by
  unfold enterSettle
  repeat with_reducible first | assumption | apply reach_setTest | apply reach_putTest

theorem reach_testClosed (h : Reach s0 s) : Reach s0 (testClosed s) := by
  unfold testClosed
  repeat' split
  all_goals repeat with_reducible first | assumption | apply reach_enterSettle

theorem reach_testOpened (k : Grant) (hk : SafeGrant k) (h : Reach s0 s) : Reach s0 (testOpened k s) := by
  unfold testOpened
  repeat' split
  all_goals repeat with_reducible first | assumption | apply reach_testRelease

theorem reach_testGranted (k : Grant) (hk : SafeGrant k) (h : Reach s0 s) : Reach s0 (testGranted k s) := by
  unfold testGranted
  repeat' split
  all_goals repeat with_reducible first
    | assumption | apply reach_testClosed | apply reach_closeMainFor | apply reach_setTest | apply reach_putTest
    | apply reach_drainRelease

theorem reach_testStart (k : Grant) (trig : TestTrigger) (hk : SafeGrant k) (h :
    Reach s0 s) : Reach s0 (testStart k trig s) := by
  unfold testStart
  repeat with_reducible first | assumption | apply reach_drainRequest | apply reach_setTest | apply reach_putTest

theorem reach_testCalendar (k : Grant) (hk : SafeGrant k) (h : Reach s0 s) : Reach s0 (testCalendar k s) := by
  unfold testCalendar
  try dsimp only
  repeat' split
  all_goals repeat with_reducible first | apply reach_testStart
  all_goals try apply Reach.parts
  all_goals repeat with_reducible assumption
  all_goals first | exact .refl .. | exact ⟨rfl, rfl, fun _ => rfl⟩

theorem reach_testReopen (k : Grant) (hk : SafeGrant k) (h : Reach s0 s) : Reach s0 (testReopen k s) := by
  unfold testReopen
  repeat with_reducible first
    | assumption | apply reach_testOpened | apply reach_openMainAsk | apply reach_setTest | apply reach_putTest

theorem reach_testAbortReopen (k : Grant) (r : TestResult) (hk : SafeGrant k) (h :
    Reach s0 s) : Reach s0 (testAbortReopen k r s) := by
  unfold testAbortReopen
  repeat with_reducible first | assumption | apply reach_testReopen | apply reach_setResult

theorem reach_testStale (k : Grant) (hk : SafeGrant k) (h : Reach s0 s) : Reach s0 (testStale k s) := by
  unfold testStale
  repeat' split
  all_goals repeat with_reducible first
    | assumption | apply reach_testRelease | apply reach_setResult | apply reach_testAbortReopen

theorem reach_testWindow (k : Grant) (hk : SafeGrant k) (h : Reach s0 s) : Reach s0 (testWindow k s) := by
  unfold testWindow
  repeat with_reducible first | assumption | apply reach_testIdle | apply reach_setResult | apply reach_drainRelease

theorem reach_enterMeasure (h : Reach s0 s) : Reach s0 (enterMeasure s) := by
  unfold enterMeasure
  repeat with_reducible first | assumption | apply reach_setTest | apply reach_updateTestRecord | apply reach_putTest

theorem reach_testSettled (k : Grant) (hk : SafeGrant k) (h : Reach s0 s) : Reach s0 (testSettled k s) := by
  unfold testSettled
  repeat' split
  all_goals repeat with_reducible first | assumption | apply reach_enterMeasure | apply reach_testAbortReopen

theorem reach_measureCheck (k : Grant) (hk : SafeGrant k) (h : Reach s0 s) : Reach s0 (measureCheck k s) := by
  unfold measureCheck
  repeat' split
  all_goals repeat with_reducible first | assumption | apply reach_testAbortReopen | apply reach_putTest

theorem reach_decideTest (h : Reach s0 s) : Reach s0 (decideTest s) := by
  unfold decideTest
  repeat with_reducible first
    | assumption | apply reach_setResult | apply reach_updateTestRecord | apply reach_putTest

theorem reach_testMeasured (k : Grant) (hk : SafeGrant k) (h : Reach s0 s) : Reach s0 (testMeasured k s) := by
  unfold testMeasured
  try dsimp only
  repeat' split
  all_goals repeat with_reducible first
    | assumption | apply reach_decideTest | apply reach_testRelease | apply reach_latchSet
    | apply reach_testReopen | apply reach_testAbortReopen

theorem reach_mainDone (k : Grant) (p : Pos) (hk : SafeGrant k) (h : Reach s0 s) : Reach s0 (mainDone k p s) := by
  unfold mainDone
  repeat' split
  all_goals repeat with_reducible first
    | assumption | apply reach_testClosed | apply reach_setMainShut | apply reach_testOpened | apply reach_setMainOpen

theorem reach_mainFault (k : Grant) (hk : SafeGrant k) (h : Reach s0 s) : Reach s0 (mainFault k s) := by
  unfold mainFault
  repeat with_reducible first | assumption | apply reach_testValve | apply reach_setMainShut

theorem reach_mainFoundOpen (k : Grant) (hk : SafeGrant k) (h : Reach s0 s) : Reach s0 (mainFoundOpen k s) := by
  unfold mainFoundOpen
  repeat' split
  all_goals repeat with_reducible first | assumption | apply reach_closeMainFor | apply reach_setMainOpen

theorem reach_mainFoundClosed (h : Reach s0 s) : Reach s0 (mainFoundClosed s) := by
  unfold mainFoundClosed
  repeat with_reducible first | assumption | apply reach_setMainShut

theorem reach_mainDisplaced (k : Grant) (at? : Option Pos) (hk : SafeGrant k) (h :
    Reach s0 s) : Reach s0 (mainDisplaced k at? s) := by
  unfold mainDisplaced
  repeat' split
  all_goals repeat with_reducible first
    | assumption | apply reach_testValve | apply reach_mainFoundOpen | apply reach_mainFoundClosed
    | apply reach_setMainShut

theorem reach_mainReset (k : Grant) (hk : SafeGrant k) (h : Reach s0 s) : Reach s0 (mainReset k s) := by
  unfold mainReset
  repeat with_reducible first | assumption | apply reach_testValve | apply reach_setMainShut

theorem reach_mainAdopted (k : Grant) (p : Pos) (hk : SafeGrant k) (h :
    Reach s0 s) : Reach s0 (mainAdopted k p s) := by
  unfold mainAdopted
  repeat' split
  all_goals repeat with_reducible first | assumption | apply reach_mainFoundOpen | apply reach_mainFoundClosed

theorem reach_drawIncrement (net : Nat) (h : Reach s0 s) : Reach s0 (drawIncrement net s) := by
  unfold drawIncrement
  repeat' split
  all_goals try apply Reach.parts
  all_goals try assumption
  all_goals first | exact .refl .. | exact ⟨rfl, rfl, fun _ => rfl⟩

theorem reach_tripRule (k : Grant) (i : Fin 16) (hk : SafeGrant k) (h : Reach s0 s) : Reach s0 (tripRule k i s) := by
  unfold tripRule
  try dsimp only
  repeat' split
  all_goals repeat with_reducible first | assumption | apply reach_raise | apply reach_setRule | apply reach_latchSet
  all_goals rfl

theorem reach_judgeEventRule (k : Grant) (i : Fin 16) (hk : SafeGrant k) (h :
    Reach s0 s) : Reach s0 (judgeEventRule k i s) := by
  unfold judgeEventRule
  try dsimp only
  repeat' split
  all_goals repeat with_reducible first | assumption | apply reach_tripRule

theorem reach_judgeZoneRule (k : Grant) (i : Fin 16) (hk : SafeGrant k) (h :
    Reach s0 s) : Reach s0 (judgeZoneRule k i s) := by
  unfold judgeZoneRule
  try dsimp only
  repeat' split
  all_goals repeat with_reducible first | assumption | apply reach_tripRule | apply reach_setRule
  all_goals rfl

theorem reach_judgeZoneRules (k : Grant) (hk : SafeGrant k) (h : Reach s0 s) : Reach s0 (judgeZoneRules k s) :=
  reach_foldl _ (fun _ _ _ h => reach_judgeZoneRule _ _ hk h) _ h

theorem reach_lkgIncrement (k : Grant) (dv aVol : Nat) (hk : SafeGrant k) (h : Reach s0 s) :
    Reach s0 (lkgIncrement k dv aVol s) :=
  reach_foldl _ (fun _ _ _ h => reach_judgeEventRule _ _ hk h) _ (reach_drawIncrement _ h)

theorem reach_endDraw (h : Reach s0 s) : Reach s0 (endDraw s) := by
  unfold endDraw
  split
  · exact h.lkg ⟨rfl, rfl, fun i => by simp [eventEnded, apply_ite Rule.conf]⟩
  · exact h.lkg ⟨rfl, rfl, fun _ => rfl⟩

theorem reach_clearLatch (h : Reach s0 s) : Reach s0 (clearLatch s) :=
  reach_raise _ (h.lkg ⟨rfl, rfl, fun i => by simp [rearmed, apply_ite Rule.conf]⟩)

theorem reach_zoneReport (k : Grant) (i : Fin 8) (low : Nat) (hk : SafeGrant k) (h :
    Reach s0 s) : Reach s0 (zoneReport k i low s) := by
  unfold zoneReport
  repeat with_reducible first | assumption | apply reach_judgeZoneRules | apply reach_raiseIf | apply reach_setZone

theorem reach_moistureSample (k : Grant) (v : Nat) (hk : SafeGrant k) (h :
    Reach s0 s) : Reach s0 (moistureSample k v s) := by
  unfold moistureSample
  repeat' split
  all_goals repeat with_reducible first | apply reach_zoneReport | apply reach_raise
  all_goals try apply Reach.parts
  all_goals repeat with_reducible first | assumption | apply reach_zoneReport
  all_goals first | exact .refl .. | exact ⟨rfl, rfl, fun _ => rfl⟩

theorem reach_silentTaken (k : Grant) (i : Fin 8) (hk : SafeGrant k) (h :
    Reach s0 s) : Reach s0 (silentTaken k i s) := by
  unfold silentTaken
  repeat with_reducible first | assumption | apply reach_judgeZoneRules | apply reach_raise | apply reach_setZone

theorem reach_zonesReported (h : Reach s0 s) : Reach s0 (zonesReported s) := by
  unfold zonesReported
  apply Reach.parts
  all_goals try assumption
  all_goals first | exact .refl .. | exact ⟨rfl, rfl, fun _ => rfl⟩

theorem reach_fieldLostTaken (k : Grant) (hk : SafeGrant k) (h : Reach s0 s) : Reach s0 (fieldLostTaken k s) := by
  unfold fieldLostTaken
  all_goals repeat with_reducible first | apply reach_offerFault | apply reach_latchSet
  all_goals try apply Reach.parts
  all_goals repeat with_reducible first | assumption | apply reach_offerFault
  all_goals first | exact .refl .. | exact ⟨rfl, rfl, fun _ => rfl⟩

theorem reach_closeMainAct (k : Grant) (hk : SafeGrant k) (h : Reach s0 s) : Reach s0 (closeMainAct k s) := by
  unfold closeMainAct
  repeat' split
  all_goals repeat with_reducible first | assumption | apply reach_closeMainFor | apply reach_setMainShut

theorem reach_closeMainTaken (k : Grant) (hk : SafeGrant k) (h : Reach s0 s) : Reach s0 (closeMainTaken k s) := by
  unfold closeMainTaken
  repeat with_reducible first | assumption | apply reach_testStop | apply reach_closeMainAct

theorem reach_abortTest (k : Grant) (hk : SafeGrant k) (h : Reach s0 s) : Reach s0 (abortTest k s) := by
  unfold abortTest
  repeat' split
  all_goals repeat with_reducible first
    | assumption | apply reach_testRelease | apply reach_setResult | apply reach_testAbortReopen

theorem reach_granted (n : Nat) : SafeGrant (granted n) := by
  induction n with
  | zero => intro r _ _ h; cases r <;> exact h
  | succ n ih =>
    intro r _ _ h
    cases r
    · exact reach_rgsGranted _ ih h
    · exact reach_fltGranted _ ih h
    · exact reach_testGranted _ ih h

theorem reach_onGrant : SafeGrant onGrant := reach_granted 16

theorem reach_notifyDone (a : Actr) (old : Option Pos) (p : Pos) (h :
    Reach s0 s) : Reach s0 (notifyDone a old p s) := by
  unfold notifyDone
  repeat' split
  all_goals repeat with_reducible first
    | assumption | exact reach_onGrant | apply reach_mainDone | apply reach_selDone | apply reach_rgsRotorDone
    | apply reach_bwRotorDone

theorem reach_notifyFault (a : Actr) (code : Byte) (h : Reach s0 s) : Reach s0 (notifyFault a code s) := by
  unfold notifyFault
  repeat' split
  all_goals repeat with_reducible first
    | assumption | exact reach_onGrant | apply reach_mainFault | apply reach_selFailed
    | apply reach_rgsRotorFailed | apply reach_bwRotorFailed

theorem reach_notifyDisplaced (a : Actr) (at? : Option Pos) (h :
    Reach s0 s) : Reach s0 (notifyDisplaced a at? s) := by
  unfold notifyDisplaced
  repeat' split
  all_goals repeat with_reducible first
    | assumption | exact reach_onGrant | apply reach_mainDisplaced | apply reach_rgsRotorMoved
    | apply reach_bwRotorMoved

theorem reach_notifyAdopted (a : Actr) (old : Option Pos) (p : Pos) (h :
    Reach s0 s) : Reach s0 (notifyAdopted a old p s) := by
  unfold notifyAdopted
  repeat' split
  all_goals repeat with_reducible first
    | assumption | exact reach_onGrant | apply reach_mainAdopted | apply reach_selReached
    | apply reach_rgsRotorAdopted | apply reach_bwRotorAdopted

theorem reach_notifyReset (a : Actr) (h : Reach s0 s) : Reach s0 (notifyReset a s) := by
  unfold notifyReset
  repeat' split
  all_goals repeat with_reducible first
    | assumption | exact reach_onGrant | apply reach_mainReset | apply reach_rgsRotorMoved | apply reach_bwRotorMoved

theorem reach_drainGrantEvent (h : Reach s0 s) : Reach s0 (drainGrantEvent s) := by
  unfold drainGrantEvent
  repeat with_reducible first | assumption | exact reach_onGrant | apply reach_drainRegrant

theorem reach_calendarRegenEvent (h : Reach s0 s) : Reach s0 (calendarRegenEvent s) := by
  unfold calendarRegenEvent
  repeat' split
  all_goals repeat with_reducible first | assumption | exact reach_onGrant | apply reach_rgsCalendar

theorem reach_regenStepEndEvent (h : Reach s0 s) : Reach s0 (regenStepEndEvent s) := by
  unfold regenStepEndEvent
  repeat' split
  all_goals repeat with_reducible first | assumption | exact reach_onGrant | apply reach_endStep

theorem reach_settlingEvent (h : Reach s0 s) : Reach s0 (settlingEvent s) := by
  unfold settlingEvent
  repeat' split
  all_goals repeat with_reducible first | assumption | apply reach_settle600

theorem reach_regenHoldEvent (h : Reach s0 s) : Reach s0 (regenHoldEvent s) := by
  unfold regenHoldEvent
  repeat' split
  all_goals repeat with_reducible first | assumption | exact reach_onGrant | apply reach_rgsAbandon

theorem reach_stageDueEvent (i : Fin 4) (h : Reach s0 s) : Reach s0 (stageDueEvent i s) := by
  unfold stageDueEvent
  repeat' split
  all_goals repeat with_reducible first | assumption | apply reach_markDue

theorem reach_demandEvent (h : Reach s0 s) : Reach s0 (demandEvent s) := by
  unfold demandEvent
  repeat with_reducible first | assumption | apply reach_judgeDemand

theorem reach_queueEvent (h : Reach s0 s) : Reach s0 (queueEvent s) := by
  unfold queueEvent
  repeat' split
  all_goals repeat with_reducible first | assumption | exact reach_onGrant | apply reach_queueForDemand

theorem reach_bwStepEndEvent (h : Reach s0 s) : Reach s0 (bwStepEndEvent s) := by
  unfold bwStepEndEvent
  repeat' split
  all_goals repeat with_reducible first | assumption | exact reach_onGrant | apply reach_endBwStep

theorem reach_bwHoldEvent (h : Reach s0 s) : Reach s0 (bwHoldEvent s) := by
  unfold bwHoldEvent
  repeat' split
  all_goals repeat with_reducible first | assumption | exact reach_onGrant | apply reach_bwAbandon

theorem reach_ruleTripEvent (i : Fin 16) (h : Reach s0 s) : Reach s0 (ruleTripEvent i s) := by
  unfold ruleTripEvent
  repeat' split
  all_goals repeat with_reducible first | assumption | exact reach_onGrant | apply reach_tripRule

theorem reach_drawEndEvent (h : Reach s0 s) : Reach s0 (drawEndEvent s) := by
  unfold drawEndEvent
  repeat' split
  all_goals repeat with_reducible first | assumption | apply reach_endDraw

theorem reach_zoneSilentEvent (i : Fin 8) (h : Reach s0 s) : Reach s0 (zoneSilentEvent i s) := by
  unfold zoneSilentEvent
  repeat' split
  all_goals repeat with_reducible first | assumption | exact reach_onGrant | apply reach_silentTaken

theorem reach_fieldLostEvent (h : Reach s0 s) : Reach s0 (fieldLostEvent s) := by
  unfold fieldLostEvent
  repeat' split
  all_goals repeat with_reducible first | assumption | exact reach_onGrant | apply reach_fieldLostTaken

theorem reach_retryEvent (h : Reach s0 s) : Reach s0 (retryEvent s) := by
  unfold retryEvent
  repeat' split
  all_goals repeat with_reducible first | assumption | exact reach_onGrant | apply reach_latchedRetry

theorem reach_testCalendarEvent (h : Reach s0 s) : Reach s0 (testCalendarEvent s) := by
  unfold testCalendarEvent
  repeat' split
  all_goals repeat with_reducible first | assumption | exact reach_onGrant | apply reach_testCalendar

theorem reach_testWindowEvent (h : Reach s0 s) : Reach s0 (testWindowEvent s) := by
  unfold testWindowEvent
  repeat' split
  all_goals repeat with_reducible first | assumption | exact reach_onGrant | apply reach_testWindow

theorem reach_testSettleEvent (h : Reach s0 s) : Reach s0 (testSettleEvent s) := by
  unfold testSettleEvent
  repeat' split
  all_goals repeat with_reducible first | assumption | exact reach_onGrant | apply reach_testSettled

theorem reach_testMeasureEvent (h : Reach s0 s) : Reach s0 (testMeasureEvent s) := by
  unfold testMeasureEvent
  repeat' split
  all_goals repeat with_reducible first | assumption | exact reach_onGrant | apply reach_testMeasured

end Sys2Proof.Machine
end

