-- ==== Sys2Proof/Laws/Frame.lean ====
section
/-! SUPPORT. What follows from Reach: the parts that no operation of the machine's blocks touches, and the laws that all of
them keep. -/

namespace Sys2Proof.Machine

variable {s t : State}

/-! ### Actuators -/

theorem requestRun_still (c : ActuatorRec) (p : Pos) (r : ActuatorRun) : (requestRun c p r).1.still = r.still := by
  unfold requestRun startMove
  repeat' split
  all_goals rfl

theorem requestRun_inFault (c : ActuatorRec) (p : Pos) (r : ActuatorRun) (h : r.inFault) : (requestRun c p r).1 = r := by
  unfold ActuatorRun.inFault at h
  unfold requestRun
  split <;> [split; rfl] <;> simp_all

theorem requestRun_confirmed (c : ActuatorRec) (p : Pos) (r : ActuatorRun) :
    (requestRun c p r).1.lastConfirmed = r.lastConfirmed ∨ (requestRun c p r).1.lastConfirmed = r.recognised := by
  unfold requestRun startMove
  repeat' split
  all_goals simp_all [ActuatorRun.enterAt, ActuatorRun.enterMoving]

theorem act_actRequest (a b : Actr) (p : Pos) (s : State) :
    (actRequest a p s).act b =
      if b = a then { s.act a with run := (requestRun (s.act a).conf p (s.act a).run).1 } else s.act b := by
  unfold actRequest
  split
  · subst b; simp
  · exact setAct_act_other _ _ _ _ ‹_›

theorem prim_act (h : Prim s t) (a : Actr) :
    t.act a = s.act a ∨ ∃ p, (t.act a) = { s.act a with run := (requestRun (s.act a).conf p (s.act a).run).1 } := by
  cases h with
  | flag => exact .inl (raise_act ..)
  | offer => exact .inl (offerFault_act ..)
  | request b p =>
    rw [act_actRequest]
    split
    · subst a; exact .inr ⟨p, rfl⟩
    · exact .inl rfl
  | parts => cases a <;> exact .inl rfl

theorem reach_still (h : Reach s t) (a : Actr) : (t.act a).still = (s.act a).still := by
  induction h with
  | same => rfl
  | more _ p ih =>
    rcases prim_act p a with e | ⟨q, e⟩ <;> rw [e]
    · exact ih
    · rw [← ih]; simp [Actuator.still, requestRun_still]

/-- The record, the recognised position and the last fault of an actuator outlive every operation. -/
theorem reach_act_parts (h : Reach s t) (a : Actr) : (t.act a).conf = (s.act a).conf
    ∧ (t.act a).run.recognised = (s.act a).run.recognised ∧ (t.act a).run.lastFault = (s.act a).run.lastFault := by
  have e := reach_still h a
  simp only [Actuator.still, ActuatorRun.still, Actuator.mk.injEq, ActuatorRun.mk.injEq] at e
  exact ⟨e.1, e.2.2.2.2.2.1, e.2.2.2.2.2.2.2.2.2.2.1⟩

/-- An actuator in a fault state stays as it is (R63, R70). -/
theorem reach_inFault (h : Reach s t) (a : Actr) (f : (s.act a).run.inFault) : t.act a = s.act a := by
  induction h with
  | same => rfl
  | more _ p ih =>
    rcases prim_act p a with e | ⟨q, e⟩
    · rw [e, ih]
    · rw [e, ih, requestRun_inFault _ _ _ f]

/-- The last confirmed position becomes none but the recognised one (R59, R63). -/
theorem reach_confirmed (h : Reach s t) (a : Actr) :
    (t.act a).run.lastConfirmed = (s.act a).run.lastConfirmed
      ∨ (t.act a).run.lastConfirmed = (s.act a).run.recognised := by
  induction h with
  | same => exact .inl rfl
  | @more u v g p ih =>
    have r := (reach_act_parts g a).2.1
    rcases prim_act p a with e | ⟨q, e⟩ <;> rw [e]
    · exact ih
    · rcases requestRun_confirmed (u.act a).conf q (u.act a).run with c | c <;> rw [c]
      · exact ih
      · exact .inr r

/-! ### What is apart -/

theorem apart_setAct (a : Actr) {x : Actuator} (h : x.still = (s.act a).still) : (setAct a x s).apart = s.apart := by
  cases a <;> simp only [setAct, State.apart, h, State.act]

theorem prim_apart (h : Prim s t) : t.apart = s.apart := by
  cases h with
  | flag => rfl
  | offer => unfold offerFault; split <;> rfl
  | request a p => exact apart_setAct a (by simp [Actuator.still, requestRun_still])
  | parts _ d a r x f l ha hr hx hf hl =>
    have e1 : (Vector.ofFn fun i : Fin 4 => f.stages[i].still) = Vector.ofFn fun i : Fin 4 => s.flt.stages[i].still := by
      congr 1; funext i; simp only [Stage.still, hf.records i]
    have e2 : (Vector.ofFn fun i : Fin 16 => l.rules[i].still) = Vector.ofFn fun i : Fin 16 => s.lkg.rules[i].still := by
      congr 1; funext i; simp only [Rule.still, hl.records i]
    simp only [State.apart, ha.parts, hr.program, hx.settings, hf.program, hl.config, hl.windows, e1, e2]

/-- Every operation of the machine's blocks leaves what is apart as it is. -/
theorem reach_apart (h : Reach s t) : t.apart = s.apart := by
  induction h with
  | same => rfl
  | more _ p ih => rw [prim_apart p, ih]

@[simp] theorem Actuator.unfaulted_conf (x : Actuator) : x.unfaulted.conf = x.conf := rfl

@[simp] theorem Actuator.unfaulted_lastFault (x : Actuator) : x.unfaulted.run.lastFault = none := rfl

/-- What is apart holds what is apart of the faults. -/
theorem apartFaults_of_apart (h : t.apart = s.apart) : t.apartFaults = s.apartFaults := by
  simp only [State.apartFaults, h]

/-- Every operation of the machine's blocks leaves what is apart of the faults as it is. -/
theorem reach_apartFaults (h : Reach s t) : t.apartFaults = s.apartFaults := apartFaults_of_apart (reach_apart h)

theorem apartFaults_setAct (a : Actr) {x : Actuator} (h : x.still.unfaulted = (s.act a).still.unfaulted) :
    (setAct a x s).apartFaults = s.apartFaults := by
  cases a <;> simp only [setAct, State.apartFaults, State.apart, h, State.act]

/-! ### The selector's move -/

@[simp] theorem SelMove.target_none : SelMove.none.target = Option.none := rfl

@[simp] theorem SelMove.target_swap (x : TankId) : (SelMove.swap x).target = some x.pos := rfl

@[simp] theorem SelMove.target_bypassOff (x : TankId) : (SelMove.bypassOff x).target = some x.pos := rfl

@[simp] theorem SelMove.target_bypassOn : SelMove.bypassOn.target = some .bypass := rfl

/-! ### Flags and the first-fault record -/

theorem flagSet_or (s : State) (f g : Flag) (h : s.flagSet g) : (raise f s).flagSet g := by
  simp only [State.flagSet, raise, BitVec.getLsbD_or] at h ⊢
  simp [h]

theorem flagSet_raise (s : State) (f : Flag) : (raise f s).flagSet f := by
  cases f <;> simp [State.flagSet, raise, Flag.number]

/-- A change flag once set stays set until it is cleared by command (R172). -/
theorem reach_flagSet (h : Reach s t) (f : Flag) (g : s.flagSet f) : t.flagSet f := by
  induction h with
  | same => exact g
  | more _ p ih =>
    cases p with
    | flag => exact flagSet_or _ _ _ ih
    | offer =>
      unfold offerFault
      split
      · exact ih
      · exact flagSet_or _ _ _ ih
    | request a q => cases a <;> exact ih
    | parts => exact ih

/-- A valid first-fault record keeps its contents but for LOST, which stays set (R173). -/
theorem reach_fault (h : Reach s t) (g : s.mgu.fault.valid) :
    t.mgu.fault = { s.mgu.fault with lost := t.mgu.fault.lost } ∧ (s.mgu.fault.lost → t.mgu.fault.lost) := by
  induction h with
  | same => exact ⟨rfl, id⟩
  | more _ p ih =>
    cases p with
    | flag => exact ih
    | offer k n d u =>
      have v : (offerFault k n d ‹State›).mgu.fault = { ‹State›.mgu.fault with lost := true } := by
        unfold offerFault
        rw [if_pos (by rw [ih.1]; exact g)]
      rw [v]
      exact ⟨by rw [ih.1], fun _ => rfl⟩
    | request a q => cases a <;> exact ih
    | parts => exact ih

/-! ### Laws -/

theorem apart_acc (h : t.apart = s.apart) : t.acc.settings = s.acc.settings
    ∧ t.acc.efficiencyCurve = s.acc.efficiencyCurve ∧ t.acc.pulseCarry = s.acc.pulseCarry
    ∧ t.acc.brineCarry = s.acc.brineCarry := by
  have e : t.apart.acc = s.apart.acc := by rw [h]
  simp only [State.apart, Account.mk.injEq] at e
  exact ⟨e.1, e.2.2.2.1, e.2.2.2.2.1, e.2.2.2.2.2.2.1⟩

/-- The allowance carry stays or becomes 0. -/
theorem reach_allowCarry (h : Reach s t) : t.acc.allowCarry = s.acc.allowCarry ∨ t.acc.allowCarry = 0 := by
  induction h with
  | same => exact .inl rfl
  | more _ p ih =>
    cases p with
    | flag => exact ih
    | offer => simpa using ih
    | request a q => cases a <;> exact ih
    | parts _ d a r x f l ha hr hx hf hl =>
      rcases ha.carry with c | c
      · rw [show ({ ‹State› with drain := d, acc := a, rgs := r, slt := x, flt := f, lkg := l } : State).acc.allowCarry
          = a.allowCarry from rfl, c]; exact ih
      · exact .inr c

theorem reach_carryLaw (h : Reach s t) (g : s.carryLaw) : t.carryLaw := by
  obtain ⟨e1, -, e2, e3⟩ := apart_acc (reach_apart h)
  refine ⟨by rw [e1, e2]; exact g.1, by rw [e1, e3]; exact g.2.1, ?_⟩
  rcases reach_allowCarry h with e | e <;> rw [e]
  · exact g.2.2
  · decide

theorem reach_storeLaw (h : Reach s t) (g : s.storeLaw) : t.storeLaw := by
  induction h with
  | same => exact g
  | more _ p ih =>
    cases p with
    | flag => exact ih
    | offer => simpa [State.storeLaw] using ih
    | request a q => cases a <;> exact ih
    | parts _ d a r x f l ha hr hx hf hl =>
      have : x.store ≤ x.settings.capacity := by rw [hx.settings]; exact hx.store.trans ih
      exact this

theorem segment_le (p q : Nat × Nat) (x : Nat) (h : x ≤ q.1) : segment p q x ≤ max p.2 q.2 := by
  unfold segment
  have : (x - p.1) * (q.2 - p.2) / (q.1 - p.1) ≤ q.2 - p.2 := by
    apply Nat.div_le_of_le_mul
    exact Nat.mul_le_mul_right _ (by omega)
  omega

theorem curveFrom_le (b : Nat) (c : List (Nat × Nat)) (p : Nat × Nat) (x : Nat) (hp : p.2 ≤ b) (h : ∀ q ∈ c, q.2 ≤ b) :
    curveFrom p x c ≤ b := by
  induction c generalizing p with
  | nil => exact hp
  | cons q rest ih =>
    have hq : q.2 ≤ b := h q (by simp)
    unfold curveFrom
    split
    · exact (segment_le p q x ‹_›).trans (max_le hp hq)
    · exact ih q hq fun r hr => h r (by simp [hr])

/-- A curve gives no more than the greatest of its y (R87). -/
theorem curveEval_le (b : Nat) (c : List (Nat × Nat)) (x : Nat) (h : ∀ q ∈ c, q.2 ≤ b) : (curveEval c x).getD 0 ≤ b := by
  unfold curveEval
  split
  · exact Nat.zero_le _
  · rename_i p rest
    have hp : p.2 ≤ b := h p (by simp)
    simp only [Option.getD_some]
    split
    · exact hp
    · exact curveFrom_le b rest p x hp fun q hq => h q (by simp [hq])

theorem tankKeeps_law {c : List (Nat × Nat)} {x y : Tank} (h : TankKeeps c x y) (g : x.remaining ≤ x.nominal)
    (hc : ∀ q ∈ c, q.2 ≤ 1024) : y.remaining ≤ y.nominal := by
  rw [h.nominal]
  rcases h.remaining with r | ⟨dose, r⟩
  · exact r.trans g
  · rw [r]
    exact Nat.div_le_of_le_mul (by rw [Nat.mul_comm 1024]; exact Nat.mul_le_mul_left _ (curveEval_le _ _ _ hc))

theorem reach_tankLaw (h : Reach s t) (g : s.tankLaw) : t.tankLaw := by
  induction h with
  | same => exact g
  | more _ p ih =>
    cases p with
    | flag => exact ih
    | offer => simpa [State.tankLaw] using ih
    | request a q => cases a <;> exact ih
    | parts _ d a r x f l ha hr hx hf hl =>
      have e : a.efficiencyCurve = ‹State›.acc.efficiencyCurve := (Account.mk.injEq .. ▸ ha.parts).2.2.2.1
      obtain ⟨ha, hb, sa, sb, hc⟩ := ih
      exact ⟨tankKeeps_law hr.tankA ha hc, tankKeeps_law hr.tankB hb hc, hr.tankA.seconds sa, hr.tankB.seconds sb,
        fun q hq => hc q (e ▸ hq)⟩

end Sys2Proof.Machine
end

