-- ==== Sys2Proof/Laws/Ops.lean ====
section
/-! SUPPORT. For each shared operation, once, everything it can do. -/

namespace Sys2Proof.Machine

/-! ### Requests (R167) -/

/-- A request is discarded, refused for want of room, or executed and answered. -/
theorem answer_cases (tag : Byte) (h : Handler) (s : State) :
    (s.mgu.restartPending = true ∧ answer tag h s = s)
      ∨ (s.mgu.restartPending = false ∧ 4 ≤ s.mgu.replies.length ∧ answer tag h s = raise .backlog s)
      ∨ (s.mgu.restartPending = false ∧ s.mgu.replies.length < 4
          ∧ answer tag h s = pushReply tag (h s).2 (h s).1) := by
  unfold answer
  split
  · exact .inl ⟨‹_›, rfl⟩
  · split
    · exact .inr (.inl ⟨Bool.eq_false_of_not_eq_true ‹_›, ‹_›, rfl⟩)
    · exact .inr (.inr ⟨Bool.eq_false_of_not_eq_true ‹¬ s.mgu.restartPending = true›, by omega, rfl⟩)

theorem firstFailing_none (l : List (Bool × Status)) : firstFailing l = none ↔ ∀ p ∈ l, p.1 = false := by
  induction l with
  | nil => simp [firstFailing]
  | cons p rest ih =>
    obtain ⟨b, st⟩ := p
    cases b <;> simp [firstFailing, ih]

theorem checked_none (f : State → State) (s : State) : checked none f s = (f s, [Status.ok.byte]) := rfl
theorem checked_some (st : Status) (f : State → State) (s : State) : checked (some st) f s = (s, [st.byte]) := rfl

/-! ### Faults (R173) -/

theorem offerFault_cases (k : FaultKind) (n : Nat) (d : Vector Byte 4) (s : State) :
    (s.mgu.fault.valid = true ∧ (offerFault k n d s).mgu.fault = { s.mgu.fault with lost := true }
        ∧ (offerFault k n d s).mgu.changes = s.mgu.changes)
      ∨ (s.mgu.fault.valid = false ∧ (offerFault k n d s).mgu.fault =
          { valid := true, lost := s.mgu.fault.lost, kind := k, source := n, seconds := s.mgu.seconds, detail := d }
        ∧ (offerFault k n d s).flagSet .fault) := by
  unfold offerFault
  split
  · exact .inl ⟨‹_›, rfl, rfl⟩
  · exact .inr ⟨Bool.eq_false_of_not_eq_true ‹_›, rfl, flagSet_raise ..⟩

/-! ### Move requests (R63) -/

/-- A move request of an actuator is refused, met already, completed at once, or a move. -/
theorem requestRun_cases (c : ActuatorRec) (p : Pos) (r : ActuatorRun) :
    (c.enabled = false ∧ requestRun c p r = (r, .disabled))
      ∨ (c.enabled = true ∧ r.inFault = true ∧ requestRun c p r = (r, .faulted))
      ∨ (c.enabled = true ∧ r.st = .at p ∧ requestRun c p r = (r, .completed))
      ∨ (c.enabled = true ∧ r.target = some p ∧ requestRun c p r = (r, .moving))
      ∨ (c.enabled = true ∧ r.recognised = some p ∧ requestRun c p r = (r.enterAt p, .completed))
      ∨ (c.enabled = true ∧ r.recognised ≠ some p ∧ requestRun c p r = (r.enterMoving c.travel p 1, .moving)) := by
  unfold requestRun startMove ActuatorRun.inFault ActuatorRun.target
  by_cases e : c.enabled = true
  · by_cases g : r.recognised = some p <;> rcases r.st <;> simp_all <;> tauto
  · simp_all

/-! ### The drain line (R73 to R77) -/

theorem setAllowance_drain (n : Nat) (q : Option Requester) (s : State) :
    (setAllowance n q s).drain = { s.drain with allowance := n, kind := q } := by
  unfold setAllowance
  split
  · rename_i h
    obtain ⟨rfl, rfl⟩ := h
    rfl
  · rfl

theorem drainFreed_drain (s : State) :
    (drainFreed s).drain = { s.drain with holder := none, allowance := 0, kind := none } := by
  rw [drainFreed, setAllowance_drain]

/-- A request for the line finds the requester holding or waiting, is granted, or waits. -/
theorem drainRequest_cases (k : Grant) (r : Requester) (s : State) :
    (s.drain.holder = some r ∧ drainRequest k r s = s) ∨ (s.drain.waits r = true ∧ drainRequest k r s = s)
      ∨ (s.drain.holder = none ∧ s.lkg.main = .opened ∧ drainRequest k r s = grantTo k r s)
      ∨ ((s.drain.holder ≠ none ∨ s.lkg.main ≠ .opened)
          ∧ drainRequest k r s = { s with drain := s.drain.setWait r true }) := by
  unfold drainRequest State.mainOpen
  by_cases h1 : s.drain.holder = some r
  · simp [h1]
  · by_cases h2 : s.drain.waits r = true
    · simp [h2]
    · by_cases h3 : s.drain.holder = none <;> by_cases h4 : s.lkg.main = .opened <;> simp_all

/-! ### Reading a window that is full, a filter -/

/-- A filter adopts its first level, and changes it at the r-th differing level in a row (R24). -/
theorem filterStep_cases (r : Nat) (raw : Bool) (f : Filter) :
    (f.level = none ∧ filterStep r raw f = { level := some raw, count := 0 })
      ∨ (f.level = some raw ∧ filterStep r raw f = { f with count := 0 })
      ∨ (f.level = some !raw ∧ r ≤ f.count + 1 ∧ filterStep r raw f = { level := some raw, count := 0 })
      ∨ (f.level = some !raw ∧ f.count + 1 < r ∧ filterStep r raw f = { f with count := f.count + 1 }) := by
  unfold filterStep
  rcases f with ⟨_ | l, n⟩
  · simp
  · by_cases h : r ≤ n + 1 <;> cases raw <;> cases l <;> simp_all

/-- A carry is less than the divisor it was taken by (R83, R93). -/
theorem meterCarry_lt (k carry z : Nat) (h : 0 < k) : meterCarry k carry z < k := by
  unfold meterCarry
  have := Nat.mod_lt (carry + z * 100) h
  have := Nat.div_add_mod (carry + z * 100) k
  have : (carry + z * 100) / k * k = k * ((carry + z * 100) / k) := Nat.mul_comm ..
  omega

/-- A written count of seconds stays in the range of R98. -/
theorem writtenSeconds_le (c : TankContents) (x : Tank) (h : x.seconds ≤ max32) : writtenSeconds c x ≤ max32 := by
  unfold writtenSeconds
  cases c.seconds with
  | none => exact h
  | some n => exact Nat.min_le_left ..

/-! ### Lane writes (R9, R27, R62) -/

/-- The lanes that a lane's write resets: itself, and a VALUE lane that names it while it is a MARK lane before or after. -/
theorem laneHit_iff (s : State) (i : Nat) (d : LaneDesc) (j : Nat) :
    laneHit s i d j = true ↔ j = i ∨ ((d.kind = .mark ∨ (s.lane i).desc.kind = .mark)
      ∧ (s.lane j).desc.kind = .value ∧ (s.lane j).desc.mark = some i) := by
  simp [laneHit, and_assoc]

/-- A mode that suits its inputs, by the table of R21. -/
theorem suits_iff (s : State) (c : ChannelRec) : suits s c = true ↔
    match c.mode with
    | .off => True
    | .edgeCount | .period | .highTime => (s.lane c.inA).desc.levelLike = true ∧ c.inB = none
    | .countDelta => (s.lane c.inA).desc.is .count = true ∧ c.inB = none
    | .gatedCount => ((s.lane c.inA).desc.levelLike = true ∨ (s.lane c.inA).desc.is .count = true)
        ∧ ∃ b, c.inB = some b ∧ (s.lane b).desc.levelLike = true
    | .valueMean => (s.lane c.inA).desc.is .value = true ∧ c.inB = none := by
  unfold suits
  cases c.mode <;> cases c.inB <;> simp

/-- A channel at a lane reset notice keeps its record, its last result and its flags. -/
theorem channelLaneReset_frame (b : Bool) (c : Channel) :
    (channelLaneReset b c).conf = c.conf ∧ (channelLaneReset b c).run.last = c.run.last := by
  unfold channelLaneReset ChannelRun.newWindow
  split <;> simp

/-- An actuator at lane reset notices keeps its record, its state and its last confirmed position. -/
theorem actLaneReset_frame (hit : Nat → Bool) (a : Actr) (x : Actuator) :
    (actLaneReset hit a x).conf = x.conf ∧ (actLaneReset hit a x).run.st = x.run.st
      ∧ (actLaneReset hit a x).run.lastConfirmed = x.run.lastConfirmed := by
  simp only [actLaneReset]
  split <;> simp

end Sys2Proof.Machine
end

