-- ==== Sys2Proof/Tests/Slice0.lean ====
section
/-! SUPPORT. The model's own tests. First the smoke of WellFormed (an ill-formed command for each check); then one step
of each worked case of the data book, the expected values being the book's; then, for each statement with hypotheses, a
witness: concrete states and operands that meet them. -/

set_option maxRecDepth 8000
-- One test after the other: evaluated side by side, they would hold more threads than the memory limit allows.
set_option Elab.async false

namespace Sys2Proof.Tests

open Sys2Proof Sys2Proof.Machine

/-! ### Small states -/

/-- The state a command answers. -/
def after (c : Instr) (s : State) : State :=
  match exec c s with
  | .next t => t
  | _ => s

/-- Reset with the field link FRESH, no frame missing. -/
def fresh : State := { State.reset with link := { Link.reset with fieldFresh := true, fieldMissing := 0 } }

/-- FRESH with the main OPEN. -/
def opened : State := { fresh with lkg := { Lkg.reset with main := .opened } }

/-- An actuator enabled, in a state, with a recognised and a last confirmed position. -/
def place (a : Actr) (st : ActState) (recognised confirmed : Option Pos) (s : State) : State :=
  setAct a { conf := { ActuatorRec.reset with enabled := true }
             run := { Actuator.reset.run with st := st, recognised := recognised, lastConfirmed := confirmed } } s

/-- An actuator enabled and otherwise as after reset: a request of it starts a move. -/
def enable (a : Actr) (s : State) : State := place a .unknown none none s

/-- A field frame with every slot 0 but slot 0. -/
def slots0 (b : Byte) : Vector Byte 20 := (Vector.replicate 20 0).set 0 b

/-- Lane 0 with a descriptor and a run state. -/
def lane0 (d : LaneDesc) (r : LaneRun) (s : State) : State := { s with lanes := s.lanes.set 0 { desc := d, run := r } }

/-- Channel 0 OPEN with a record, its run state changed by `f`. -/
def channel0 (c : ChannelRec) (f : ChannelRun → ChannelRun) (s : State) : State :=
  { s with channels := s.channels.set 0 { conf := c, run := f (ChannelRun.reset .opened) } }

/-- A tracker LOCKED at an estimate, enabled; FLOW is fed by channel 0, the others by channel 7. -/
def lockAt (i : Fin 7) (e : Nat) (s : State) : State :=
  setTracker i { conf := { Tracker.reset.conf with
                   enabled := true, hi := roleMax i, source := if i = flow then 0 else 7 }
                 run := { TrackerRun.idle with st := .locked, est := some e } } s

/-- An enabled step of the regeneration program. -/
def rstep (p : RegenPos) (k : EndKind) (d v t a : Nat) : RegenStep :=
  { enabled := true, pos := p, endKind := k, duration := d, volume := v, timeout := t, allowance := a }

/-- An enabled step of the backwash program. -/
def bstep (p : BackwashPos) (d a : Nat) : BackwashStep := { enabled := true, pos := p, duration := d, allowance := a }

/-- A COUNT channel record of window X. -/
def counting (x y : Nat) : ChannelRec := { mode := .countDelta, inA := 0, inB := none, preset := none, x := x, y := y }

/-! ### Well-formedness: each check refuses an ill-formed command -/

theorem smoke_byte_operands : Instr.wellFormed (.startRegen 0 256) = false
    ∧ Instr.wellFormed (.readEntry 0 256 0) = false ∧ Instr.wellFormed (.readEntry 0 0 256) = false
    ∧ Instr.wellFormed (.writeEntryPreset 0 0 256) = false ∧ Instr.wellFormed (.writeEntryPreset 0 256 0) = false
    ∧ Instr.wellFormed (.readResult 0 256 0) = false ∧ Instr.wellFormed (.readResult 0 0 256) = false
    ∧ Instr.wellFormed (.readState 0 256 0 0 0) = false ∧ Instr.wellFormed (.readState 0 4 0 256 0) = false
    ∧ Instr.wellFormed (.readStateLane 0 256 0 0) = false ∧ Instr.wellFormed (.readStateTracker 0 0 256 0) = false
    ∧ Instr.wellFormed (.readStateActuator 0 0 0 256) = false ∧ Instr.wellFormed (.readStateTank 0 256 0 0) = false
    ∧ Instr.wellFormed (.readStateLeakGuard 0 0 256 0) = false ∧ Instr.wellFormed (.filterReplaced 0 256) = false
    ∧ Instr.wellFormed (.clearFault 0 256) = false := by decide

theorem smoke_wide_operands : Instr.wellFormed (.saltRefilled 0 16777216) = false
    ∧ Instr.wellFormed (.setTime 0 65536 0) = false ∧ Instr.wellFormed (.setTime 0 0 16777216) = false
    ∧ Instr.wellFormed (.setTime 0 65535 16777215) = true := by decide

/-- A command that has a row of its own does not stand under another row. -/
theorem smoke_own_rows : Instr.wellFormed (.readState 0 0 0 0 0) = false ∧ Instr.wellFormed (.readState 0 8 0 0 0) = false
    ∧ Instr.wellFormed (.clearFault 0 4) = false := by decide

/-- A run whose bytes are a frame is no discarded run. -/
theorem smoke_discarded_run :
    Instr.wellFormed (.discardedRun .grx (frameOf [0, 0, 0, 0, 0, 0, 0xE7, 0xE7]) false) = false
      ∧ Instr.wellFormed (.discardedRun .grx (frameOf [0, 0, 0, 0, 0, 0, 0xE7, 0xE7]) true) = true
      ∧ Instr.wellFormed (.discardedRun .frx [] false) = true := by decide

theorem smoke_lane : Instr.wellFormed (.writeEntryLane 0 0 (some { LaneDesc.reset with slot := 256 })) = false
    ∧ Instr.wellFormed (.writeEntryLane 0 0 (some { LaneDesc.reset with mark := some 255 })) = false
    ∧ Instr.wellFormed (.writeEntryLane 0 256 none) = false := by decide

theorem smoke_report_field : Instr.wellFormed (.writeEntryReportField 0 0
    (some { enabled := true, slot := 256, start := 0, width := 1, source := .chgLo })) = false := by decide

theorem smoke_channel : Instr.wellFormed (.writeEntryChannel 0 0 (some { counting 1 0 with inB := some 255 })) = false
    ∧ Instr.wellFormed (.writeEntryChannel 0 0 (some { counting 1 0 with preset := some 255 })) = false
    ∧ Instr.wellFormed (.writeEntryChannel 0 0 (some (counting 65536 0))) = false := by decide

theorem smoke_tracker :
    Instr.wellFormed (.writeEntryTracker 0 0 (some { Tracker.reset.conf with gain := 65536 })) = false := by decide

theorem smoke_softener : Instr.wellFormed (.writeEntrySoftener 0 0 (some { Softener.reset with k := 65536 })) = false
    ∧ Instr.wellFormed (.writeEntrySoftener 0 0 (some { Softener.reset with regenHour := some 255 })) = false
    ∧ Instr.wellFormed (.writeEntrySoftener 0 0 (some { Softener.reset with maxDays := some 0 })) = false
    ∧ Instr.wellFormed (.writeEntrySoftener 0 0 (some { Softener.reset with inlet := some 255 })) = false
    ∧ Instr.wellFormed (.writeEntrySoftener 0 0 (some { Softener.reset with brine := some 255 })) = false := by decide

theorem smoke_tank : Instr.wellFormed (.writeEntryTank 0 0 { nominal := 4294967296, remaining := none, seconds := none }) = false
    ∧ Instr.wellFormed (.writeEntryTank 0 0 { nominal := 0, remaining := some 4294967295, seconds := none }) = false
    ∧ Instr.wellFormed (.writeEntryTank 0 0 { nominal := 0, remaining := none, seconds := some 1099511627775 }) = false := by
  decide

theorem smoke_salt :
    Instr.wellFormed (.writeEntrySalt 0 0 { Salt.reset.settings with capacity := 16777216 }) = false := by decide

theorem smoke_stage :
    let c : StageContents := { record := StageRec.reset, volRep := none, secRep := none, volBw := none, secBw := none }
    Instr.wellFormed (.writeEntryStage 0 0 (some c)) = true
      ∧ Instr.wellFormed (.writeEntryStage 0 0 (some { c with record := { StageRec.reset with qRef := 65536 } })) = false
      ∧ Instr.wellFormed (.writeEntryStage 0 0 (some { c with record := { StageRec.reset with volumeLimit := some 0 } })) = false
      ∧ Instr.wellFormed (.writeEntryStage 0 0 (some { c with record := { StageRec.reset with dayLimit := some 0 } })) = false
      ∧ Instr.wellFormed (.writeEntryStage 0 0 (some { c with record := { StageRec.reset with dpLimit := some 65535 } })) = false
      ∧ Instr.wellFormed (.writeEntryStage 0 0 (some { c with record := { StageRec.reset with bwVolume := some 0 } })) = false
      ∧ Instr.wellFormed (.writeEntryStage 0 0 (some { c with record := { StageRec.reset with bwDays := some 0 } })) = false
      ∧ Instr.wellFormed (.writeEntryStage 0 0 (some { c with volRep := some (256 ^ 6 - 1) })) = false
      ∧ Instr.wellFormed (.writeEntryStage 0 0 (some { c with secRep := some (256 ^ 5 - 1) })) = false
      ∧ Instr.wellFormed (.writeEntryStage 0 0 (some { c with volBw := some (256 ^ 6 - 1) })) = false
      ∧ Instr.wellFormed (.writeEntryStage 0 0 (some { c with secBw := some (256 ^ 5 - 1) })) = false := by decide

theorem smoke_leak_rule : Instr.wellFormed (.writeEntryLeakRule 0 0 (some { Rule.reset.conf with rateLo := 65536 })) = false
    ∧ Instr.wellFormed (.writeEntryLeakRule 0 0 (some { Rule.reset.conf with zone := some 255 })) = false := by decide

theorem smoke_actuator :
    Instr.wellFormed (.writeEntryActuator 0 0 (some { ActuatorRec.reset with codes := Vector.replicate 6 256 })) = false
      ∧ Instr.wellFormed (.writeEntryActuator 0 0 (some { ActuatorRec.reset with preset := some 255 })) = false
      ∧ Instr.wellFormed (.writeEntryActuator 0 0 (some { ActuatorRec.reset with stallLane := some 255 })) = false
      ∧ Instr.wellFormed (.writeEntryActuator 0 3 (some ActuatorRec.reset)) = true := by decide

theorem smoke_curve : Instr.wellFormed (.writeEntryCurve 0 .brine 0 (List.replicate 12 (0, 0))) = false
    ∧ Instr.wellFormed (.writeEntryCurve 0 .brine 0 [(65536, 0)]) = false
    ∧ Instr.wellFormed (.writeEntryCurve 0 .brine 0 [(0, 65536)]) = false := by decide

theorem smoke_plain : Instr.wellFormed (.writeEntry 0 0 (.unusable 256)) = false
    ∧ Instr.wellFormed (.writeEntry 0 0 (.regenStep (some (rstep .refill .volume 65536 1 1 0)))) = false
    ∧ Instr.wellFormed (.writeEntry 0 0 (.backwashStep (some (bstep .rinse 1 65536)))) = false
    ∧ Instr.wellFormed (.writeEntry 0 0 (.zoneWindow (some { enabled := true, base := 256, mask := 0, zone := 0 }))) = false
    ∧ Instr.wellFormed (.writeEntry 0 0 (.leakConfig (some { LeakConfig.reset with silence := some 0 }))) = false
    ∧ Instr.wellFormed (.writeEntry 0 0 (.leakConfig (some { LeakConfig.reset with gap := 65536 }))) = false := by decide

/-! ### Worked cases of the data book: link, lanes and slot tables -/

/-- A COUNT lane of width 6. -/
def countDesc : LaneDesc := { LaneDesc.reset with enabled := true, width := 6, kind := .count }

/-- A VALUE lane of width 4, W = 12, with mark lane 1. -/
def markedDesc : LaneDesc := { LaneDesc.reset with enabled := true, width := 4, kind := .value, w := 12, mark := some 1 }

/-- Lane 1 a MARK lane on bit 0 of slot 1. -/
def markLane (s : State) : State :=
  let d : LaneDesc := { LaneDesc.reset with enabled := true, slot := 1, width := 1, kind := .mark }
  { s with lanes := s.lanes.set 1 { desc := d, run := LaneRun.reset d } }

/-- The marked VALUE lane within a sample. -/
def sampling (assembler h : Nat) : State :=
  markLane (lane0 markedDesc { LaneRun.reset markedDesc with assembler := assembler, h := h, waiting := false } fresh)

/-- 1.2.3, good frame 3: from 63 to 5 modulo 64 the delta is 6. -/
theorem test_count_lane_across_gap :
    let s := lane0 countDesc { LaneRun.reset countDesc with reference := 63, refValid := true } fresh
    (laneOuts s.lanes (slots0 5))[0].delta = some 6 ∧ (after (.goodFieldFrame (slots0 5)) s).lanes[0].run.reference = 5 := by
  decide +kernel

/-- 1.2.4, good frame 3: the third piece completes the sample 0x2A7. -/
theorem test_marked_lane_completes :
    let r := (after (.goodFieldFrame (slots0 2)) (sampling 0x0A7 8)).lanes[0].run
    r.lastSample = some 679 ∧ r.h = 0 ∧ r.waiting = true ∧ r.misalign = false := by decide +kernel

/-- 1.2.4, good frame 8: a mark within a sample starts it afresh, with MISALIGN and LANE. -/
theorem test_marked_lane_restarts :
    let t := after (.goodFieldFrame ((slots0 5).set 1 1)) (sampling 4 4)
    t.lanes[0].run.assembler = 5 ∧ t.lanes[0].run.h = 4 ∧ t.lanes[0].run.misalign = true ∧ t.flagSet .lane = true := by
  decide +kernel

/-- 1.2.4: a missing frame discards the partial sample. -/
theorem test_missing_frame_misaligns :
    let t := after .frameTimerExpiry (sampling 3 4)
    t.lanes[0].run.h = 0 ∧ t.lanes[0].run.waiting = true ∧ t.lanes[0].run.misalign = true ∧ t.flagSet .lane = true := by
  decide +kernel

/-- 1.4.1: the drive slot at the moments A to D. -/
theorem test_drive_slot :
    let c : ActuatorRec := { ActuatorRec.reset with enabled := true, slot := 2 }
    let s := fun (gw : Bool) (m : ActState) =>
      let u := setAct .main
        { conf := { c with codes := #v[1, 2, 0, 0, 0, 0] }, run := { Actuator.reset.run with st := m } }
        (setAct .selector { conf := { c with start := 4, width := 3, codes := #v[1, 2, 3, 0, 0, 0] }
                            run := { Actuator.reset.run with st := .at .tankA } } fresh)
      { u with link := { u.link with
          gwFresh := gw, driveBytes := Vector.replicate 6 0xFF, driveMask := (Vector.replicate 6 0).set 2 0x48 } }
    driveSlot (s true (.at .mainOpen)) 2 = 0x8C ∧ driveSlot (s true (.moving .mainClosed 1)) 2 = 0x8E
      ∧ driveSlot (s false (.moving .mainClosed 1)) 2 = 0x0A ∧ driveSlot (s false (.at .mainClosed)) 2 = 0x08 := by
  decide +kernel

/-- R176, R177: the check values of the two CRCs over the digits 1 to 9. -/
theorem test_crcs :
    crc8 [0x31, 0x32, 0x33, 0x34, 0x35, 0x36, 0x37, 0x38, 0x39] = 0xA2
      ∧ crc16 [0x31, 0x32, 0x33, 0x34, 0x35, 0x36, 0x37, 0x38, 0x39] = 0x29B1 := by decide +kernel

/-! ### Channels -/

/-- 2.2.1, good frames 7 and 8 with r = 3: a run of two holds, a run of three changes the filtered level. -/
theorem test_filter_run : filterStep 3 true { level := some false, count := 1 } = { level := some false, count := 2 }
    ∧ filterStep 3 true { level := some false, count := 2 } = { level := some true, count := 0 } := by decide

/-- The PERIOD channel of 2.4.3. -/
def slowMeter : ChannelRec := { mode := .period, inA := 0, inB := none, preset := none, x := 2, y := 1000 }

/-- 2.4.3, frame 232: the second edge closes the window with Z = 222, E = 232. -/
theorem test_period_result :
    let r := (after (.channelResult 0)
      (channel0 slowMeter (fun r => { r with timing := true, f := 222, n := 2, e := 232 }) fresh)).channels[0].run
    r.last = some { z := 222, e := 232, timeout := false } ∧ r.f = 0 ∧ r.n = 0 ∧ r.timing = true := by decide +kernel

/-- 2.4.3, frame 1454: s reaches 1000. -/
theorem test_period_timeout :
    let r := (after (.periodTimeout 0)
      (channel0 slowMeter (fun r => { r with timing := true, f := 1000, s := 1000, e := 1000 }) fresh)).channels[0].run
    r.last = some { z := 0, e := 1000, timeout := true } ∧ r.timing = false ∧ r.f = 0 ∧ r.s = 0 := by decide +kernel

/-- 2.5.1, frame 6: a delta of 57 is above the limit of 20 and is discarded; the frame still counts. -/
theorem test_glitch_frame :
    let s := lane0 countDesc { LaneRun.reset countDesc with reference := 8, refValid := true }
      (channel0 (counting 4 20) (fun r => { r with g := 3, e := 5, acc := 10 }) fresh)
    let r := (after (.goodFieldFrame (slots0 1)) s).channels[0].run
    r.g = 4 ∧ r.e = 6 ∧ r.acc = 10 ∧ r.glitch = true := by decide +kernel

/-- 2.5.1, frame 10: the second result finds READY set. -/
theorem test_overrun :
    let t := after (.channelResult 0)
      (channel0 (counting 4 20) (fun r => { r with g := 4, e := 4, acc := 10, ready := true, glitch := true }) fresh)
    t.channels[0].run.last = some { z := 10, e := 4, timeout := false } ∧ t.channels[0].run.overrun = true
      ∧ t.flagSet .channel = true := by decide +kernel

/-! ### Trackers -/

/-- 3.4.1: FLOW's inputs, K = 4500. -/
theorem test_flow_inputs :
    flowInput 4500 (counting 500 0) { z := 150, e := 500, timeout := false } = { x := 200, clamped := false }
      ∧ flowInput 4500 (counting 500 0) { z := 150, e := 502, timeout := false } = { x := 199, clamped := false }
      ∧ flowInput 4500 (counting 500 0) { z := 10000, e := 500, timeout := false } = { x := 6000, clamped := true }
      ∧ flowInput 4500 { slowMeter with x := 8 } { z := 40, e := 40, timeout := false } = { x := 133, clamped := false }
      ∧ flowInput 4500 slowMeter { z := 222, e := 222, timeout := false } = { x := 6, clamped := false }
      ∧ flowInput 4500 slowMeter { z := 0, e := 1000, timeout := true } = { x := 0, clamped := false } := by decide

/-- 3.4.1: P_HOUSE's inputs. -/
theorem test_pressure_inputs :
    let c := { Tracker.reset.conf with offset := 410, gain := 1250, hi := 1000 }
    scaledInput c { z := 2048, e := 0, timeout := false } = { x := 499, clamped := false }
      ∧ scaledInput c { z := 300, e := 0, timeout := false } = { x := 0, clamped := true }
      ∧ scaledInput c { z := 4000, e := 0, timeout := false } = { x := 1000, clamped := true } := by decide

/-- 3.5.2, inputs 6, 7 and 8: lock, an out-of-band input, an in-band input truncated toward zero. -/
theorem test_acquiring_lock :
    let c := { Tracker.reset.conf with bw := 5, bn := 3, mLock := 3, kLose := 8, j := 3, nHi := 12, nLo := 6, hi := 1000 }
    let r6 := (applyInput c { x := 489, clamped := false }
      { TrackerRun.idle with st := .search, est := some 491, nIn := 2 }).run
    let r7 := (applyInput c { x := 495, clamped := false } r6).run
    let r8 := (applyInput c { x := 488, clamped := false } r7).run
    r6.st = .locked ∧ r6.est = some 489 ∧ r6.nIn = 3 ∧ r7.est = some 490 ∧ r7.nOut = 1 ∧ r7.nStep = 1 ∧ r7.m = 0
      ∧ r8.est = some 490 ∧ r8.nOut = 0 ∧ r8.nStep = 0 ∧ r8.st = .locked := by decide

/-- 3.5.4: the step with mode AUTO. -/
theorem test_auto_step :
    let c := { Tracker.reset.conf with tc := .auto, bn := 10, j := 2, kLose := 8, nHi := 40, nLo := 20, hi := 6000 }
    let i : Input := { x := 200, clamped := false }
    let u1 := applyInput c i { TrackerRun.idle with st := .locked, est := some 0 }
    let u2 := applyInput c i u1.run
    let u3 := applyInput c i u2.run
    u1.run.est = some 50 ∧ u1.run.m = 25 ∧ u1.track = false
      ∧ u2.run.est = some 200 ∧ u2.run.m = 40 ∧ u2.run.step = true ∧ u2.run.noise = false ∧ u2.track = true
      ∧ u3.run.est = some 200 ∧ u3.run.m = 35 ∧ u3.run.nOut = 0 ∧ u3.track = false := by decide

/-- 3.5.4: the step with mode NORMAL, inputs 3 and 4. -/
theorem test_normal_step :
    let c := { Tracker.reset.conf with bn := 10, j := 2, kLose := 8, nHi := 40, nLo := 20, hi := 6000 }
    let i : Input := { x := 200, clamped := false }
    let u2 := applyInput c i (applyInput c i { TrackerRun.idle with st := .locked, est := some 0 }).run
    let u3 := applyInput c i u2.run
    let u4 := applyInput c i u3.run
    u2.run.est = some 87 ∧ u2.run.step = true ∧ u2.track = true ∧ u3.run.est = some 115 ∧ u3.run.noise = true
      ∧ u3.track = true ∧ u4.run.est = some 136 ∧ u4.track = false := by decide

/-- 3.6.1: at staleness a LOCKED tracker holds its estimate, and LOCK and FIELD are raised. -/
theorem test_stale_holds :
    let s := lockAt pHouse 490 fresh
    let t := after .fieldLinkStale { s with link := { s.link with fieldMissing := 250 } }
    t.trackers[pHouse].run.st = .hold ∧ t.trackers[pHouse].run.est = some 490 ∧ t.flagSet .lock = true
      ∧ t.flagSet .field = true := by decide +kernel

/-! ### Actuators and the drain line -/

/-- A rotor as 4.5.1 loads it: travel 20 s, retry 1, pause 5 s. -/
def lateRotor (st : ActState) (travel pause : Option Nat) : State :=
  setAct .regenRotor
    { conf := { ActuatorRec.reset with enabled := true, travel := 20, retry := 1, pause := 5 }
      run := { Actuator.reset.run with st := st, travel := travel, pause := pause, lastConfirmed := some .service } } fresh

/-- 4.5.1, 20 s and 25 s: the timeout pauses, the pause starts attempt 2. -/
theorem test_retry :
    let r1 := (after (.travelTimeout .regenRotor) (lateRotor (.moving .brineDraw 1) (some 0) none)).regenRotor.run
    let r2 := (after (.pauseExpiry .regenRotor) (lateRotor (.paused .brineDraw 1) none (some 0))).regenRotor.run
    r1.st = .paused .brineDraw 1 ∧ r1.pause = some 5 ∧ r2.st = .moving .brineDraw 2 ∧ r2.travel = some 20 := by
  decide +kernel

/-- 4.5.1, 45 s: no attempt is left. -/
theorem test_no_response :
    let t := after (.travelTimeout .regenRotor) (lateRotor (.moving .brineDraw 2) (some 0) none)
    t.regenRotor.run.st = .faultNoResponse ∧ t.regenRotor.run.lastConfirmed = some .service
      ∧ t.mgu.fault.kind = .actNoResponse ∧ t.mgu.fault.source = 2 ∧ t.mgu.fault.detail = #v[2, 2, 0, 0]
      ∧ t.flagSet .actuator = true := by decide +kernel

/-- 4.5.2: a retargeted selector starts attempt 1 of the new move; its last confirmed position stays. -/
theorem test_retarget :
    let s := place .selector (.moving .tankB 1) none (some .tankA) opened
    let t := after (.bypassOn 9) s
    t.selector.run.st = .moving .bypass 1 ∧ t.confirmed = some .tankA
      ∧ t.mgu.replies = [{ tag := 9, body := [1] }] := by decide +kernel

/-- 4.6.1, the main's opening: REGEN is granted before TEST. -/
theorem test_grant_by_priority :
    let s := enable .regenRotor opened
    let t := after .drainGrant { s with
      drain := { Drain.reset with waitRegen := true, waitTest := true }
      rgs := { Rgs.reset with seq := .queued, program := Rgs.reset.program.set 0 (rstep .backwash .duration 600 1 1 120) } }
    t.drain.holder = some .regen ∧ t.drain.waitTest = true ∧ t.rgs.seq = .positioning
      ∧ t.regenRotor.run.st = .moving .backwash 1 := by decide +kernel

/-! ### Accounting, regeneration and salt -/

/-- Channel 0 is the inlet channel with a full window of Z pulses in E frames, and the settings given. -/
def inlet (c : Softener) (z e : Nat) (s : State) : State :=
  let u := channel0 (counting 1 0) (fun r => { r with g := 1, acc := z, e := e }) s
  { u with acc := { u.acc with settings := { c with inlet := some 0 } } }

/-- 5.3.2: the second result, and the clamp at K = 1. -/
theorem test_pulse_carry :
    let s := inlet { Softener.reset with k := 4500 } 150 500 fresh
    let t := after (.channelResult 0) { s with acc := { s.acc with pulseCarry := 1500, totalInlet := 3 } }
    let u := after (.channelResult 0) (inlet { Softener.reset with k := 1 } 700 500 fresh)
    t.acc.totalInlet = 6 ∧ t.acc.pulseCarry = 3000 ∧ u.acc.totalInlet = 65535 ∧ u.acc.pulseCarry = 0
      ∧ u.acc.clamp = true ∧ u.flagSet .tank = true := by decide +kernel

/-- 5.5.1: the hardness of the curve with iron, and a charge that empties tank A into slip. -/
theorem test_hardness_and_charge :
    let c := { Softener.reset with k := 100, mode := .auto, fe := 150, kFe := 50, reserve := 5000 }
    let s := place .selector (.at .tankA) (some .tankA) (some .tankA) (lockAt condSupply 650 (inlet c 30 500 opened))
    let t := after (.channelResult 0) { s with
      acc := { s.acc with hardnessCurve := [(200, 150), (500, 400), (800, 620)] }
      rgs := { s.rgs with tankA := { Tank.reset with nominal := 20000, remaining := 12000, st := .service } } }
    t.acc.h = 510 ∧ t.acc.held = some 510 ∧ t.acc.hc = 517 ∧ t.acc.totalTreated = 30 ∧ t.rgs.tankA.remaining = 0
      ∧ t.rgs.tankA.st = .exhausted ∧ t.acc.slip = 3510 ∧ t.flagSet .tank = true := by decide +kernel

/-- 5.5.2, the third result: the backwash's allowance is taken from the volume. -/
theorem test_backwash_water :
    let c := { Softener.reset with k := 4500, hf := 517 }
    let s := place .selector (.at .tankB) (some .tankB) (some .tankB) (inlet c 150 500 opened)
    let t := after (.channelResult 0) { s with
      acc := { s.acc with pulseCarry := 3000 }
      drain := { Drain.reset with holder := some .backwash, allowance := 180, kind := some .backwash }
      rgs := { s.rgs with tankB := { Tank.reset with nominal := 20000, remaining := 12000, st := .service } } }
    t.acc.totalInlet = 4 ∧ t.acc.totalTreated = 1 ∧ t.acc.allowCarry = 0 ∧ t.acc.pulseCarry = 0
      ∧ t.rgs.tankB.remaining = 11483 := by decide +kernel

/-- 5.6.3: the restoration at each dose of the case. -/
theorem test_restoration :
    let s := { fresh with acc := { Account.reset with
      settings := { Softener.reset with resin := 25 }
      efficiencyCurve := [(40, 410), (80, 640), (120, 790), (160, 880), (240, 960), (320, 1000)] } }
    restoration s 3000 20000000 = { dose := 120, efficiency := 790, restored := 15429687 }
      ∧ restoration s 2500 20000000 = { dose := 100, efficiency := 715, restored := 13964843 }
      ∧ restoration s 500 20000000 = { dose := 20, efficiency := 410, restored := 8007812 }
      ∧ restoration s 10000 20000000 = { dose := 400, efficiency := 1000, restored := 19531250 }
      ∧ restoration s 30000 20000000 = { dose := 1000, efficiency := 1000, restored := 19531250 }
      ∧ (restoration s 2800 20000000).restored = 14843750
      ∧ restoration fresh 3000 20000000 = { dose := 1000, efficiency := 0, restored := 0 } := by decide +kernel

/-- The first two steps of the program of 6.6.1 as the snapshot of a run of tank B at step `i`. -/
def regenAt (q : SeqState) (i : Fin 8) (elapsed brine : Nat) (s : State) : State :=
  { s with
    drain := { Drain.reset with holder := some .regen }
    rgs := { Rgs.reset with
      snapshot := (Rgs.reset.snapshot.set 0 (rstep .backwash .duration 600 1 1 120)).set 1
        (rstep .brineDraw .volume 1 100 3600 40)
      seq := q
      run := { RegenRun.empty with
        tank := some .b, prior := some .exhausted, trigger := some .command, step := some i, elapsed := elapsed
        brine := brine } } }

/-- 6.6.1, 614 s and 630 s: the first step ends, the second becomes RUNNING with its allowance. -/
theorem test_regeneration_steps :
    let t := after .regenStepEnd (regenAt .running 0 600 0 (enable .regenRotor opened))
    let u := after (.arrival .regenRotor)
      (regenAt .positioning 1 0 0 (place .regenRotor (.moving .brineDraw 1) (some .brineDraw) none opened))
    t.rgs.seq = .positioning ∧ t.rgs.run.step = some 1 ∧ t.regenRotor.run.st = .moving .brineDraw 1
      ∧ t.drain.allowance = 0 ∧ u.rgs.seq = .running ∧ u.drain.allowance = 40 ∧ u.drain.kind = some .regen
      ∧ u.acc.phase = .draw ∧ u.rgs.run.drawBegun = true := by decide +kernel

/-- 6.6.1, 2100 s: the main opens and the held step goes on with its elapsed seconds and brine. -/
theorem test_regeneration_resumes :
    let s := regenAt .held 1 870 62 (place .regenRotor (.at .brineDraw) (some .brineDraw) (some .brineDraw)
      (place .main (.moving .mainOpen 1) (some .mainOpen) none fresh))
    let t := after (.arrival .main) { s with
      lkg := { s.lkg with main := .opening }
      rgs := { s.rgs with run := { s.rgs.run with interrupted := some .running, drawBegun := true } } }
    t.lkg.main = .opened ∧ t.rgs.seq = .running ∧ t.rgs.run.elapsed = 870 ∧ t.rgs.run.brine = 62
      ∧ t.drain.allowance = 40 ∧ t.acc.phase = .draw := by decide +kernel

/-- The two tanks of 11.2 with tank A in service. -/
def twoTanks (remainingA : Nat) (s : State) : State :=
  { s with
    acc := { s.acc with settings := { s.acc.settings with reserve := 2000000 } }
    rgs := { Rgs.reset with
      program := Rgs.reset.program.set 0 (rstep .backwash .duration 600 1 1 120)
      tankA := { Tank.reset with nominal := 20000000, remaining := remainingA, st := .service }
      tankB := { Tank.reset with nominal := 20000000, remaining := 18000000, st := .standby } } }

/-- 11.2, time 0: the load brings tank A to the reserve and the swap starts. -/
theorem test_reserve_swap :
    let c := { Softener.reset with k := 100, hf := 500 }
    let t := after (.channelResult 0)
      (twoTanks 2010000 (inlet c 30 500 (place .selector (.at .tankA) (some .tankA) (some .tankA) opened)))
    t.rgs.tankA.remaining = 1995000 ∧ t.rgs.tankA.st = .service ∧ t.rgs.move = .swap .b
      ∧ t.selector.run.st = .moving .tankB 1 ∧ t.confirmed = some .tankA := by decide +kernel

/-- R101, R114: a cancellation in QUEUED gives tank B back as STANDBY, and with tank A below the reserve the swap starts. -/
theorem test_cancelled_queue_seeks_swap :
    let s := twoTanks 1995000 (place .selector (.at .tankA) (some .tankA) (some .tankA) opened)
    let t := after (.cancelRegen 7) { s with rgs := { s.rgs with
      seq := .queued, run := { RegenRun.empty with tank := some .b, prior := some .standby }
      tankB := { s.rgs.tankB with st := .regenerating } } }
    t.rgs.seq = .idle ∧ t.rgs.tankB.st = .standby ∧ t.rgs.tankB.lastOutcome = some .cancelled ∧ t.rgs.move = .swap .b
      ∧ t.selector.run.st = .moving .tankB 1 := by decide +kernel

/-- R118, step 4: a warm restart that sets a selector move back raises REGEN, and keeps the tank remembered. -/
theorem test_restart_ends_move :
    let s := { opened with rgs := { Rgs.reset with move := .bypassOn, remembered := some .b } }
    let t := warmRestart s
    t.rgs.move = .none ∧ t.rgs.remembered = some .b ∧ t.flagSet .regen = true := by decide +kernel

/-- R98: seconds since regeneration stop at 4 294 967 295, also when a write gives more. -/
theorem test_tank_seconds_ceiling :
    (after (.writeEntryTank 7 0 { nominal := 1, remaining := none, seconds := some 4294967296 }) fresh).rgs.tankA.seconds
      = 4294967295 := by decide +kernel

/-- 11.2, time 9.4: the selector's arrival rejudges the tanks, queues tank A and is granted the line. -/
theorem test_swap_completes :
    let s := twoTanks 1875000 (enable .regenRotor
      (place .selector (.moving .tankB 1) (some .tankB) (some .tankA) opened))
    let t := after (.arrival .selector) { s with rgs := { s.rgs with move := .swap .b } }
    t.rgs.tankA.st = .regenerating ∧ t.rgs.run.prior = some .exhausted ∧ t.rgs.run.trigger = some .reserve
      ∧ t.rgs.tankB.st = .service ∧ t.rgs.seq = .positioning ∧ t.rgs.run.step = some 0 ∧ t.rgs.move = .none
      ∧ t.drain.holder = some .regen ∧ t.flagSet .tank = true ∧ t.flagSet .regen = true := by decide +kernel

/-- The salt of 7.4.1: reminder 12 000 g, bridge concentration 200, heights 150 and 40, the level LOCKED. -/
def salted (store level count : Nat) : State :=
  let s := lockAt brineLevel level fresh
  { s with slt := { s.slt with
    settings := { capacity := 90000, reminder := 12000, bridgeConc := 200, presentHeight := 150, emptyHeight := 40
                  minRise := 30 }
    store := store, bridgeCount := count } }

/-- 7.4.1: the first refill, and the close of regeneration 3. -/
theorem test_store_and_bridge :
    let t := after (.saltRefilled 1 40000) (salted 0 320 0)
    let u := sltClose { saltG := 1100, mean := some 110, volume := 100, measured := true } false (salted 35800 255 1)
    t.slt.store = 40000 ∧ t.slt.saltLow = false ∧ t.flagSet .salt = true
      ∧ u.slt.store = 34700 ∧ u.slt.bridgeCount = 2 ∧ u.slt.bridge = true ∧ u.flagSet .salt = true := by decide +kernel

/-- 7.4.1: SALT_REFILLED(0) clears the bridge, and a draw that was not measured is not checked. -/
theorem test_bridge_cleared :
    let s := salted 34700 255 2
    let t := after (.saltRefilled 1 0) { s with slt := { s.slt with bridge := true } }
    let u := sltClose { saltG := 2800, mean := some 280, volume := 100, measured := false } false (salted 34700 250 0)
    t.slt.store = 34700 ∧ t.slt.bridge = false ∧ t.slt.bridgeCount = 0 ∧ t.flagSet .salt = true
      ∧ u.slt.store = 31900 ∧ u.slt.bridgeCount = 0 ∧ u.slt.bridge = false := by decide +kernel

/-- 7.5.1: the second and the third refill settle. -/
theorem test_refill_settles :
    let s := fun (level start : Nat) (short : Bool) =>
      let u := salted 40000 level 0
      { u with slt := { u.slt with
        refillShort := short
        refill := { phase := .settling, startSample := some start, endSample := none, volume := 120, timer := some 0
                    result := none } } }
    let t := after .settlingExpiry (s 248 205 true)
    let u := after .settlingExpiry (s 208 190 false)
    t.slt.refill.result = some .pass ∧ t.slt.refillShort = false ∧ t.flagSet .salt = true
      ∧ u.slt.refill.result = some .lowRise ∧ u.slt.refillShort = true ∧ u.flagSet .salt = true := by decide +kernel

/-- R178: with no tank remembered the bypass is left for tank B when only tank B is STANDBY. -/
theorem test_bypass_off_choice :
    let s := place .selector (.at .bypass) (some .bypass) (some .bypass) opened
    let t := after (.bypassOff 4) { s with rgs := { Rgs.reset with
      tankA := { Tank.reset with nominal := 1, st := .exhausted }
      tankB := { Tank.reset with nominal := 1, remaining := 1, st := .standby } } }
    t.rgs.move = .bypassOff .b ∧ t.selector.run.st = .moving .tankB 1
      ∧ t.mgu.replies = [{ tag := 4, body := [1] }] := by decide +kernel

/-! ### Filter stages and the leak guard -/

/-- FLOW LOCKED in mode FAST, fed by channel 0 with K = 100 and a full window; the FILTER_ROTOR AT(SERVICE). -/
def flowUpdate (q z e : Nat) (s : State) : State :=
  let u := lockAt flow q (place .filterRotor (.at .service) (some .service) (some .service)
    (channel0 (counting 1 0) (fun r => { r with g := 1, acc := z, e := e }) s))
  { u with acc := { u.acc with settings := { Softener.reset with k := 100 } } }

/-- 8.3.1, update 7: the third evaluation above the limit in a row makes the stage DUE. -/
theorem test_clogging_cartridge :
    let x := { Stage.reset with
      dpCount := 2
      conf := { StageRec.reset with
        enabled := true, up := some .supply, down := some .mid, dpLimit := some 50, persistence := 3, qRef := 200
        qMin := 60 } }
    let s := flowUpdate 180 3 500 (lockAt pSupply 377 (lockAt pMid 323 opened))
    let t := after (.channelResult 0) { s with flt := { s.flt with stages := s.flt.stages.set 0 x } }
    t.flt.stages[0].lastDp = some 60 ∧ t.flt.stages[0].dpCount = 3 ∧ t.flt.stages[0].due = true
      ∧ t.flagSet .filter = true := by decide +kernel

/-- 8.6.1, 941 s: the first evaluation after the backwash finds the bed fouled. -/
theorem test_media_fouled :
    let x := { Stage.reset with
      conf := { StageRec.reset with
        enabled := true, kind := .media, up := some .mid, down := some .house, dpLimit := some 70, persistence := 4
        qRef := 200, qMin := 60, bwDays := some 3 } }
    let s := flowUpdate 150 5 1000 (lockAt pMid 410 (lockAt pHouse 345 opened))
    let t := after (.channelResult 0) { s with flt := { s.flt with stages := s.flt.stages.set 1 x, watch := true } }
    t.flt.stages[1].lastDp = some 86 ∧ t.flt.fouled = true ∧ t.flt.watch = false ∧ t.flt.stages[1].dpCount = 1
      ∧ t.flt.stages[1].due = true ∧ t.flt.demand = none := by decide +kernel

/-- The rule of 9.5.1 TIMING while a regeneration step is RUNNING with allowance 40 and FLOW LOCKED or not. -/
def leaking (timer q : Nat) (locked : Bool) : State :=
  let s := regenAt .running 1 10 0 (enable .main (if locked then lockAt flow q opened else opened))
  let x := { Rule.reset with
    conf := { Rule.reset.conf with enabled := true, rateLo := 20, duration := 5, action := .shut }
    st := .timing, timer := timer }
  { s with
    drain := { s.drain with allowance := 40, kind := some .regen }
    lkg := { s.lkg with rules := s.lkg.rules.set 0 x } }

/-- 9.5.1, seconds 4 and 7: an unlocked FLOW holds the timer, a net flow of 22 advances it. -/
theorem test_rule_timer : (after .internalSecond (leaking 2 70 false)).lkg.rules[0].timer = 2
    ∧ (after .internalSecond (leaking 4 62 true)).lkg.rules[0].timer = 5 := by decide +kernel

/-- 9.5.1, the trip at second 7: the latch, the closing main and the held regeneration. -/
theorem test_rule_trips :
    let t := after (.ruleTimerTrip 0) (leaking 5 62 true)
    t.lkg.rules[0].st = .tripped ∧ t.lkg.latch = some { cause := .rule 0, seconds := 0 } ∧ t.flagSet .leak = true
      ∧ t.lkg.main = .closing .leak ∧ t.rgs.seq = .held ∧ t.drain.allowance = 0
      ∧ t.drain.holder = some .regen := by decide +kernel

/-- A decay test of 9.8.1 in a state, with a timer. -/
def testing (q : TestState) (estimate : Nat) (s : State) : State :=
  let u := lockAt pHouse estimate s
  { u with
    drain := { Drain.reset with holder := some .test }
    lkg := { u.lkg with
      main := .closed .test
      config := { LeakConfig.reset with failToShut := 2 }
      test := { st := q, timer := some 0, p0 := some 412, previous := some 412, failCount := 1
                record := some { trigger := .calendar, startedAt := 0, endedAt := none, p0 := some 412, p1 := none
                                 decay := none, failCount := none, result := none } } } }

/-- 9.8.1, 10 866: the settle timer expires and MEASURE begins at 412. -/
theorem test_measure_begins :
    let t := after .testSettleExpiry (testing .settle 412 fresh)
    t.lkg.test.st = .measure ∧ t.lkg.test.p0 = some 412 ∧ t.lkg.test.timer = some 300 ∧ t.lkg.main = .closed .test := by
  decide +kernel

/-- 9.8.1, 11 166: a decay of 14 is the second FAIL and shuts the supply. -/
theorem test_failing_test_shuts :
    let t := after .testMeasureExpiry (testing .measure 398 fresh)
    t.lkg.test.st = .idle ∧ t.lkg.test.failCount = 2 ∧ t.lkg.latch = some { cause := .testFail, seconds := 0 }
      ∧ t.lkg.main = .closed .leak ∧ t.drain.holder = none
      ∧ t.lkg.test.record.bind (·.decay) = some 14 ∧ t.lkg.test.record.bind (·.result) = some .fail
      ∧ t.lkg.test.record.bind (·.failCount) = some 2
      ∧ t.flagSet .leak = true ∧ t.flagSet .main = true ∧ t.flagSet .test = true := by decide +kernel

/-- 11.4, 12 600: the window expires while the line is held. -/
theorem test_window_skips :
    let s := testing .waiting 412 fresh
    let t := after .testWindowExpiry { s with drain := { Drain.reset with holder := some .regen, waitTest := true } }
    t.lkg.test.st = .idle ∧ t.lkg.test.record.bind (·.result) = some .skipped ∧ t.drain.waitTest = false
      ∧ t.drain.holder = some .regen ∧ t.lkg.test.failCount = 1 ∧ t.flagSet .test = true := by decide +kernel

/-- 11.3, time 0: a wet report of zone 2 trips the MOISTURE rule 3 and shuts the supply. -/
theorem test_moisture_shuts :
    let d : LaneDesc := { LaneDesc.reset with enabled := true, width := 8, kind := .value, w := 16, moisture := true }
    let s := lane0 d { LaneRun.reset d with assembler := 1, h := 8 } (regenAt .running 1 500 40 (enable .main opened))
    let x := { Rule.reset with
      conf := { Rule.reset.conf with enabled := true, kind := .moisture, zone := some 2, action := .shut } }
    let t := after (.goodFieldFrame (slots0 0x20)) { s with lkg := { s.lkg with
      rules := s.lkg.rules.set 3 x
      windows := s.lkg.windows.set 0 { enabled := true, base := 0x20, mask := 0xFF, zone := 2 } } }
    t.lkg.zones[2].wet = true ∧ t.lkg.rules[3].st = .tripped ∧ t.lkg.latch.map (·.cause) = some (.rule 3)
      ∧ t.lkg.main = .closing .leak ∧ t.rgs.seq = .held ∧ t.rgs.run.elapsed = 500 ∧ t.rgs.run.brine = 40
      ∧ t.flagSet .zone = true ∧ t.flagSet .leak = true ∧ t.flagSet .main = true ∧ t.flagSet .regen = true := by
  decide +kernel

/-- 11.3.1, R179: with the latch set and the main UNKNOWN the close is asked for at the next second. -/
theorem test_latched_retry :
    let s := enable .main fresh
    let u := after .internalSecond { s with lkg := { s.lkg with latch := some { cause := .fieldLost, seconds := 0 } } }
    let t := after .latchedCloseRetry u
    t.lkg.main = .closing .leak ∧ t.main.run.st = .moving .mainClosed 1 := by decide +kernel

/-! ### Management -/

/-- 10.6.1: the tag 0xE7 is sent as 0xE8 0xC7 and read back. -/
theorem test_escape : escaped [0xE7] = [0xE8, 0xC7]
    ∧ (receiverStep 0xC7 (receiverStep 0xE8 { collecting := true, escape := false, bytes := [5], count := 1 }).1).1
      = { collecting := true, escape := false, bytes := [5, 0xE7], count := 2 } := by decide

/-- 10.6.1: the fifth request finds four replies waiting; it is not executed and BACKLOG is raised. -/
theorem test_backlog :
    let s := { fresh with mgu := { Mgu.reset with replies := List.replicate 4 { tag := 1, body := [0] } } }
    let t := after (.setTime 5 1 2) s
    t.mgu.replies.length = 4 ∧ t.mgu.timeValid = false ∧ t.flagSet .backlog = true := by decide +kernel

/-- R171, R177: the bytes of a few requests, written from the tables. -/
theorem test_request_bytes : decodeRequest [1, 7, 5, 3] = some (.readEntry 7 5 3)
    ∧ decodeRequest [2, 7, 5, 3, 15] = some (.writeEntryPreset 7 3 15) ∧ decodeRequest [3, 7, 2, 1] = some (.readResult 7 2 1)
    ∧ decodeRequest [4, 7, 8, 0, 1, 0] = some (.readStateLeakGuard 7 0 1 0)
    ∧ decodeRequest [5, 7, 1, 0x80] = some (.ackChanges 7 1 0x80)
    ∧ decodeRequest [6, 7, 0, 0, 0, 0, 0, 0] = some (.openMain 7)
    ∧ decodeRequest [6, 7, 10, 1, 0, 2, 9, 9] = some (.saltRefilled 7 65538)
    ∧ decodeRequest [6, 7, 14, 0, 9, 1, 0x51, 0x7F] = some (.setTime 7 9 86399)
    ∧ decodeRequest [6, 7, 15, 0, 0, 0, 0, 0] = some (.restart 7) := by decide +kernel

/-- R167: a message with a wrong CRC-16 is discarded without a reply; the right one is executed. -/
theorem test_message_crc :
    let m := messageOf [6, 7, 13, 0, 0, 0, 0, 0]
    m.getLast? ≠ some 0 ∧ (closeMessage (m.dropLast ++ [0]) 10 fresh).mgu.replies = []
      ∧ (closeMessage m 10 fresh).mgu.replies = [{ tag := 7, body := [0] }] := by decide +kernel

/-- A step takes the front of the queue. -/
theorem test_step_takes_front :
    (match step { State.reset with pending := [.restart 3, .openMain 4] } with
      | .next t => decide (t.pending = [.openMain 4] ∧ t.mgu.restartPending = true)
      | _ => false) = true := by decide +kernel

/-- With no command waiting the block idles. -/
theorem test_step_idles : step State.reset = .next State.reset := rfl

/-- The opcode table gives no row bits: no word spells a command. -/
theorem test_no_words : decodeTableWord 16 0 = none ∧ State.reset.withFetchWord 16 0 = State.reset := by decide +kernel

/-! ### Witnesses: for each statement with hypotheses, states and operands that meet them, clause by clause -/

theorem witness_StepTakesTheFrontCommand : State.reset.pending = [] := rfl

/-- A transmitter in the course of a frame, with or without a pending one. -/
def sendingFrame (p : OutPort) (w : Bool) (s : State) : State := setTransmitter p { sending := some [], waiting := w } s

/-- Both transmitters in the course of a frame. -/
def bothSending (s : State) : State := sendingFrame .gtx false (sendingFrame .ftx true s)

/-- The premises of an emission trigger: a transmitter that is sending, and one that is idle. -/
theorem witness_GoodFieldFrameIsTaken :
    ((settle (bothSending fresh)).transmitter .gtx).sending = some []
      ∧ ((settle (bothSending fresh)).transmitter .ftx).sending = some []
      ∧ (settle fresh).link.gtx.sending = none ∧ (settle fresh).link.ftx.sending = none := by decide +kernel

/-- A level lane on bit 0 of slot 0. -/
def levelDesc : LaneDesc := { LaneDesc.reset with enabled := true, width := 1 }

/-- A VALUE lane of width 4, W = 12, without a mark lane. -/
def plainDesc : LaneDesc := { markedDesc with mark := none }

theorem witness_LanesActOnAGoodFieldFrame :
    (settle State.reset).lanes[0].desc.enabled = false
    ∧ (let l := (settle (lane0 levelDesc (LaneRun.reset levelDesc) fresh)).lanes[0]
       l.desc.enabled = true ∧ l.desc.kind = .level)
    ∧ (let l := (settle (markLane fresh)).lanes[1]; l.desc.enabled = true ∧ l.desc.kind = .mark)
    ∧ (let l := (settle (lane0 countDesc (LaneRun.reset countDesc) fresh)).lanes[0]
       l.desc.enabled = true ∧ l.desc.kind = .count)
    ∧ (let l := (settle (lane0 plainDesc { LaneRun.reset plainDesc with h := 7 } fresh)).lanes[0]
       l.desc.enabled = true ∧ l.desc.kind = .value ∧ l.desc.mark = none ∧ l.run.h + l.desc.width < l.desc.w)
    ∧ (let l := (settle (lane0 plainDesc { LaneRun.reset plainDesc with h := 8 } fresh)).lanes[0]
       l.desc.enabled = true ∧ l.desc.kind = .value ∧ l.desc.mark = none ∧ l.desc.w ≤ l.run.h + l.desc.width)
    ∧ (let s := markLane (lane0 markedDesc (LaneRun.reset markedDesc) fresh)
       let l := (settle s).lanes[0]
       l.desc.enabled = true ∧ l.desc.kind = .value ∧ l.desc.mark = some 1 ∧ l.run.waiting = true
          ∧ 0 + l.desc.width < l.desc.w ∧ markLevel (settle s).lanes (slots0 0) (some 1) = false
          ∧ markLevel (settle s).lanes ((slots0 0).set 1 1) (some 1) = true)
    ∧ (let d : LaneDesc := { markedDesc with w := 4 }
       let l := (settle (markLane (lane0 d (LaneRun.reset d) fresh))).lanes[0]
       l.desc.mark = some 1 ∧ l.run.waiting = true ∧ l.desc.w ≤ 0 + l.desc.width)
    ∧ (let l := (settle (sampling 4 4)).lanes[0]
       l.desc.enabled = true ∧ l.desc.kind = .value ∧ l.desc.mark = some 1 ∧ l.run.waiting = false ∧ 0 < l.run.h
          ∧ 0 + l.desc.width < l.desc.w ∧ markLevel (settle (sampling 4 4)).lanes ((slots0 5).set 1 1) (some 1) = true)
    ∧ (let l := (settle (sampling 4 7)).lanes[0]
       l.run.waiting = false ∧ l.run.h + l.desc.width < l.desc.w
          ∧ markLevel (settle (sampling 4 7)).lanes (slots0 5) (some 1) = false)
    ∧ (let l := (settle (sampling 4 8)).lanes[0]
       l.run.waiting = false ∧ l.desc.w ≤ l.run.h + l.desc.width
          ∧ markLevel (settle (sampling 4 8)).lanes (slots0 5) (some 1) = false)
    ∧ (let l := (settle (sampling 0 0)).lanes[0]
       l.run.waiting = false ∧ l.run.h = 0
          ∧ markLevel (settle (sampling 0 0)).lanes ((slots0 5).set 1 1) (some 1) = true) := by decide +kernel

/-- Channel 0 OPEN in a mode, fed by lane 0, with lane 1 as input B for GATED_COUNT. -/
def modeState (m : ChannelMode) (y : Nat) (d : LaneDesc) (r : LaneRun) (f : ChannelRun → ChannelRun) : State :=
  lane0 d r (channel0 { counting 4 y with mode := m, inB := if m = .gatedCount then some 1 else none } f fresh)

/-- The outputs of lane 0 in a frame. -/
def outA (s : State) (b : Byte) : LaneOut := outOf (laneOuts (settle s).lanes (slots0 b)) 0

/-- Filtered input A of channel 0 goes from 0 to 1 in the frame. -/
abbrev risesAt (s : State) (b : Byte) : Prop :=
  (settle s).channels[0].run.fa.level = some false
    ∧ (filterStep (runLength (settle s).presets none) (outA s b).level (settle s).channels[0].run.fa).level = some true

theorem witness_OpenChannelsMeasureAGoodFieldFrame :
    let low : Filter := { level := some false, count := 0 }
    let high : Filter := { level := some true, count := 0 }
    let lv := fun (m : ChannelMode) (f : ChannelRun → ChannelRun) => modeState m 0 levelDesc (LaneRun.reset levelDesc) f
    let ct := fun (y : Nat) =>
      modeState .countDelta y countDesc { LaneRun.reset countDesc with refValid := true } id
    let e := lv .edgeCount (fun r => { r with fa := low })
    ((settle e).channels[0].run.cond = .opened ∧ (settle e).channels[0].conf.mode = .edgeCount ∧ (outA e 1).delta = none
        ∧ risesAt e 1 ∧ ¬ risesAt e 0)
    ∧ ((settle (ct 0)).channels[0].conf.mode = .countDelta ∧ (outA (ct 0) 20).delta = some 20
        ∧ (settle (ct 0)).channels[0].conf.y = 0)
    ∧ ((outA (ct 20) 20).delta = some 20 ∧ (settle (ct 20)).channels[0].conf.y = 20)
    ∧ ((outA (ct 20) 21).delta = some 21 ∧ 0 < (settle (ct 20)).channels[0].conf.y)
    ∧ ((settle (lv .highTime id)).channels[0].conf.mode = .highTime ∧ (outA (lv .highTime id) 1).delta = none)
    ∧ (let s := modeState .valueMean 0 plainDesc { LaneRun.reset plainDesc with h := 8 } id
       (settle s).channels[0].conf.mode = .valueMean ∧ (outA s 1).sample = some 256
          ∧ (outA (modeState .valueMean 0 plainDesc (LaneRun.reset plainDesc) id) 1).sample = none)
    ∧ (let s := lv .gatedCount (fun r => { r with fa := low, fb := high })
       (settle s).channels[0].conf.mode = .gatedCount ∧ (settle s).channels[0].conf.inB = some 1
          ∧ (outA s 1).delta = none
          ∧ (filterStep 0 (outOf (laneOuts (settle s).lanes (slots0 1)) 1).level
              (lv .gatedCount (fun r => { r with fb := low })).channels[0].run.fb).level = some false)
    ∧ (let s := markLane (lane0 levelDesc (LaneRun.reset levelDesc)
          (channel0 { counting 4 0 with mode := .gatedCount, inB := some 1 } (fun r => { r with fb := high }) fresh))
       (filterStep 0 (outOf (laneOuts (settle s).lanes ((slots0 1).set 1 1)) 1).level
          (settle s).channels[0].run.fb).level = some true)
    ∧ (let s := fun y => markLane (lane0 countDesc { LaneRun.reset countDesc with refValid := true }
          (channel0 { counting 4 y with mode := .gatedCount, inB := some 1 } (fun r => { r with fb := high }) fresh))
       (settle (s 20)).channels[0].conf.mode = .gatedCount ∧ (settle (s 20)).channels[0].conf.inB = some 1
          ∧ (filterStep 0 (outOf (laneOuts (settle (s 20)).lanes ((slots0 20).set 1 1)) 1).level
              (settle (s 20)).channels[0].run.fb).level = some true
          ∧ (outOf (laneOuts (settle (s 20)).lanes ((slots0 20).set 1 1)) 0).delta = some 20
          ∧ (outOf (laneOuts (settle (s 20)).lanes ((slots0 21).set 1 1)) 0).delta = some 21
          ∧ (settle (s 20)).channels[0].conf.y = 20 ∧ (settle (s 0)).channels[0].conf.y = 0)
    ∧ (let s := lv .period (fun r => { r with fa := low })
       (settle s).channels[0].conf.mode = .period ∧ (outA s 1).delta = none ∧ risesAt s 1
          ∧ (settle s).channels[0].run.timing = false ∧ ¬ risesAt s 0)
    ∧ (let s := lv .period (fun r => { r with fa := low, timing := true })
       risesAt s 1 ∧ (settle s).channels[0].run.timing = true) := by decide +kernel

/-- A run of ten bytes that begins with the sync byte and ends with a wrong CRC-8. -/
def wrongCrc : List Byte := syncByte :: (List.replicate 8 1 ++ [0])

/-- One run for each ground of discarding: a framing error, no bytes, a byte too few, a wrong CRC-8. -/
theorem witness_ARunOfBytesIsJudgedByItsChecks :
    (collectRun (frameLength .grx) [] true).framing = true ∧ ([] : List Byte).head? ≠ some syncByte
      ∧ (frameOf (List.replicate 7 0)).length ≠ frameLength .grx ∧ (frameOf (List.replicate 19 0)).length ≠ frameLength .frx
      ∧ wrongCrc.length = frameLength .grx
      ∧ crc8 ((wrongCrc.drop 1).take (frameLength .grx - 2)) ≠ wrongCrc.getD (frameLength .grx - 1) 0 := by decide +kernel

theorem witness_GoodControlFrameIsTaken : (0 : Byte) ≠ delimiter ∧ escapeByte ≠ delimiter := by decide

theorem witness_FrameTimerExpiryCountsMissingFrames :
    (settle { fresh with link := { fresh.link with fieldSeen := true } }).link.fieldSeen = true
    ∧ (settle fresh).link.fieldFresh = true
    ∧ ((settle State.reset).link.fieldFresh = false ∧ (settle State.reset).link.gtx.sending = none
        ∧ (settle State.reset).link.ftx.sending = none)
    ∧ (let u := settle (bothSending State.reset)
       u.link.fieldFresh = false ∧ u.link.gtx.sending = some [] ∧ u.link.ftx.sending = some [])
    ∧ (settle fresh).link.fieldSeen = false
    ∧ (let l := (settle (sampling 3 4)).lanes[0]
       l.desc.enabled = true ∧ l.desc.kind = .value ∧ l.desc.width < l.desc.w ∧ l.run.waiting = false)
    ∧ (settle fresh).channels[0].run.cond ≠ .opened
    ∧ (let c := (settle (channel0 slowMeter id fresh)).channels[0]; c.run.cond = .opened ∧ c.conf.mode = .period) := by
  decide +kernel

theorem witness_LinksBecomeStaleAtTwoHundredFiftyMissingFrames :
    (let s := { fresh with link := { fresh.link with fieldMissing := 250, gwFresh := true, gwMissing := 250 } }
     s.link.fieldFresh = true ∧ 250 ≤ s.link.fieldMissing ∧ s.link.gwFresh = true ∧ 250 ≤ s.link.gwMissing
       ∧ s.link.gtx.sending = none ∧ s.link.ftx.sending = none ∧ (bothSending s).link.gtx.sending = some []
       ∧ (bothSending s).link.ftx.sending = some [])
    ∧ State.reset.link.fieldFresh = false
    ∧ ({ fresh with link := { fresh.link with fieldMissing := 249 } } : State).link.fieldMissing < 250 := by decide

/-- The report field `j` set. -/
def reported (j : Fin 24) (f : ReportField) (s : State) : State :=
  { s with link := { s.link with reportFields := s.link.reportFields.set j f } }

theorem witness_FramesAreComposedAsTheirTransmitterStartsThem :
    (fresh.transmitter .gtx).sending = none ∧ (fresh.transmitter .ftx).sending = none
    ∧ (let s := sendingFrame .gtx false fresh
       (s.transmitter .gtx).sending ≠ none ∧ (s.transmitter .gtx).waiting = false ∧ s.restartDue = false)
    ∧ (let s := sendingFrame .ftx false fresh; (s.transmitter .ftx).sending ≠ none ∧ (s.transmitter .ftx).waiting = false)
    ∧ (let s := sendingFrame .ftx true fresh; s.link.ftx.sending ≠ none ∧ s.link.ftx.waiting = true)
    ∧ (let s := sendingFrame .gtx true fresh
       s.link.gtx.sending ≠ none ∧ s.link.gtx.waiting = true ∧ s.restartDue = false)
    ∧ (fresh.link.fieldFresh = true ∧ State.reset.link.fieldFresh = false
        ∧ ({ fresh with link := { fresh.link with lastField := some (slots0 1) } } : State).link.lastField = some (slots0 1))
    ∧ ((∀ j : Fin 24, fresh.link.reportFields[j].enabled = false) ∧ ∀ a ∈ [Actr.main, .selector, .regenRotor, .filterRotor], (fresh.act a).conf.enabled = false)
    ∧ (let f := (reported 23 { enabled := true, slot := 5, start := 7, width := 1, source := .locks }
          fresh).link.reportFields
       f[(23 : Fin 24)].enabled = true ∧ f[(23 : Fin 24)].slot = 5 ∧ f[(23 : Fin 24)].start ≤ 7
         ∧ 7 < f[(23 : Fin 24)].start + f[(23 : Fin 24)].width ∧ ∀ k : Fin 24, k ≠ 23 → f[k].enabled = false)
    ∧ (let s := fun st => place .main st none none fresh
       (∀ a ∈ [Actr.main, .selector, .regenRotor, .filterRotor], a ≠ .main → ((s (.at .mainOpen)).act a).conf.enabled = false)
         ∧ ((s (.at .mainOpen)).act .main).conf.enabled = true ∧ ((s (.at .mainOpen)).act .main).conf.slot = 0
         ∧ ((s (.at .mainOpen)).act .main).conf.start = 0 ∧ ((s (.at .mainOpen)).act .main).conf.width = 2
         ∧ ((s (.at .mainOpen)).act .main).run.st = .at .mainOpen
         ∧ ((s (.moving .mainOpen 1)).act .main).run.st = .moving .mainOpen 1)
    ∧ fresh.mgu.replies = []
    ∧ (let r : Reply := { tag := 0xE8, body := [0xE7] }
       let at' := fun i : Nat => { fresh with mgu := { fresh.mgu with replies := [r], sent := some i } }
       (at' 0).mgu.replies = r :: [] ∧ (replyBytes r).length = 9 ∧ (at' 7).mgu.sent.getD 0 + 1 < 9
         ∧ 9 ≤ (at' 8).mgu.sent.getD 0 + 1) := by
  decide +kernel

theorem witness_WarmRestartKeepsTablesAndRecords :
    let u := sendingFrame .gtx true opened
    let s := { u with mgu := { u.mgu with restartPending := true } }
    let run := fun (q : SeqState) (p : Option TankState) => { s with
      acc := { s.acc with draw := { s.acc.draw with isOpen := true, volume := 1 } }
      rgs := { s.rgs with seq := q, run := { RegenRun.empty with tank := some .b, prior := p } }
      flt := { s.flt with st := q } }
    (s.link.gtx.sending ≠ none ∧ s.mgu.restartPending = true ∧ s.mgu.replies = [] ∧ s.rgs.run.tank = none
        ∧ s.flt.st = .idle ∧ s.lkg.test.st = .idle)
    ∧ (let v := run .queued (some .standby)
       v.link.gtx.sending ≠ none ∧ v.mgu.restartPending = true ∧ v.mgu.replies = [] ∧ v.rgs.seq = .queued
        ∧ v.rgs.run.tank = some .b ∧ v.rgs.run.prior = some .standby ∧ v.rgs.run.tank ≠ some .a)
    ∧ (let v := run .parking none
       v.link.gtx.sending ≠ none ∧ v.mgu.restartPending = true ∧ v.mgu.replies = [] ∧ v.rgs.seq ≠ .queued
        ∧ v.rgs.run.tank = some .b ∧ 0 < v.acc.draw.volume ∧ v.flt.st ≠ .idle ∧ v.flt.run.decided = false)
    ∧ ({ BwRun.empty with decided := true } : BwRun).decided = true := by decide

theorem witness_WindowsCloseAndPublishOneResult :
    (let c := (channel0 (counting 4 0) (fun r => { r with g := 4 }) fresh).channels[0]
     c.run.cond = .opened ∧ c.conf.x ≤ c.run.g ∧ c.conf.mode = .countDelta)
    ∧ (let c := (channel0 { counting 4 0 with mode := .valueMean } (fun r => { r with k := 4 }) fresh).channels[0]
       c.run.cond = .opened ∧ c.conf.x ≤ c.run.k ∧ c.conf.mode = .valueMean)
    ∧ (let c := (channel0 slowMeter (fun r => { r with n := 2, timing := true }) fresh).channels[0]
       c.run.cond = .opened ∧ c.conf.x ≤ c.run.n ∧ c.run.timing = true ∧ c.conf.mode = .period)
    ∧ (let c := (channel0 slowMeter (fun r => { r with s := 1000 }) fresh).channels[0]
       c.run.cond = .opened ∧ c.conf.mode = .period ∧ 0 < c.conf.y ∧ c.conf.y ≤ c.run.s)
    ∧ (let c := (channel0 slowMeter (fun r => { r with missing := 250, s := 999 }) fresh).channels[0]
       c.run.cond = .opened ∧ 250 ≤ c.run.missing ∧ ¬ (c.conf.mode = .period ∧ 0 < c.conf.y ∧ c.conf.y ≤ c.run.s))
    ∧ fresh.channels[0].run.cond ≠ .opened := by decide

/-- The premises of an inlet result on channel 0. -/
abbrev inletReady (s : State) : Prop :=
  let c := s.channels[0]
  c.run.cond = .opened ∧ c.conf.x ≤ c.run.g ∧ c.conf.mode = .countDelta ∧ s.acc.settings.inlet = some 0
    ∧ 1 ≤ s.acc.settings.k ∧ s.acc.settings.k ≤ 60000

/-- The inlet channel with K, the selector confirmed at a position, tank A in a state. -/
def inletAt (k z : Nat) (p : Option Pos) (st : TankState) (remaining : Nat) : State :=
  let s := place .selector .unknown none p (inlet { Softener.reset with k := k, hf := 1 } z 500 opened)
  { s with rgs := { s.rgs with tankA := { Tank.reset with nominal := 100, remaining := remaining, st := st } } }

/-- Each place of the selector, CLAMP met; and one pulse of K = 100, a load of 1, with 2 just above the reserve of 0. -/
theorem witness_AnInletResultIsAccountedAndCharged :
    inletReady (inletAt 1 656 (some .tankA) .service 9)
    ∧ (let s := inletAt 1 656 (some .tankA) .service 9
       65535 < (s.acc.pulseCarry + s.channels[0].run.acc * 100) / s.acc.settings.k ∧ s.confirmed = some TankId.a.pos
          ∧ (s.tank .a).charged = true)
    ∧ (let s := inletAt 60000 1 (some .tankA) .regenerating 9
       inletReady s ∧ s.confirmed = some TankId.a.pos ∧ (s.tank .a).charged = false)
    ∧ (let s := inletAt 1 1 (some .bypass) .standby 9; inletReady s ∧ s.confirmed = some .bypass)
    ∧ (let s := inletAt 1 1 none .standby 9; inletReady s ∧ s.confirmed = none)
    ∧ (let s := inletAt 100 1 (some .tankA) .service 2
       let dv := min 65535 ((s.acc.pulseCarry + s.channels[0].run.acc * 100) / s.acc.settings.k)
       inletReady s ∧ s.drain.kind ≠ some .backwash ∧ s.confirmed = some TankId.a.pos ∧ (s.tank .a).charged = true
         ∧ s.acc.settings.mode = .forced ∧ s.acc.settings.reserve
            + dv * min 2000 (s.acc.settings.hf + s.acc.settings.fe * s.acc.settings.kFe / 1000) < (s.tank .a).remaining
         ∧ (∀ i : Fin 16, s.lkg.rules[i].conf.enabled = true → s.lkg.rules[i].conf.kind ≠ .eventVolume))
    ∧ (let c : List (Nat × Nat) := [(10, 3), (20, 9)]
       (c.Pairwise fun p q => p.1 < q.1 ∧ p.2 ≤ q.2) ∧ c.head? = some (10, 3) ∧ 9 < 10 ∧ c.getLast? = some (20, 9)
         ∧ 20 ≤ 20 ∧ c = [] ++ (10, 3) :: (20, 9) :: [] ∧ 10 ≤ 10) := by
  decide +kernel

/-- The brine channel 0 in a mode, full in every mode, with K_b and a pulse count, in a brine phase. -/
def brineAt (m : ChannelMode) (kb z : Nat) (p : BrinePhase) (s : State) : State :=
  let u := channel0 { counting 1 0 with mode := m }
    (fun r => { r with g := 1, k := 1, n := 1, timing := true, acc := z }) s
  { u with acc := { u.acc with settings := { Softener.reset with kb := kb, brine := some 0 }, phase := p } }

/-- A REFILL check that is filling. -/
def filling (s : State) : State := { s with slt := { s.slt with refill := { s.slt.refill with phase := .inRefill } } }

/-- K_b at its bounds and just outside them, each mode, the increment at the clamp and just above it, and each place of the
increment: a volume step, a duration step, no step; DRAW under lock and not; REFILL filling and not. -/
theorem witness_ABrineResultIsCountedAndAccumulated :
    let ready := fun (m : ChannelMode) (s : State) =>
      s.acc.settings.brine = some 0 ∧ s.acc.settings.inlet ≠ some 0 ∧ s.channels[0].run.cond = .opened
        ∧ s.channels[0].conf.mode = m ∧ s.channels[0].conf.x ≤ s.channels[0].run.g
        ∧ s.channels[0].conf.x ≤ s.channels[0].run.k ∧ s.channels[0].conf.x ≤ s.channels[0].run.n
        ∧ s.channels[0].run.timing = true
    let q := fun (s : State) => (s.acc.brineCarry + s.channels[0].run.acc * 100) / s.acc.settings.kb
    (∀ m ∈ [ChannelMode.edgeCount, .countDelta, .gatedCount, .highTime, .valueMean, .period],
        ready m (brineAt m 1 5 .draw fresh))
    ∧ (let s := brineAt .countDelta 60000 5 .draw (lockAt condBrine 300 fresh)
       s.acc.phase = .draw ∧ s.acc.settings.kb ≤ 60000 ∧ s.trackers[condBrine].run.st = .locked
         ∧ ({ s.acc with brineCurve := [(0, 0), (1000, 300)] } : Account).brineCurve ≠ [])
    ∧ ((brineAt .countDelta 0 5 .draw fresh).acc.settings.kb = 0 ∧ 60000 < (brineAt .countDelta 60001 5 .draw fresh).acc.settings.kb
        ∧ (brineAt .countDelta 1 5 .none fresh).acc.phase = .none)
    ∧ (q (brineAt .countDelta 100 65535 .draw fresh) = 65535 ∧ 65535 < q (brineAt .countDelta 100 65536 .draw fresh)
        ∧ (brineAt .countDelta 100 65536 .draw fresh).acc.clamp = false)
    ∧ (let s := brineAt .countDelta 1 5 .draw (regenAt .running 1 0 0 opened)
       s.rgs.seq = .running ∧ s.rgs.run.step = some 1 ∧ s.rgs.snapshot[(1 : Fin 8)].endKind = .volume)
    ∧ (let s := brineAt .countDelta 1 5 .draw (regenAt .running 0 0 0 opened)
       s.rgs.run.step = some 0 ∧ s.rgs.snapshot[(0 : Fin 8)].endKind = .duration)
    ∧ (brineAt .countDelta 1 5 .draw fresh).rgs.seq ≠ .running
    ∧ (let s := brineAt .countDelta 1 5 .refill (filling fresh)
       s.acc.phase = .refill ∧ s.slt.refill.phase = .inRefill)
    ∧ (brineAt .countDelta 1 5 .refill fresh).slt.refill.phase ≠ .inRefill := by decide +kernel

/-- A tracker fed by channel 0 in a mode, its window full with a result of 5, in a run state. -/
def fedBy (m : ChannelMode) (i : Fin 7) (c : TrackerRec) (r : TrackerRun) : State :=
  setTracker i { conf := { c with enabled := true, hi := 1000, lo := 5, gain := 4096 }, run := r }
    (channel0 { counting 1 1 with mode := m }
      (fun r => { r with g := 1, k := 1, n := 1, timing := true, acc := 5, f := 5, s := 1, e := 1 }) fresh)

/-- The premises of TrackersTakeThePublishedResult on channel 0, of a full window and, in PERIOD, of a timeout. -/
abbrev fullIn (m : ChannelMode) (s : State) : Prop :=
  let c := s.channels[0]
  c.run.cond = .opened ∧ c.conf.mode = m ∧ c.conf.x ≤ c.run.g ∧ c.conf.x ≤ c.run.k ∧ c.conf.x ≤ c.run.n
    ∧ c.run.timing = true ∧ 0 < c.conf.y ∧ c.conf.y ≤ c.run.s

/-- Every mode is full at once; a tracker in each state, the input 5 at the clamp's edge and just outside it, K_lose and the
bands met and missed by one, and each time constant. -/
theorem witness_TrackersTakeThePublishedResult :
    let c0 := Tracker.reset.conf
    let at5 : TrackerRun := { TrackerRun.idle with st := .locked, est := some 5 }
    (∀ m ∈ [ChannelMode.edgeCount, .countDelta, .gatedCount, .highTime, .valueMean, .period],
        fullIn m (fedBy m pHouse c0 TrackerRun.idle))
    ∧ (let k := (fedBy .valueMean pHouse { c0 with source := 1 } TrackerRun.search).trackers[pHouse]
       k.conf.enabled = true ∧ k.conf.source ≠ 0)
    ∧ Tracker.reset.conf.enabled = false
    ∧ (let k := (fedBy .valueMean pHouse c0 { TrackerRun.idle with st := .hold }).trackers[pHouse]
       k.conf.enabled = true ∧ k.conf.source = 0 ∧ k.run.st = .hold)
    ∧ (let k := (fedBy .edgeCount flow c0 TrackerRun.search).trackers[flow]
       k.conf.enabled = true ∧ k.conf.source = 0 ∧ k.run.st = .search ∧ k.run.awaiting = true ∧ k.run.range = false)
    ∧ (let k := (fedBy .valueMean pHouse { c0 with offset := 1 } TrackerRun.search).trackers[pHouse]
       ((5 : Int) - k.conf.offset) * k.conf.gain / 4096 < (k.conf.lo : Int))
    ∧ (let k := (fedBy .period pHouse { c0 with mLock := 2, bw := 0 }
          { TrackerRun.search with awaiting := false, est := some 5, nIn := 1 }).trackers[pHouse]
       k.run.st = .search ∧ k.run.awaiting = false ∧ ((5 : Int) - 5).natAbs ≤ k.conf.bw
          ∧ k.conf.mLock ≤ k.run.nIn + 1)
    ∧ (let k := (fedBy .highTime pHouse { c0 with mLock := 3, bw := 0 }
          { TrackerRun.search with awaiting := false, est := some 5, nIn := 1 }).trackers[pHouse]
       k.run.nIn + 1 < k.conf.mLock)
    ∧ (∀ tc ∈ [TimeConst.slow, .normal, .fast, .auto],
        let k := (fedBy .gatedCount flow { c0 with tc := tc, kLose := 1 } at5).trackers[flow]
        k.conf.source = 0 ∧ k.run.st = .locked ∧ k.conf.tc = tc ∧ 0 < k.conf.kLose ∧ k.conf.kLose ≤ k.run.nOut + 1)
    ∧ (let k := (fedBy .valueMean pHouse { c0 with bn := 1, j := 1 } { at5 with est := some 7 }).trackers[pHouse]
       k.run.st = .locked ∧ k.conf.bn < ((5 : Int) - 7).natAbs ∧ k.conf.j = 1)
    ∧ (let k := (fedBy .valueMean pHouse { c0 with bn := 1, nHi := 0 } { at5 with est := some 6, m := 8 }).trackers[pHouse]
       ((5 : Int) - 6).natAbs ≤ k.conf.bn
          ∧ k.conf.nHi < ((k.run.m : Int) + Int.tdiv ((((5 : Int) - 6).natAbs : Int) - k.run.m) 8).toNat) := by decide

/-- An actuator in a state with a run state changed by `f`. -/
def actRun (a : Actr) (st : ActState) (r : Option Pos) (f : ActuatorRun → ActuatorRun) (s : State) : State :=
  setRun a (f ((place a st r none s).act a).run) (place a st r none s)

theorem witness_MovesArriveTimeOutAndTryAgain :
    (let s := actRun .main (.moving .mainOpen 1) (some .mainOpen) id fresh
     (s.act .main).run.st = .moving .mainOpen 1 ∧ (s.act .main).run.recognised = some .mainOpen)
    ∧ (let s := actRun .filterRotor (.paused .rinse 8) (some .rinse) id fresh
       (s.act .filterRotor).run.st = .paused .rinse 8 ∧ (s.act .filterRotor).run.recognised = some .rinse)
    ∧ (let s := actRun .selector .unknown (some .bypass) (fun r => { r with adoptSeen := true }) fresh
       (s.act .selector).run.st = .unknown ∧ (s.act .selector).conf.enabled = true
        ∧ (s.act .selector).run.adoptSeen = true ∧ (s.act .selector).run.recognised = some .bypass)
    ∧ (fresh.act .regenRotor).run.recognised = none
    ∧ (let x := (lateRotor (.moving .brineDraw 1) (some 0) none).act .regenRotor
     x.run.st = .moving .brineDraw 1 ∧ x.run.travel = some 0 ∧ 1 ≤ x.conf.retry)
    ∧ (let x := (lateRotor (.paused .brineDraw 1) none (some 0)).act .regenRotor
       x.run.st = .paused .brineDraw 1 ∧ x.run.pause = some 0)
    ∧ (let x := (lateRotor (.moving .brineDraw 1) (some 1) (some 1)).act .regenRotor
       x.run.travel ≠ some 0 ∧ x.run.pause ≠ some 0) := by decide

theorem witness_ActuatorFaultsAreRecordedAndOffered :
    (let s := lateRotor (.moving .brineDraw 2) (some 0) none
     (s.act .regenRotor).run.st = .moving .brineDraw 2 ∧ (s.act .regenRotor).run.travel = some 0
        ∧ (s.act .regenRotor).conf.retry < 2 ∧ s.mgu.fault.valid = false)
    ∧ (let s := actRun .main (.moving .mainOpen 1) none (fun r => { r with stallSeen := true })
        { fresh with mgu := { Mgu.reset with fault := { FaultRecord.reset with valid := true } } }
       (s.act .main).run.st = .moving .mainOpen 1 ∧ (s.act .main).run.stallSeen = true
        ∧ (s.act .main).run.recognised ≠ some .mainOpen ∧ s.mgu.fault.valid = true)
    ∧ (let s := actRun .selector (.at .tankA) none (fun r => { r with displace := some 0 }) fresh
       (s.act .selector).run.st = .at .tankA ∧ (s.act .selector).run.displace = some 0) := by decide

/-- A main valve state set. -/
def mainAt (m : MainState) (s : State) : State := { s with lkg := { s.lkg with main := m } }

theorem witness_TheMainValveStateFollowsMain :
    (let s := mainAt (.closing .manual) (place .main (.moving .mainClosed 3) (some .mainClosed) none fresh)
     s.lkg.test.st = .idle ∧ s.noneWaits ∧ s.rgs.seq ≠ .held ∧ s.flt.st ≠ .held ∧ s.main.run.st = .moving .mainClosed 3
        ∧ s.main.run.recognised = some .mainClosed ∧ s.lkg.main = .closing .manual)
    ∧ (let s := mainAt .opening (place .main (.moving .mainOpen 1) (some .mainOpen) none fresh)
       s.lkg.test.st = .idle ∧ s.noneWaits ∧ s.rgs.seq ≠ .held ∧ s.flt.st ≠ .held ∧ s.main.run.st = .moving .mainOpen 1
        ∧ s.main.run.recognised = some .mainOpen ∧ s.lkg.main = .opening)
    ∧ (let quiet := fun s : State => s.lkg.test.st = .idle ∧ s.noneWaits ∧ s.rgs.seq ≠ .held ∧ s.flt.st ≠ .held
         ∧ s.main.conf.enabled = true
       let found := fun (r : Option Pos) (s : State) => actRun .main .unknown r (fun r => { r with adoptSeen := true }) s
       let left := fun (r : Option Pos) (s : State) =>
         actRun .main (.at .mainOpen) r (fun r => { r with displace := some 0 }) s
       let latch := fun s : State => { s with lkg := { s.lkg with latch := some { cause := .fieldLost, seconds := 0 } } }
       (∀ r ∈ [some Pos.mainOpen, some .mainClosed], ∀ s ∈ [found r opened, found r (latch fresh)],
          quiet s ∧ s.main.run.st = .unknown ∧ s.main.run.adoptSeen = true ∧ s.main.run.recognised = r ∧ r ≠ none)
         ∧ (∀ r ∈ [some Pos.mainOpen, some .mainClosed, none], ∀ s ∈ [left r opened, left r (latch fresh)],
          quiet s ∧ s.main.run.st = .at .mainOpen ∧ s.main.run.displace = some 0 ∧ s.main.run.recognised = r)
         ∧ fresh.lkg.main ≠ .opened ∧ (found (some .mainOpen) opened).lkg.latch = none
         ∧ (latch fresh).lkg.latch ≠ none) := by
  decide +kernel

/-- The program of 6.6.1's first step at index `i`, in the table and in the snapshot. -/
def programmed (i : Fin 8) (x : RegenStep) (s : State) : State :=
  { s with rgs := { s.rgs with program := s.rgs.program.set i x, snapshot := s.rgs.snapshot.set i x } }

/-- A backwash program with one step at index `i`, in the table and in the snapshot. -/
def bwProgrammed (i : Fin 4) (x : BackwashStep) (s : State) : State :=
  { s with flt := { s.flt with program := s.flt.program.set i x, snapshot := s.flt.snapshot.set i x } }

/-- The sequencer's state set. -/
def seqAt (q : SeqState) (s : State) : State := { s with rgs := { s.rgs with seq := q } }

/-- The backwash's state set. -/
def fltAt (q : SeqState) (s : State) : State := { s with flt := { s.flt with st := q } }

/-- The drain line set. -/
def drainAt (d : Drain) (s : State) : State := { s with drain := d }

/-- The test's state, timer and record set. -/
def testAt (q : TestState) (timer : Option Nat) (s : State) : State :=
  { s with lkg := { s.lkg with test := { s.lkg.test with st := q, timer := timer } } }

/-- The leak latch set. -/
def latched (s : State) : State := { s with lkg := { s.lkg with latch := some { cause := .fieldLost, seconds := 0 } } }

theorem witness_TheDrainLineGoesToTheFirstInPriority :
    (fresh.lkg.main ≠ .opened ∧ fresh.noneWaits)
    ∧ ((drainAt { Drain.reset with holder := some .regen } opened).drain.holder ≠ none)
    ∧ (let s := seqAt .queued (programmed 7 (rstep .refill .volume 1 1 1 0)
         (drainAt { Drain.reset with waitRegen := true, waitTest := true } (enable .regenRotor opened)))
       s.lkg.main = .opened ∧ s.drain.holder = none ∧ s.drain.waitRegen = true ∧ s.rgs.seq = .queued
         ∧ s.link.fieldFresh = true ∧ s.rgs.program[(7 : Fin 8)].enabled = true
         ∧ (∀ j : Fin 8, j < 7 → s.rgs.program[j].enabled = false)
         ∧ s.answer .regenRotor (regenPos s.rgs.program[(7 : Fin 8)].pos) = .moving)
    ∧ (let s := fltAt .queued (bwProgrammed 0 (bstep .backwash 1 0)
         (drainAt { Drain.reset with waitBackwash := true } (enable .filterRotor opened)))
       s.lkg.main = .opened ∧ s.drain.holder = none ∧ s.drain.waitRegen = false ∧ s.drain.waitBackwash = true
         ∧ s.flt.st = .queued ∧ s.link.fieldFresh = true ∧ s.flt.program[(0 : Fin 4)].enabled = true
         ∧ (∀ j : Fin 4, j < 0 → s.flt.program[j].enabled = false)
         ∧ s.answer .filterRotor (backwashPos s.flt.program[(0 : Fin 4)].pos) = .moving)
    ∧ (let s := testAt .waiting (some 60) (drainAt { Drain.reset with waitTest := true } (enable .main opened))
       s.lkg.main = .opened ∧ s.drain.holder = none ∧ s.drain.waitRegen = false ∧ s.drain.waitBackwash = false
         ∧ s.drain.waitTest = true ∧ s.lkg.test.st = .waiting ∧ s.answer .main .mainClosed = .moving) := by
  decide +kernel

/-- A calendar trigger due with a valid time and a program, tank A EXHAUSTED and out of service. -/
def calendarState (secondsA secondsB : Nat) (stB : TankState) : State :=
  let s := programmed 0 (rstep .backwash .duration 1 1 1 0) fresh
  { s with
    acc := { s.acc with settings := { Softener.reset with regenHour := some 23 } }
    rgs := { s.rgs with
      calendarDue := true
      tankA := { Tank.reset with nominal := 1, st := .exhausted, seconds := secondsA }
      tankB := { Tank.reset with nominal := 1, st := stB, seconds := secondsB } }
    mgu := { s.mgu with timeValid := true } }

/-- A step RUNNING at index `i` of the snapshot with the refill check filling. -/
def runningStep (i : Fin 8) (x : RegenStep) (elapsed brine : Nat) (s : State) : State :=
  let u := programmed i x (seqAt .running s)
  { u with
    rgs := { u.rgs with run := { RegenRun.empty with tank := some .a, step := some i, elapsed := elapsed, brine := brine } }
    slt := { u.slt with refill := { u.slt.refill with phase := .inRefill } } }

/-- The REGEN_ROTOR in a move toward the step's position that it recognises, the step at index `i` in POSITIONING. -/
def arrivingStep (i : Fin 8) (x : RegenStep) (st : ActState) (fromStart : Bool) (s : State) : State :=
  let u := programmed i x (regenAt .positioning i 5 6 (place .regenRotor st (some (regenPos x.pos)) none s))
  { u with rgs := { u.rgs with
      snapshot := u.rgs.snapshot.set i x, run := { u.rgs.run with fromStart := fromStart } } }

/-- The FILTER_ROTOR in a move toward the step's position that it recognises, the step at index `i` in POSITIONING. -/
def arrivingBackwash (i : Fin 4) (x : BackwashStep) (st : ActState) (s : State) : State :=
  let u := fltAt .positioning (bwProgrammed i x (drainAt { Drain.reset with holder := some .backwash }
    (place .filterRotor st (some (backwashPos x.pos)) none s)))
  { u with flt := { u.flt with run := { BwRun.empty with stage := some 1, step := some i } } }

theorem witness_AStepRunsAtItsPosition :
    (let s := arrivingStep 7 (rstep .refill .volume 1 1 1 9) (.moving .refill 1) true opened
     s.rgs.seq = .positioning ∧ s.rgs.run.step = some 7 ∧ s.rgs.snapshot[(7 : Fin 8)].pos = .refill
       ∧ s.regenRotor.run.st = .moving .refill 1 ∧ s.regenRotor.run.recognised = some .refill ∧ s.lkg.main = .opened
       ∧ s.link.fieldFresh = true ∧ s.drain.holder = some .regen ∧ s.rgs.run.fromStart = true)
    ∧ (let s := arrivingStep 0 (rstep .refill .volume 1 1 1 9) (.paused .refill 2) false (filling opened)
       s.regenRotor.run.st = .paused .refill 2 ∧ s.rgs.run.fromStart = false ∧ s.slt.refill.phase ≠ .none)
    ∧ (let s := arrivingStep 0 (rstep .slowRinse .duration 1 1 1 9) (.moving .slowRinse 2) true fresh
       s.rgs.snapshot[(0 : Fin 8)].pos ≠ .refill ∧ s.lkg.main ≠ .opened)
    ∧ (let s := arrivingStep 0 (rstep .slowRinse .duration 1 1 1 9) (.moving .slowRinse 2) true (mainAt .opened State.reset)
       s.link.fieldFresh = false ∧ s.lkg.main = .opened)
    ∧ (let s := arrivingBackwash 3 (bstep .rinse 1 9) (.moving .rinse 1) opened
       s.flt.st = .positioning ∧ s.flt.run.step = some 3 ∧ s.flt.snapshot[(3 : Fin 4)].pos = .rinse
         ∧ s.filterRotor.run.st = .moving .rinse 1 ∧ s.filterRotor.run.recognised = some .rinse ∧ s.lkg.main = .opened
         ∧ s.link.fieldFresh = true ∧ s.drain.holder = some .backwash)
    ∧ (arrivingBackwash 0 (bstep .rinse 1 9) (.paused .rinse 1) fresh).lkg.main ≠ .opened
    ∧ (let s := place .regenRotor (.moving .service 1) (some .service) none (regenAt .positioning 1 0 0 opened)
       s.rgs.seq = .positioning ∧ s.rgs.run.step = some 1 ∧ Pos.service ≠ regenPos s.rgs.snapshot[(1 : Fin 8)].pos
         ∧ s.regenRotor.run.st = .moving .service 1 ∧ s.regenRotor.run.recognised = some .service)
    ∧ (let u := arrivingBackwash 0 (bstep .rinse 1 9) (.at .rinse) opened
       let s := place .filterRotor (.moving .service 1) (some .service) none u
       s.flt.st = .positioning ∧ s.flt.run.step = some 0 ∧ Pos.service ≠ backwashPos s.flt.snapshot[(0 : Fin 4)].pos
         ∧ s.filterRotor.run.st = .moving .service 1 ∧ s.filterRotor.run.recognised = some .service) := by decide +kernel

/-- The backwash of `arrivingBackwash` HELD, the FILTER_ROTOR as given. -/
def heldBackwash (st : ActState) (recognised : Option Pos) (s : State) : State :=
  fltAt .held (place .filterRotor st recognised none (arrivingBackwash 2 (bstep .backwash 1 9) (.at .backwash) s))

/-- MAIN at its arrival at OPEN. -/
def opening (s : State) : State := mainAt .opening (place .main (.moving .mainOpen 1) (some .mainOpen) none s)

/-- FIELD_STALE with the main OPEN. -/
def openedStale : State := mainAt .opened State.reset

theorem witness_RunsAreHeldAndResumed :
    (∀ q ∈ [SeqState.positioning, .running, .parking],
      let u := regenAt q 1 7 8 (enable .main opened)
      let s := { u with link := { u.link with fieldMissing := 250 } }
      s.link.fieldFresh = true ∧ 250 ≤ s.link.fieldMissing ∧ s.lkg.test.st = .idle ∧ s.rgs.seq = q
        ∧ s.drain.holder = some .regen ∧ s.takesRequests ∧ s.lkg.main = .opened
        ∧ s.answer .main .mainClosed = .moving)
    ∧ (place .main .unknown (some .mainClosed) none opened).answer .main .mainClosed = .completed
    ∧ ((fltAt .running (arrivingBackwash 1 (bstep .rinse 1 9) (.at .rinse) opened)).flt.st = .running
        ∧ (arrivingBackwash 1 (bstep .rinse 1 9) (.at .rinse) opened).drain.holder = some .backwash)
    ∧ (let s := opening (regenAt .held 1 7 8 (enable .regenRotor fresh))
       s.main.run.st = .moving .mainOpen 1 ∧ s.main.run.recognised = some .mainOpen ∧ s.lkg.main = .opening
         ∧ s.lkg.test.st = .idle ∧ s.drain.holder ≠ none ∧ s.link.fieldFresh = true ∧ s.rgs.seq = .held
         ∧ s.flt.st ≠ .held ∧ s.rgs.run.step = some 1
         ∧ s.answer .regenRotor (regenPos s.rgs.snapshot[(1 : Fin 8)].pos) = .moving)
    ∧ (let s := opening (regenAt .held 1 7 8 (place .regenRotor (.at .brineDraw) (some .brineDraw) none fresh))
       s.answer .regenRotor (regenPos s.rgs.snapshot[(1 : Fin 8)].pos) = .completed)
    ∧ (let s := opening (heldBackwash .unknown none fresh)
       s.flt.st = .held ∧ s.rgs.seq ≠ .held ∧ s.flt.run.step = some 2
         ∧ s.answer .filterRotor (backwashPos s.flt.snapshot[(2 : Fin 4)].pos) = .moving)
    ∧ (let s := opening (heldBackwash (.at .backwash) (some .backwash) fresh)
       s.answer .filterRotor (backwashPos s.flt.snapshot[(2 : Fin 4)].pos) = .completed)
    ∧ ((opening State.reset).link.fieldFresh = false ∧ (opening State.reset).noneWaits)
    ∧ (let u := settle (regenAt .held 1 7 8 (enable .regenRotor openedStale))
       u.link.fieldFresh = false ∧ u.lkg.main = .opened ∧ u.rgs.seq = .held ∧ u.flt.st ≠ .held ∧ u.rgs.run.step = some 1
         ∧ u.answer .regenRotor (regenPos u.rgs.snapshot[(1 : Fin 8)].pos) = .moving
         ∧ (∀ i : Fin 16, u.lkg.rules[i].conf.enabled = false))
    ∧ (let u := settle (heldBackwash .unknown none openedStale)
       u.flt.st = .held ∧ u.rgs.seq ≠ .held ∧ u.answer .filterRotor .backwash = .moving)
    ∧ (let u := settle (regenAt .held 1 7 8 State.reset)
       u.link.fieldFresh = false ∧ u.lkg.main ≠ .opened ∧ u.rgs.seq = .held) := by decide +kernel

theorem witness_ARunningStepEnds :
    (let s := runningStep 0 (rstep .backwash .duration 600 1 1 0) 600 0
       (programmed 3 (rstep .refill .volume 1 1 1 0) (drainAt { Drain.reset with holder := some .regen }
         (enable .regenRotor opened)))
     s.rgs.seq = .running ∧ s.rgs.run.step = some 0 ∧ s.rgs.snapshot[(0 : Fin 8)].endKind = .duration
       ∧ s.rgs.snapshot[(0 : Fin 8)].duration ≤ s.rgs.run.elapsed ∧ s.rgs.snapshot[(3 : Fin 8)].enabled = true
       ∧ (∀ k : Fin 8, 0 < k → k < 3 → s.rgs.snapshot[k].enabled = false) ∧ s.supplied = true
       ∧ s.answer .regenRotor (regenPos s.rgs.snapshot[(3 : Fin 8)].pos) = .moving ∧ s.drain.holder = some .regen)
    ∧ (let s := runningStep 6 (rstep .refill .volume 1 120 900 0) 900 120
         (programmed 7 (rstep .fastRinse .duration 1 1 1 0) (enable .regenRotor opened))
       let x := s.rgs.snapshot[(6 : Fin 8)]
       x.endKind = .volume ∧ x.volume ≤ s.rgs.run.brine ∧ x.pos = .refill ∧ s.slt.refill.phase = .inRefill
         ∧ s.rgs.snapshot[(7 : Fin 8)].enabled = true ∧ s.supplied = true
         ∧ s.answer .regenRotor (regenPos s.rgs.snapshot[(7 : Fin 8)].pos) = .moving)
    ∧ (let s := runningStep 7 (rstep .refill .volume 1 120 900 0) 900 119 (enable .regenRotor opened)
       let x := s.rgs.snapshot[(7 : Fin 8)]
       x.endKind = .volume ∧ s.rgs.run.brine < x.volume ∧ x.timeout ≤ s.rgs.run.elapsed
         ∧ (∀ j : Fin 8, 7 < j → s.rgs.snapshot[j].enabled = false) ∧ s.answer .regenRotor .service = .moving)
    ∧ (let u := bwProgrammed 0 (bstep .backwash 600 0) (bwProgrammed 2 (bstep .rinse 1 0)
       (drainAt { Drain.reset with holder := some .backwash } (enable .filterRotor opened)))
     let s := { u with flt := { u.flt with st := .running, run := { BwRun.empty with stage := some 1, step := some 0, elapsed := 600 } } }
     s.flt.st = .running ∧ s.flt.run.step = some 0 ∧ s.flt.snapshot[(0 : Fin 4)].duration ≤ s.flt.run.elapsed
       ∧ s.flt.snapshot[(2 : Fin 4)].enabled = true ∧ (∀ k : Fin 4, 0 < k → k < 2 → s.flt.snapshot[k].enabled = false)
       ∧ s.supplied = true ∧ s.answer .filterRotor (backwashPos s.flt.snapshot[(2 : Fin 4)].pos) = .moving
       ∧ s.drain.holder = some .backwash)
    ∧ (let u := bwProgrammed 3 (bstep .rinse 1 0) (enable .filterRotor opened)
       let s := { u with flt := { u.flt with st := .running, run := { BwRun.empty with step := some 3, elapsed := 1 } } }
       s.flt.st = .running ∧ s.flt.run.step = some 3 ∧ s.flt.snapshot[(3 : Fin 4)].duration ≤ s.flt.run.elapsed
         ∧ (∀ j : Fin 4, 3 < j → s.flt.snapshot[j].enabled = false) ∧ s.answer .filterRotor .service = .moving) := by
  decide +kernel

theorem witness_ARunCompletesAtService :
    (let u := seqAt .parking (drainAt { Drain.reset with holder := some .regen }
       (place .regenRotor (.moving .service 1) (some .service) none (place .selector .unknown none (some .tankB) opened)))
     let s := { u with
       acc := { u.acc with draw := { DrawAcc.reset with isOpen := true, saltDg := 9, volume := 1 } }
       rgs := { u.rgs with
         run := { RegenRun.empty with tank := some .a }
         tankB := { Tank.reset with nominal := 1, remaining := 1, st := .service } } }
     s.rgs.seq = .parking ∧ s.rgs.run.tank = some .a ∧ s.regenRotor.run.st = .moving .service 1
       ∧ s.regenRotor.run.recognised = some .service ∧ s.drain.holder = some .regen ∧ s.noneWaits
       ∧ s.confirmed = some TankId.a.other.pos ∧ s.acc.settings.reserve < (s.tank TankId.a.other).remaining)
    ∧ (∀ st ∈ [ActState.moving .service 1, .paused .service 8],
        let u := fltAt .parking (drainAt { Drain.reset with holder := some .backwash }
          (place .filterRotor st (some .service) none opened))
        let s := fun d : Bool => { u with flt := { u.flt with run := { BwRun.empty with stage := some 3, decided := d } } }
        (s false).flt.st = .parking ∧ (s false).filterRotor.run.st = st ∧ (s false).noneWaits
          ∧ (s false).filterRotor.run.recognised = some .service ∧ (s false).flt.run.decided = false
          ∧ (s false).flt.run.stage = some 3 ∧ (s false).drain.holder = some .backwash
          ∧ (s true).flt.run.decided = true) := by
  decide +kernel

theorem witness_ARunHeldToItsLimitIsAbandoned :
    (let u := seqAt .held (enable .regenRotor fresh)
     let s := { u with rgs := { u.rgs with holdDue := true, run := { RegenRun.empty with tank := some .b } } }
     s.rgs.seq = .held ∧ s.rgs.holdDue = true ∧ s.rgs.run.tank = some .b ∧ s.noneWaits
       ∧ s.answer .regenRotor .service = .moving ∧ s.mgu.fault.valid = false)
    ∧ (let u := fltAt .held (enable .filterRotor fresh)
       let s := { u with flt := { u.flt with holdDue := true, run := { BwRun.empty with stage := some 3 } } }
       s.flt.st = .held ∧ s.flt.holdDue = true ∧ s.flt.run.stage = some 3 ∧ s.noneWaits
         ∧ s.answer .filterRotor .service = .moving)
    ∧ fresh.rgs.seq ≠ .held ∧ fresh.flt.st ≠ .held := by decide +kernel

theorem witness_CancelRegenIsTakenBySequencerState :
    (fresh.takesRequests ∧ fresh.rgs.seq = .idle ∧ (seqAt .parking fresh).rgs.seq = .parking)
    ∧ (let s := { fresh with rgs := { Rgs.reset with
         seq := .queued, run := { RegenRun.empty with tank := some .a, prior := some .standby } } }
       s.rgs.seq = .queued ∧ s.rgs.run.tank = some .a ∧ s.rgs.run.prior = some .standby ∧ s.drain.holder ≠ some .regen
         ∧ s.confirmed ≠ some TankId.a.pos ∧ s.confirmed ≠ some TankId.b.pos)
    ∧ (let sought := fun (sel : State) (remainingA remainingB : Nat) =>
         let u := twoTanks remainingA sel
         let s := { u with rgs := { u.rgs with
           seq := .queued, run := { RegenRun.empty with tank := some .b, prior := some .standby }
           tankB := { u.rgs.tankB with remaining := remainingB } } }
         s.takesRequests ∧ s.drain.holder ≠ some .regen ∧ s.confirmed = some TankId.a.pos ∧ s.rgs.move = .none
           ∧ (s.tank .a).remaining ≤ s.acc.settings.reserve ∧ s.acc.settings.reserve < (s.tank TankId.a.other).remaining
       let atA := fun (st : ActState) => place .selector st (some .tankA) (some .tankA) fresh
       (sought (atA (.at .tankA)) 2000000 2000001 ∧ (atA (.at .tankA)).answer .selector .tankB = .moving)
         ∧ ¬ sought (atA (.at .tankA)) 2000001 2000001 ∧ ¬ sought (atA (.at .tankA)) 2000000 2000000
         ∧ (sought (atA .faultStall) 2000000 2000001 ∧ (atA .faultStall).answer .selector .tankB = .faulted))
    ∧ (let u := enable .regenRotor opened
       let s := { u with rgs := { u.rgs with seq := .running, run := { RegenRun.empty with tank := some .b, drawBegun := true } } }
       s.takesRequests ∧ s.rgs.seq = .running ∧ s.rgs.run.tank = some .b ∧ s.answer .regenRotor .service = .moving
         ∧ s.rgs.run.drawBegun = true)
    ∧ (let u := enable .regenRotor opened
       let s := { u with rgs := { u.rgs with seq := .positioning, run := { RegenRun.empty with tank := some .a } } }
       s.rgs.seq = .positioning ∧ s.rgs.run.tank = some .a ∧ s.answer .regenRotor .service = .moving
         ∧ s.rgs.run.drawBegun = false) := by decide +kernel

/-- A refill check that has settled, with a start sample, the level at an estimate. -/
def settled (start : Option Nat) (level minRise : Nat) : State :=
  let s := lockAt brineLevel level fresh
  { s with slt := { s.slt with
    settings := { s.slt.settings with minRise := minRise }
    refill := { s.slt.refill with phase := .settling, timer := some 0, startSample := start } } }

theorem witness_ASettledRefillIsJudged :
    (let s := settled (some 10) 40 30
     s.slt.refill.phase = .settling ∧ s.slt.refill.timer = some 0 ∧ s.slt.refill.startSample = some 10
       ∧ s.trackers[brineLevel].run.st = .locked ∧ s.trackers[brineLevel].run.est = some 40
       ∧ 10 + s.slt.settings.minRise ≤ 40)
    ∧ (let s := settled (some 10) 39 30
       s.trackers[brineLevel].run.est = some 39 ∧ 39 < 10 + s.slt.settings.minRise)
    ∧ (settled none 39 30).slt.refill.startSample = none
    ∧ fresh.slt.refill.phase ≠ .settling := by decide

theorem witness_TheInternalSecondAdvancesEveryCounter :
    (let u := settle { fresh with
       acc := { Account.reset with settings := { Softener.reset with regenHour := some 0 } }
       mgu := { Mgu.reset with timeValid := true, day := 65535, secondOfDay := 86399, seconds := 4294967295 }
       lkg := { Lkg.reset with event := some { start := 0, volume := 1, idle := 59 } } }
     u.mgu.timeValid = true ∧ u.mgu.secondOfDay + 1 = 86400 ∧ (∀ i : Fin 16, u.lkg.rules[i].conf.enabled = false)
       ∧ u.lkg.test.st = .idle ∧ u.acc.settings.regenHour = some 0
       ∧ u.lkg.event = some { start := 0, volume := 1, idle := 59 } ∧ u.lkg.config.gap ≤ min max32 (59 + 1))
    ∧ (let u := settle State.reset
       u.mgu.timeValid = false ∧ u.link.fieldFresh = false ∧ u.rgs.seq ≠ .running ∧ u.rgs.seq ≠ .held)
    ∧ (settle (regenAt .running 0 599 0 opened)).rgs.seq = .running
    ∧ (let u := settle (regenAt .held 1 0 0 fresh)
       u.rgs.seq = .held ∧ ¬ u.acc.settings.holdLimit ≤ min 65535 (u.rgs.run.hold + 1))
    ∧ (let s := regenAt .held 1 0 0 fresh
       let u := settle { s with rgs := { s.rgs with run := { s.rgs.run with hold := 3599 } } }
       u.rgs.seq = .held ∧ u.acc.settings.holdLimit ≤ min 65535 (u.rgs.run.hold + 1))
    ∧ (settle (fltAt .running opened)).flt.st = .running ∧ (settle (fltAt .held fresh)).flt.st = .held := by
  decide +kernel

/-- A rate rule, its zone of time and FLOW locked at an estimate or not. -/
def rated (c : LeakRule) (q : Nat) (locked : Bool) : State :=
  let s := if locked then lockAt flow q opened else opened
  { s with lkg := { s.lkg with rules := s.lkg.rules.set 0 { Rule.reset with conf := c } } }

/-- A TRICKLE rule of 5 to 9 (0.1 L/min). -/
def trickle : LeakRule := { Rule.reset.conf with enabled := true, kind := .trickle, rateLo := 5, rateHi := 9 }

/-- Stage `i` enabled with a kind, volume limits and counters. -/
def staged (i : Fin 4) (x : Stage) (s : State) : State :=
  { s with flt := { s.flt with stages := s.flt.stages.set i { x with conf := { x.conf with enabled := true } } } }

/-- A media stage with backwash limits and counters. -/
def media (vol days : Option Nat) (v sec : Nat) : Stage :=
  { Stage.reset with conf := { StageRec.reset with kind := .media, bwVolume := vol, bwDays := days }, volBw := v, secBw := sec }

/-- Stage 1 of a kind between P_SUPPLY at 377 and P_MID at 323 with a least flow and a limit, its watch armed, and FLOW
taking its estimate of 180 again. -/
def judgedStage (k : StageKind) (qMin limit : Nat) (s : State) : State :=
  let u := staged 1 { Stage.reset with
    dpCount := 2
    conf := { StageRec.reset with
      kind := k, up := some .supply, down := some .mid, dpLimit := some limit, persistence := 3, qRef := 200, qMin := qMin } }
    (flowUpdate 180 3 500 (lockAt pSupply 377 (lockAt pMid 323 s)))
  { u with flt := { u.flt with watch := true } }

/-- The conditions of a pressure-drop evaluation of stage 1 from `s` to `t`. -/
abbrev made (s t : State) : Prop :=
  let x := s.flt.stages[(1 : Fin 4)]
  x.conf.enabled = true ∧ x.conf.up = some .supply ∧ x.conf.down = some .mid ∧ t.trackers[flow].run.st = .locked
    ∧ x.conf.qMin ≤ t.estimate flow ∧ s.trackers[pSupply].run.st = .locked ∧ s.trackers[pMid].run.st = .locked
    ∧ t.lkg.main = .opened ∧ t.filterRotor.run.st = .at .service

/-- The normalised pressure drop of stage 1 from `s` to `t`. -/
def dp (s t : State) : Nat :=
  min 2000 ((s.estimate pSupply - s.estimate pMid) * s.flt.stages[(1 : Fin 4)].conf.qRef / t.estimate flow)

theorem witness_StagesBecomeDueAndABackwashIsDemanded :
    (let x := (staged 3 { Stage.reset with conf := { StageRec.reset with volumeLimit := some 10 }, volRep := 10 }
       fresh).flt.stages[(3 : Fin 4)]
     x.conf.enabled = true ∧ x.due = false ∧ ∃ l ∈ x.conf.volumeLimit, l ≤ x.volRep)
    ∧ (let x := (staged 0 { Stage.reset with conf := { StageRec.reset with dayLimit := some 1 }, secRep := 86400 }
         fresh).flt.stages[(0 : Fin 4)]
       x.conf.enabled = true ∧ x.due = false ∧ x.conf.dayLimit = some 1 ∧ 1 * 86400 ≤ x.secRep)
    ∧ fresh.flt.stages[(0 : Fin 4)].conf.enabled = false
    ∧ (let s := staged 1 (media (some 5) none 5 0) fresh
       s.flt.stages[(1 : Fin 4)].conf.enabled = true ∧ s.flt.stages[(1 : Fin 4)].conf.kind = .media
         ∧ (∀ j : Fin 4, j < 1 → ¬ (s.flt.stages[j].conf.enabled = true ∧ s.flt.stages[j].conf.kind = .media))
         ∧ s.flt.demand = none ∧ s.flt.stages[(1 : Fin 4)].conf.bwVolume = some 5 ∧ 5 ≤ s.flt.stages[(1 : Fin 4)].volBw)
    ∧ (let s := staged 1 (media (some 5) (some 3) 4 259200) fresh
       s.flt.demand = none ∧ s.flt.stages[(1 : Fin 4)].conf.bwVolume = some 5 ∧ s.flt.stages[(1 : Fin 4)].volBw < 5
         ∧ s.flt.stages[(1 : Fin 4)].conf.bwDays = some 3 ∧ 3 * 86400 ≤ s.flt.stages[(1 : Fin 4)].secBw)
    ∧ (∀ j : Fin 4, fresh.flt.stages[j].conf.enabled = false)
    ∧ (∀ m ∈ [ChannelMode.edgeCount, .countDelta, .gatedCount, .highTime, .valueMean, .period],
        let s := fedBy m flow Tracker.reset.conf TrackerRun.search
        fullIn m s ∧ s.trackers[flow].conf.enabled = true ∧ s.trackers[flow].conf.source = 0
          ∧ s.trackers[flow].run.st = .search)
    ∧ (let s := judgedStage .cartridge 180 59 opened
       let t := after (.channelResult 0) s
       made s t ∧ s.flt.stages[(1 : Fin 4)].conf.kind = .cartridge ∧ 59 < dp s t)
    ∧ (let s := judgedStage .cartridge 180 60 opened
       made s (after (.channelResult 0) s) ∧ ¬ 60 < dp s (after (.channelResult 0) s))
    ∧ (let s := judgedStage .media 180 59 opened
       made s (after (.channelResult 0) s) ∧ s.flt.stages[(1 : Fin 4)].conf.kind = .media
         ∧ (∀ j : Fin 4, j ≠ 1 → s.flt.stages[j].conf.enabled = false) ∧ s.flt.watch = true ∧ s.flt.demand = none)
    ∧ (let s := judgedStage .cartridge 181 59 opened; ¬ made s (after (.channelResult 0) s))
    ∧ (let s := judgedStage .cartridge 180 59 fresh; ¬ made s (after (.channelResult 0) s)) := by
  and_intros <;> decide +kernel

theorem witness_ARunIsQueued :
    (let s := calendarState 1 0 .exhausted
     s.rgs.calendarDue = true ∧ s.acc.settings.regenHour ≠ none ∧ s.mgu.timeValid = true ∧ s.rgs.seq = .idle
       ∧ s.rgs.move = .none ∧ (∃ i : Fin 8, s.rgs.program[i].enabled = true) ∧ (s.tank .a).st = .exhausted
       ∧ s.confirmed ≠ some TankId.a.pos ∧ (s.tank .b).seconds < (s.tank .a).seconds
       ∧ s.drain.holder ≠ some .regen ∧ s.lkg.main ≠ .opened)
    ∧ ((calendarState 0 9 .standby).tank .b).st ≠ .exhausted
    ∧ (let s := { fresh with rgs := { Rgs.reset with calendarDue := true } }
       s.rgs.calendarDue = true ∧ s.acc.settings.regenHour = none)
    ∧ fresh.rgs.calendarDue = false
    ∧ (let s := calendarState 0 0 .standby
       s.takesRequests ∧ (s.tank .b).st ≠ .unconfigured ∧ s.confirmed ≠ some TankId.b.pos)
    ∧ fresh.takesRequests ∧ (seqAt .held fresh).rgs.seq ≠ .idle
    ∧ (let u := bwProgrammed 3 (bstep .rinse 1 0) (staged 2 (media none (some 3) 0 0) (enable .filterRotor fresh))
     let s := { u with flt := { u.flt with demand := some .days, queueDue := true } }
     s.flt.stages[(2 : Fin 4)].conf.enabled = true ∧ s.flt.stages[(2 : Fin 4)].conf.kind = .media
       ∧ (∀ j : Fin 4, j < 2 → ¬ (s.flt.stages[j].conf.enabled = true ∧ s.flt.stages[j].conf.kind = .media))
       ∧ s.flt.queueDue = true ∧ s.flt.demand = some .days ∧ s.flt.st = .idle ∧ s.filterRotor.conf.enabled = true
       ∧ s.filterRotor.run.inFault = false ∧ (∃ j : Fin 4, s.flt.program[j].enabled = true)
       ∧ s.drain.holder ≠ some .backwash ∧ s.lkg.main ≠ .opened ∧ s.takesRequests)
    ∧ (let s := staged 2 (media none none 0 0) { fresh with flt := { Flt.reset with queueDue := true } }
       s.flt.queueDue = true ∧ s.flt.demand = none ∧ s.flt.st = .idle
         ∧ (∀ j : Fin 4, s.flt.program[j].enabled = false) ∧ s.takesRequests)
    ∧ (fltAt .parking (staged 2 (media none none 0 0) fresh)).flt.st ≠ .idle := by decide +kernel

/-- An enabled CONTINUOUS rule at index 15, TIMING, its timer at its duration of 5. -/
def timedRule (action : RuleAction) (s : State) : State :=
  let x : Rule := { Rule.reset with
    conf := { Rule.reset.conf with enabled := true, duration := 5, action := action }, st := .timing, timer := 5 }
  { s with lkg := { s.lkg with rules := s.lkg.rules.set 15 x } }

theorem witness_RateRulesAreJudgedAndTrip :
    let q := fun (s : State) => (settle s).estimate flow - (settle s).drain.allowance
    let x := fun (s : State) => (settle s).lkg.rules[(0 : Fin 16)]
    let hour := fun (s : State) => (after .internalSecond s).hour
    (let s := rated trickle 9 true
     (x s).conf.kind = .trickle ∧ (x s).conf.enabled = true ∧ insideHours (x s).conf (hour s) = true ∧ (x s).st = .armed
       ∧ (settle s).trackers[flow].run.st = .locked ∧ (x s).conf.rateLo ≤ q s ∧ q s ≤ (x s).conf.rateHi)
    ∧ (let s := rated trickle 10 true
       (settle s).trackers[flow].run.st = .locked ∧ ¬ q s ≤ (x s).conf.rateHi)
    ∧ (settle (rated trickle 9 false)).trackers[flow].run.st ≠ .locked
    ∧ (let u := rated { trickle with kind := .continuous, hours := 1 } 9 true
       let s := { u with mgu := { u.mgu with timeValid := true, secondOfDay := 3599 } }
       (x s).conf.kind = .continuous ∧ insideHours (x s).conf (hour s) = false
         ∧ ¬ ((x s).st = .tripped ∧ (x s).conf.action = .shut))
    ∧ (let s := timedRule .notify opened
     let x := s.lkg.rules[(15 : Fin 16)]
     x.conf.enabled = true ∧ x.st = .timing ∧ x.conf.kind = .continuous ∧ x.conf.duration ≤ x.timer
       ∧ x.conf.action = .notify)
    ∧ (let s := timedRule .shut (enable .main opened)
       let x := s.lkg.rules[(15 : Fin 16)]
       x.conf.enabled = true ∧ x.st = .timing ∧ x.conf.duration ≤ x.timer ∧ x.conf.action = .shut ∧ s.lkg.latch = none
         ∧ s.lkg.main = .opened ∧ s.answer .main .mainClosed = .moving)
    ∧ (let s := timedRule .shut (latched fresh)
       s.lkg.rules[(15 : Fin 16)].conf.action = .shut ∧ s.lkg.latch ≠ none)
    ∧ opened.lkg.rules[(0 : Fin 16)].st ≠ .timing := by decide +kernel

/-- An EVENT_VOLUME rule at index 15 with a volume and an action, ARMED, and a draw event or none. -/
def drawing (volume : Nat) (action : RuleAction) (e : Option DrawEvent) (s : State) : State :=
  let x : Rule := { Rule.reset with
    conf := { Rule.reset.conf with enabled := true, kind := .eventVolume, volume := volume, action := action } }
  { s with lkg := { s.lkg with rules := s.lkg.rules.set 15 x, event := e } }

/-- An increment of 3 dL (K = 100) or of none, an event or none, and the rule's volume met exactly and missed by one. -/
theorem witness_DrawEventsGrowAndEndAndTripTheirRules :
    let e : DrawEvent := { start := 0, volume := 4, idle := 60 }
    let trips := fun s : State =>
      let x := s.lkg.rules[(15 : Fin 16)]
      x.conf.enabled = true ∧ x.conf.kind = .eventVolume ∧ x.st = .armed
        ∧ ∃ e ∈ (after (.channelResult 0) s).lkg.event, x.conf.volume ≤ e.volume
    let net := fun s : State =>
      let dv := min 65535 ((s.acc.pulseCarry + s.channels[0].run.acc * 100) / s.acc.settings.k)
      dv - min dv (min 65535 ((s.acc.allowCarry + s.drain.allowance * s.channels[0].run.e) / 30000))
    (let s := drawing 7 .shut (some e) (inletAt 100 3 none .standby 9)
     inletReady s ∧ net s = 3 ∧ s.lkg.event = some e ∧ trips s ∧ s.lkg.rules[(15 : Fin 16)].conf.action = .shut
       ∧ s.lkg.latch = none)
    ∧ (let s := drawing 8 .shut (some e) (inletAt 100 3 none .standby 9); inletReady s ∧ ¬ trips s)
    ∧ (let s := drawing 3 .notify none (inletAt 100 3 none .standby 9); inletReady s ∧ s.lkg.event = none ∧ trips s)
    ∧ (let s := drawing 3 .notify none (inletAt 100 0 none .standby 9); inletReady s ∧ net s = 0)
    ∧ (let s := { fresh with lkg := { Lkg.reset with drawDue := true, event := some e } }
       s.lkg.drawDue = true ∧ s.lkg.event = some e)
    ∧ fresh.lkg.drawDue = false := by decide +kernel

/-- The intake lane 0, one field short of a sample with address 0x20 and the flag byte `v`, or `h` = 0. -/
def sensing (v h : Nat) (s : State) : State :=
  let d : LaneDesc := { LaneDesc.reset with enabled := true, width := 8, kind := .value, w := 16, moisture := true }
  lane0 d { LaneRun.reset d with assembler := v, h := h } s

/-- Zone window `j` with a base and a mask for a zone. -/
def window (j : Fin 8) (base mask zone : Nat) (s : State) : State :=
  { s with lkg := { s.lkg with
      windows := s.lkg.windows.set j { enabled := true, base := base, mask := mask, zone := zone } } }

/-- A zone rule at index 15, of a kind, a zone, an action and a state. -/
def zoneRule (k : RuleKind) (z : Option Nat) (action : RuleAction) (st : RuleState) (s : State) : State :=
  let x : Rule := { Rule.reset with
    conf := { Rule.reset.conf with enabled := true, kind := k, zone := z, action := action }, st := st }
  { s with lkg := { s.lkg with rules := s.lkg.rules.set 15 x } }

/-- Zone 7 reported `ago` seconds before the next internal second with a SILENCE bound of 5, silent or not. -/
def hearing (ago : Nat) (silent : Bool) : State :=
  let u := window 7 0 0 7 fresh
  { u with
    mgu := { u.mgu with seconds := 99 }
    lkg := { u.lkg with
      config := { LeakConfig.reset with silence := some 5 }
      zones := u.lkg.zones.set 7 { Zone.reset with lastReport := 100 - ago, reported := true, silent := silent } } }

/-- No sample, a sample no window takes, and one that window 3 takes for zone 7, window 0 taking another address; a rule
of zone 7 and of ANY, showing and cleared; the silence bound met and passed by one. -/
theorem witness_ZonesAreReportedAndTheirRulesTrip :
    let sample := fun s : State => (laneOuts (settle s).lanes (slots0 0x20))[(0 : Fin 32)].sample
    let intake := fun d : LaneDesc => d.enabled = true ∧ d.kind = .value ∧ d.moisture = true
    let takes := fun (s : State) (j : Fin 8) =>
      let w := (settle s).lkg.windows[j]
      w.enabled = true ∧ 0x20 &&& w.mask = w.base &&& w.mask
    let taken := fun s : State => sample s = some 0x2001 ∧ takes s 3 ∧ (∀ k : Fin 8, k < 3 → ¬ takes s k)
      ∧ (settle s).lkg.windows[(3 : Fin 8)].zone = 7
    let rule := fun s : State => (settle s).lkg.rules[(15 : Fin 16)]
    let zone := fun (c : Instr) (s : State) => (after c s).lkg.zones[(7 : Fin 8)]
    let frame := Instr.goodFieldFrame (slots0 0x20)
    let wet := window 0 0x21 0xFF 2 (window 3 0x20 0xF0 7 (sensing 1 8 fresh))
    let dry := window 3 0x20 0xF0 7 (sensing 0 8 fresh)
    (∀ i : Fin 32, ¬ intake (settle fresh).lanes[i].desc)
    ∧ (intake (settle wet).lanes[(0 : Fin 32)].desc ∧ sample (sensing 1 0 fresh) = none)
    ∧ (sample (sensing 1 8 fresh) = some 0x2001 ∧ ∀ j : Fin 8, ¬ takes (sensing 1 8 fresh) j)
    ∧ taken wet
    ∧ (∀ z ∈ [some 7, none], let s := zoneRule .moisture z .shut .armed wet
        (rule s).st = .armed ∧ (rule s).conf.kind = .moisture ∧ (rule s).conf.action = .shut ∧ (zone frame s).wet = true)
    ∧ (let s := zoneRule .moisture (some 7) .notify .tripped dry
       sample s = some 0x2000 ∧ (rule s).st = .tripped ∧ (rule s).conf.action = .notify ∧ (zone frame s).wet = false)
    ∧ (let s := zoneRule .moisture (some 6) .shut .armed wet; (rule s).conf.zone = some 6
         ∧ (after frame s).lkg.zones[(6 : Fin 8)].wet = false)
    ∧ (let s := hearing 6 false
       (after .internalSecond s).mgu.seconds = 100 ∧ (settle s).lkg.config.silence = some 5 ∧ (settle s).link.fieldFresh = true
         ∧ 5 < (100 + 4294967296 - (settle s).lkg.zones[(7 : Fin 8)].lastReport) % 4294967296)
    ∧ (let s := hearing 5 true
       ¬ 5 < (100 + 4294967296 - (settle s).lkg.zones[(7 : Fin 8)].lastReport) % 4294967296
         ∧ (settle s).lkg.zones[(7 : Fin 8)].silent = true)
    ∧ (let s := zoneRule .silence (some 7) .notify .armed (hearing 6 true)
       (rule s).conf.kind = .silence ∧ (rule s).st ≠ .dormant ∧ (zone .internalSecond s).silent = true
         ∧ insideHours (rule s).conf (after .internalSecond s).hour = true)
    ∧ (let s := zoneRule .silence none .shut .armed { fresh with lkg := { Lkg.reset with
          zones := Lkg.reset.zones.set 7 { Zone.reset with silentDue := true } } }
       s.lkg.zones[(7 : Fin 8)].silentDue = true ∧ (zone (.zoneSilent 7) s).silent = true)
    ∧ fresh.lkg.zones[(0 : Fin 8)].silentDue = false := by decide +kernel

/-- The latched close's retry due, the main valve state set, MAIN as given. -/
def retrying (m : MainState) (s : State) : State :=
  { s with lkg := { (latched s).lkg with main := m, retryDue := true } }

theorem witness_FieldLossShutsAndALatchedCloseIsRetried :
    (let s := { fresh with lkg := { Lkg.reset with lostDue := true } }
     s.lkg.lostDue = true ∧ s.lkg.latch = none ∧ s.mgu.fault.valid = false ∧ (latched s).lkg.latch ≠ none)
    ∧ fresh.lkg.lostDue = false ∧ fresh.lkg.retryDue = false
    ∧ (let s := retrying .unknown (enable .main fresh)
       s.lkg.retryDue = true ∧ s.lkg.latch ≠ none ∧ s.lkg.main = .unknown ∧ s.answer .main .mainClosed = .moving)
    ∧ (let s := retrying .fault (place .main (.at .mainClosed) (some .mainClosed) none fresh)
       s.lkg.main = .fault ∧ s.answer .main .mainClosed = .completed)
    ∧ (retrying .fault (place .main .faultStall none none fresh)).answer .main .mainClosed = .faulted
    ∧ (retrying .unknown fresh).answer .main .mainClosed = .disabled := by decide

theorem witness_ADecayTestStartsAndItsTimersExpire :
    (let s := { fresh with
       lkg := { Lkg.reset with calendarDue := true, config := { LeakConfig.reset with testEnabled := true } }
       mgu := { Mgu.reset with timeValid := true } }
     s.lkg.calendarDue = true ∧ s.mgu.timeValid = true ∧ s.lkg.config.testEnabled = true ∧ s.lkg.latch = none
       ∧ s.lkg.test.st = .idle ∧ s.drain.holder ≠ some .test ∧ s.lkg.main ≠ .opened ∧ s.takesRequests)
    ∧ (let s := drainAt { Drain.reset with holder := some .regen } opened
       s.drain.holder ≠ some .test ∧ s.drain.holder ≠ none ∧ s.lkg.latch = none ∧ s.lkg.test.st = .idle)
    ∧ ({ fresh with lkg := { Lkg.reset with calendarDue := true } } : State).mgu.timeValid = false
    ∧ fresh.lkg.calendarDue = false
    ∧ ((latched fresh).takesRequests ∧ (latched fresh).lkg.latch ≠ none)
    ∧ ((testAt .waiting (some 1) fresh).lkg.latch = none ∧ (testAt .waiting (some 1) fresh).lkg.test.st ≠ .idle)
    ∧ (let s := testAt .waiting (some 0) fresh
     s.lkg.test.st = .waiting ∧ s.lkg.test.timer = some 0 ∧ s.drain.holder ≠ some .test)
    ∧ (let s := testing .settle 412 fresh
       s.lkg.test.st = .settle ∧ s.lkg.test.timer = some 0 ∧ s.trackers[pHouse].run.st = .locked)
    ∧ (let s := testAt .settle (some 0) (enable .main fresh)
       s.lkg.test.st = .settle ∧ s.lkg.test.timer = some 0 ∧ s.trackers[pHouse].run.st ≠ .locked
         ∧ s.answer .main .mainOpen = .moving)
    ∧ (testAt .settle (some 1) fresh).lkg.test.timer ≠ some 0 := by decide +kernel

theorem witness_AMeasuringTestIsCheckedAndDecided :
    let r : TestRecord := { trigger := .calendar, startedAt := 0, endedAt := none, p0 := some 412, p1 := none, decay := none
                            failCount := none, result := none }
    let ready := fun (s : State) => s.lkg.test.st = .measure ∧ s.lkg.test.timer = some 0
      ∧ s.trackers[pHouse].run.st = .locked ∧ s.lkg.test.record = some r ∧ s.lkg.test.p0 = some 412 ∧ s.lkg.latch = none
    (let s := testing .measure 402 (enable .main fresh)
     ready s ∧ 412 - s.estimate pHouse ≤ s.lkg.config.decay ∧ s.answer .main .mainOpen = .moving)
    ∧ (let u := testing .measure 401 (enable .main fresh)
       let s := { u with lkg := { u.lkg with config := { u.lkg.config with failToShut := 0 } } }
       ready s ∧ s.lkg.config.decay < 412 - s.estimate pHouse ∧ s.lkg.config.failToShut = 0
         ∧ s.answer .main .mainOpen = .moving)
    ∧ (let u := testing .measure 401 (enable .main fresh)
       let s := { u with lkg := { u.lkg with config := { u.lkg.config with failToShut := 3 } } }
       ready s ∧ min 255 (s.lkg.test.failCount + 1) < s.lkg.config.failToShut)
    ∧ (let s := testing .measure 401 fresh
       ready s ∧ s.lkg.config.decay < 412 - s.estimate pHouse ∧ s.lkg.config.failToShut ≠ 0
         ∧ s.lkg.config.failToShut ≤ min 255 (s.lkg.test.failCount + 1) ∧ s.lkg.main = .closed .test)
    ∧ (let second := fun (s : State) => (settle s).lkg.test.st = .measure ∧ (settle s).lkg.test.previous = some 412
         ∧ ∀ i : Fin 16, (settle s).lkg.rules[i].conf.enabled = false
       let at' := fun (timer estimate : Nat) (s : State) =>
         let u := testing .measure estimate s
         { u with lkg := { u.lkg with test := { u.lkg.test with timer := some timer } } }
       let fall := fun s : State => 412 - (settle s).estimate pHouse
       (let s := at' 2 392 fresh
        second s ∧ (settle s).lkg.test.timer.map (· - 1) ≠ some 0 ∧ (settle s).trackers[pHouse].run.st = .locked
          ∧ fall s ≤ (settle s).lkg.config.demand)
       ∧ (let s := at' 300 391 (enable .main fresh)
          second s ∧ (settle s).trackers[pHouse].run.st = .locked ∧ (settle s).lkg.config.demand < fall s
            ∧ (settle s).answer .main .mainOpen = .moving)
       ∧ (let u := at' 2 412 (enable .main fresh)
          let s := { u with trackers := fresh.trackers }
          second s ∧ (settle s).trackers[pHouse].run.st ≠ .locked ∧ (settle s).answer .main .mainOpen = .moving)
       ∧ (let s := at' 1 412 fresh; second s ∧ (settle s).lkg.test.timer.map (· - 1) = some 0)) := by
  and_intros <;> decide +kernel

theorem witness_MachineEventsLeaveTheTablesAndTheLinkAlone :
    (∃ a, Instr.adoption .selector = .arrival a ∨ Instr.adoption .selector = .adoption a
      ∨ Instr.adoption .selector = .pauseExpiry a)
    ∧ (Instr.stall .main = .travelTimeout .main ∨ Instr.stall .main = .stall .main
      ∨ Instr.stall .main = .displacement .main) ∧ Actr.selector ≠ .main := ⟨⟨.selector, .inr (.inl rfl)⟩, by decide⟩

/-- The reply queue set. -/
def queued (n : Nat) (s : State) : State :=
  { s with mgu := { s.mgu with replies := List.replicate n { tag := 0, body := [0] } } }

theorem witness_ARequestIsAcceptedOrRefused :
    (∃ h, handlerOf (.clearSlip 3) = some (3, h))
    ∧ ({ fresh with mgu := { Mgu.reset with restartPending := true } } : State).mgu.restartPending = true
    ∧ (queued 4 fresh).mgu.restartPending = false ∧ 4 ≤ (queued 4 fresh).mgu.replies.length
    ∧ (queued 3 fresh).takesRequests
    ∧ (∃ h, handlerOf (.readEntry 3 20 0) = some (3, h) ∧ Instr.readEntry 3 20 0 ≠ .openMain 3
      ∧ Instr.readEntry 3 20 0 ≠ .closeMain 3 ∧ fresh.takesRequests ∧ (h fresh).2 = 3 :: []) :=
  ⟨⟨_, rfl⟩, by decide, by decide, by decide, by decide, _, rfl, by decide, by decide, by decide, by decide⟩

theorem witness_ReadsAnswerAndAcknowledge :
    fresh.takesRequests ∧ 19 ≤ 19 ∧ 0 ≤ tableTop 19
    ∧ (13 : Nat) ≤ 13 ∧ 0 ≤ objectTop 13 ∧ 0 < partCount (stateBytes fresh 13 0)
    ∧ tableTop 0 < 32 ∧ objectTop 4 < 7 + 1
    ∧ objectTop 0 = 31 ∧ objectTop 1 = 6 ∧ objectTop 2 = 3 ∧ objectTop 3 = 1 ∧ objectTop 8 = 0 ∧ (1 : Nat) < 2
    ∧ (31 < 32 ∧ 6 < 7 ∧ 3 < 4 ∧ 1 < 2 ∧ 0 < 1)
    ∧ partCount (stateBytes fresh 4 0) ≤ 255 ∧ 0 < partCount (stateBytes fresh 0 31) ∧ 0 < partCount (stateBytes fresh 1 6)
    ∧ 0 < partCount (stateBytes fresh 2 3) ∧ 0 < partCount (stateBytes fresh 3 1)
    ∧ 0 < partCount (stateBytes fresh 8 0) := by decide +kernel

theorem witness_AnAcceptedWriteIsReadBack :
    let c : Instr := .writeEntryPreset 1 3 15
    let t := after c fresh
    c.readsBack = true ∧ c.wellFormed = true ∧ encodeRequest c = some (2 :: 1 :: 5 :: 3 :: [15]) ∧ fresh.takesRequests
      ∧ t.mgu.replies = fresh.mgu.replies ++ [{ tag := 1, body := [0] }] ∧ t.takesRequests := by decide +kernel

theorem witness_PlainTablesAreWritten : fresh.takesRequests
    ∧ (let x := rstep .refill .volume 7200 65535 7200 6000
       ((1 ≤ x.duration ∧ x.duration ≤ 7200) ∧ (1 ≤ x.volume ∧ x.volume ≤ 65535) ∧ (1 ≤ x.timeout ∧ x.timeout ≤ 7200)
         ∧ x.allowance ≤ 6000) ∧ x.pos = .refill)
    ∧ ¬ (rstep .refill .volume 7201 1 1 0).duration ≤ 7200
    ∧ (let x := rstep .fastRinse .volume 1 1 1 0
       x.endKind = .volume ∧ ¬ (x.pos = .brineDraw ∨ x.pos = .refill))
    ∧ (let x := bstep .rinse 7200 6000
       1 ≤ x.duration ∧ x.duration ≤ 7200 ∧ x.allowance ≤ 6000)
    ∧ ¬ (bstep .rinse 1 6001).allowance ≤ 6000
    ∧ (let x : ZoneWindow := { enabled := true, base := 255, mask := 255, zone := 7 }
       x.base ≤ 255 ∧ x.mask ≤ 255 ∧ x.zone ≤ 7)
    ∧ ¬ ({ enabled := true, base := 0, mask := 0, zone := 8 } : ZoneWindow).zone ≤ 7
    ∧ leakConfigRange LeakConfig.reset = false ∧ leakConfigRange { LeakConfig.reset with gap := 0 } = true := by decide

theorem witness_FieldsPresetsCurvesAndRulesAreWritten :
    let f : ReportField := { enabled := true, slot := 5, start := 4, width := 4, source := .flowLo }
    let s := { fresh with link := { fresh.link with reportFields := fresh.link.reportFields.set 23 f } }
    fresh.takesRequests ∧ (f.slot ≤ 5 ∧ f.start ≤ 7 ∧ (1 ≤ f.width ∧ f.width ≤ 8) ∧ f.start + f.width ≤ 8)
    ∧ (∀ j : Fin 24, j ≠ 0 → fresh.link.reportFields[j].enabled = false)
    ∧ (s.link.reportFields[(23 : Fin 24)].enabled = true ∧ s.link.reportFields[(23 : Fin 24)].slot = f.slot
        ∧ ¬ s.link.reportFields[(23 : Fin 24)].start + s.link.reportFields[(23 : Fin 24)].width ≤ f.start)
    ∧ ¬ ({ f with width := 5 } : ReportField).start + 5 ≤ 8
    ∧ (let pts : List (Nat × Nat) := [(0, 0), (1000, 1024)]
       pts.length ≠ 1 ∧ pts.length ≤ 8 ∧ (∀ p ∈ pts, p.1 ≤ 1000 ∧ p.2 ≤ 1024)
         ∧ pts.Pairwise fun p q => p.1 < q.1 ∧ p.2 ≤ q.2)
    ∧ ([(0, 0)] : List (Nat × Nat)).length = 1
    ∧ (let c : LeakRule := { trickle with rateLo := 6000, rateHi := 6000, volume := 1000000, duration := 65535, zone := some 7 }
       c.rateLo ≤ 6000 ∧ c.rateHi ≤ 6000 ∧ (1 ≤ c.duration ∧ c.duration ≤ 65535) ∧ (1 ≤ c.volume ∧ c.volume ≤ 1000000)
         ∧ c.rateLo ≤ c.rateHi)
    ∧ ¬ ({ trickle with duration := 0 } : LeakRule).duration ≥ 1
    ∧ (let c : LeakRule := { trickle with rateLo := 10 }
       c.kind = .trickle ∧ ¬ c.rateLo ≤ c.rateHi) := by decide

/-- A VALUE_MEAN channel record fed by a lane. -/
def meanOf (lane : Nat) : ChannelRec := { counting 64 0 with mode := .valueMean, inA := lane }

/-- Two lanes set. -/
def lanes2 (i j : Fin 32) (d e : LaneDesc) (s : State) : State :=
  { s with lanes := (s.lanes.set i { desc := d, run := LaneRun.reset d }).set j { desc := e, run := LaneRun.reset e } }

/-- A MARK lane's descriptor. -/
def markDesc : LaneDesc := { levelDesc with kind := .mark }

/-- R8, R9: a write that turns a MARK lane into another kind resets the disabled VALUE lane that names it. -/
theorem test_mark_lane_rewritten :
    let d := { markedDesc with enabled := false }
    let s := { lanes2 1 2 markDesc levelDesc fresh with
      lanes := (lanes2 1 2 markDesc levelDesc fresh).lanes.set 0
        { desc := d, run := { LaneRun.reset d with h := 4, waiting := false } } }
    (after (.writeEntryLane 0 1 (some countDesc)) s).lanes[0].run = LaneRun.reset d
      ∧ (after (.writeEntryLane 0 2 (some markDesc)) s).lanes[0].run.h = 4 := by decide +kernel

theorem witness_LanesChannelsAndTrackersAreWritten : fresh.takesRequests
    ∧ (let inRange := fun d : LaneDesc =>
         d.slot ≤ 19 ∧ d.start ≤ 7 ∧ (1 ≤ d.width ∧ d.width ≤ 8) ∧ d.start + d.width ≤ 8
         ∧ (d.kind = .level ∨ d.kind = .mark → d.width = 1)
         ∧ (d.kind = .value → (d.w = 8 ∨ d.w = 12 ∨ d.w = 16) ∧ d.w % d.width = 0)
       let agrees := fun (s : State) (i : Fin 32) (d : LaneDesc) =>
         (∀ m ∈ d.mark, d.kind = .value →
            ∃ j : Fin 32, j.val = m ∧ j ≠ i ∧ s.lanes[j].desc.enabled = true ∧ s.lanes[j].desc.kind = .mark)
         ∧ (d.moisture = true → d.kind = .value ∧ d.w = 16
            ∧ ∀ j : Fin 32, j ≠ i → s.lanes[j].desc.enabled = true → s.lanes[j].desc.moisture = false)
         ∧ (¬ (d.enabled = true ∧ d.kind = .mark) → ∀ j : Fin 32, s.lanes[j].desc.enabled = true →
            s.lanes[j].desc.kind = .value → s.lanes[j].desc.mark ≠ some i.val)
       let wet : LaneDesc := { plainDesc with w := 16, width := 8, moisture := true }
       let s := lanes2 1 0 markDesc markedDesc fresh
       (inRange { wet with slot := 19 } ∧ agrees s 31 wet) ∧ (inRange markedDesc ∧ agrees s 31 markedDesc)
         ∧ (inRange { levelDesc with start := 7 } ∧ agrees s 0 levelDesc)
         ∧ (∀ d ∈ [{ levelDesc with slot := 20 }, { levelDesc with start := 8 }, { countDesc with start := 7, width := 2 },
                   { markDesc with width := 2 }, { countDesc with width := 0 }, { plainDesc with w := 10 },
                   { plainDesc with width := 3, w := 8 }], ¬ inRange d)
         ∧ (inRange { markedDesc with mark := some 2 } ∧ ¬ agrees s 3 { markedDesc with mark := some 2 })
         ∧ ¬ agrees s 3 { wet with w := 12 } ∧ ¬ agrees (lane0 wet (LaneRun.reset wet) fresh) 3 wet
         ∧ ¬ agrees s 1 levelDesc
         ∧ ((s.lane 0).desc.kind = .value ∧ (s.lane 0).desc.mark = some 1 ∧ markDesc.kind = .mark))
    ∧ (let u := lanes2 1 0 markDesc { markedDesc with enabled := false } (channel0 (counting 1 0) id fresh)
       let s := place .main .unknown none none u
       (s.channels[0].conf.inA = 0 ∧ s.channels[0].run.cond ≠ .off ∧ s.channels[1].run.cond = .off)
         ∧ ((after (.writeEntryLane 0 0 (some countDesc)) s).lane 0).desc.kind = .count
         ∧ ((after (.writeEntryLane 0 0 (some levelDesc)) s).lane 0).desc.kind ≠ .count
         ∧ (s.main.conf.kind = .switches ∧ 0 < (positions .main).length ∧ perPos s.main.conf.switchLanes 0 = 0
             ∧ s.main.conf.stallLane = none))
    ∧ (let c := fun (m : ChannelMode) => { counting 1 0 with mode := m }
       let s := lanes2 2 3 countDesc plainDesc (lanes2 0 1 levelDesc markDesc fresh)
       let isOf := fun (n : Nat) (k : LaneKind) => (s.lane n).desc.enabled = true ∧ (s.lane n).desc.kind = k
       (isOf 0 .level ∧ isOf 1 .mark ∧ isOf 2 .count ∧ isOf 3 .value)
         ∧ (c .edgeCount).inA = 0 ∧ (c .edgeCount).inB = none ∧ (c .edgeCount).x ≠ 0 ∧ (meanOf 3).x ≤ 64
         ∧ (meanOf 3).inA = 3
         ∧ ¬ isOf 31 .value ∧ ¬ isOf 2 .value)
    ∧ (64 < ({ meanOf 0 with x := 65 } : ChannelRec).x ∧ ¬ (meanOf 32).inA ≤ 31 ∧ (counting 0 0).mode ≠ .off ∧ (counting 0 0).x = 0)
    ∧ (let c : TrackerRec := { Tracker.reset.conf with enabled := true, source := 7, hi := 6000, mLock := 63, kLose := 63, j := 62, bw := 6000 }
       (c.source ≤ 7 ∧ c.gain ≠ 0 ∧ c.hi ≤ roleMax 0 ∧ c.lo ≤ c.hi ∧ c.bw ≤ roleMax 0 ∧ c.mLock ≤ 63 ∧ c.kLose ≤ 63
         ∧ (1 ≤ c.j ∧ c.j ≤ 62)) ∧ c.j < c.kLose ∧ c.nLo < c.nHi)
    ∧ (lockAt flow 5 fresh).trackers[flow].run.st = .locked
    ∧ ¬ ({ Tracker.reset.conf with hi := 6001 } : TrackerRec).hi ≤ roleMax 0
    ∧ ¬ ({ Tracker.reset.conf with j := 2 } : TrackerRec).j < Tracker.reset.conf.kLose := by
  and_intros <;> decide +kernel

theorem witness_SettingsTanksAndSaltAreWritten : fresh.takesRequests
    ∧ (let inRange := fun c : Softener => c.k ≤ 60000 ∧ c.kb ≤ 60000 ∧ c.hf ≤ 2000 ∧ c.fe ≤ 2000 ∧ c.kFe ≤ 4000
         ∧ c.reserve ≤ 100000000 ∧ (∀ h ∈ c.regenHour, h ≤ 23) ∧ (∀ d ∈ c.maxDays, 1 ≤ d ∧ d ≤ 30)
         ∧ (60 ≤ c.holdLimit ∧ c.holdLimit ≤ 14400) ∧ (1 ≤ c.resin ∧ c.resin ≤ 255) ∧ c.cNom ≤ 400
         ∧ (∀ n ∈ c.inlet, n ≤ 7) ∧ ∀ n ∈ c.brine, n ≤ 7
       let top : Softener :=
         { k := 60000, kb := 60000, mode := .auto, hf := 2000, fe := 2000, kFe := 4000, reserve := 100000000
           regenHour := some 23, maxDays := some 30, holdLimit := 14400, resin := 255, cNom := 400, inlet := some 7
           brine := some 0 }
       (inRange top ∧ top.inlet ≠ top.brine) ∧ (inRange Softener.reset ∧ Softener.reset.inlet = none)
         ∧ (∀ c ∈ [{ top with k := 60001 }, { top with maxDays := some 0 }, { top with holdLimit := 59 },
                   { top with resin := 0 }, { top with brine := some 8 }], ¬ inRange c)
         ∧ (inRange { top with brine := some 7 } ∧ top.inlet = some 7))
    ∧ (({ Softener.reset with k := 1 } : Softener).k ≠ fresh.acc.settings.k
        ∧ (lockAt flow 5 fresh).trackers[flow].conf.enabled = true)
    ∧ fresh.trackers[flow].conf.enabled = false
    ∧ (let c : TankContents := { nominal := 100000000, remaining := some 100000000, seconds := none }
       c.nominal ≤ 100000000 ∧ (∀ n ∈ c.remaining, n ≤ 100000000) ∧ (fresh.tank .b).st ≠ .regenerating)
    ∧ ¬ ({ nominal := 100000001, remaining := none, seconds := none } : TankContents).nominal ≤ 100000000
    ∧ (setTank .a { Tank.reset with st := .regenerating } fresh).rgs.tankA.st = .regenerating
    ∧ (let c : SaltSettings := { capacity := 500000, reminder := 500000, bridgeConc := 400, presentHeight := 2000
                                 emptyHeight := 2000, minRise := 2000 }
       c.capacity ≤ 500000 ∧ c.reminder ≤ 500000 ∧ c.bridgeConc ≤ 400 ∧ c.presentHeight ≤ 2000 ∧ c.emptyHeight ≤ 2000
         ∧ c.minRise ≤ 2000 ∧ c.emptyHeight ≤ c.presentHeight)
    ∧ ¬ ({ Salt.reset.settings with bridgeConc := 401 } : SaltSettings).bridgeConc ≤ 400
    ∧ ({ Salt.reset.settings with emptyHeight := 1 } : SaltSettings).presentHeight < 1 := by
  and_intros <;> decide +kernel

/-- A stage's contents, its counters as they stand. -/
def contents (r : StageRec) : StageContents := { record := r, volRep := none, secRep := none, volBw := none, secBw := none }

/-- Levels 0 to 5 read by lanes 0 to 5, for the switches of an actuator. -/
def switchLanes (s : State) : State :=
  { s with lanes := Vector.ofFn fun i =>
      let d : LaneDesc := { LaneDesc.reset with enabled := true, slot := i.val % 20, width := 1 }
      { desc := d, run := LaneRun.reset d } }

/-- An actuator record with six switches and six codes. -/
def sixSwitches : ActuatorRec :=
  { ActuatorRec.reset with
    enabled := true, width := 3, codes := #v[1, 2, 3, 4, 5, 6], switchLanes := #v[0, 1, 2, 3, 4, 5], travel := 255, retry := 7 }

theorem witness_StagesAndActuatorsAreWritten : fresh.takesRequests
    ∧ (let inRange := fun c : StageContents =>
         let r := c.record
         (∀ n ∈ r.volumeLimit, 1 ≤ n ∧ n ≤ 2 ^ 40 - 1) ∧ (∀ n ∈ r.dayLimit, 1 ≤ n ∧ n ≤ 3650)
         ∧ (∀ n ∈ r.dpLimit, n ≤ 2000)
         ∧ (1 ≤ r.persistence ∧ r.persistence ≤ 255) ∧ (1 ≤ r.qRef ∧ r.qRef ≤ 6000) ∧ (1 ≤ r.qMin ∧ r.qMin ≤ 6000)
         ∧ (r.kind = .media → (∀ n ∈ r.bwVolume, 1 ≤ n ∧ n ≤ 2 ^ 40 - 1) ∧ ∀ n ∈ r.bwDays, 1 ≤ n ∧ n ≤ 365)
         ∧ (∀ n ∈ c.volRep, n ≤ 2 ^ 40 - 1) ∧ (∀ n ∈ c.secRep, n ≤ 2 ^ 32 - 1) ∧ (∀ n ∈ c.volBw, n ≤ 2 ^ 40 - 1)
         ∧ ∀ n ∈ c.secBw, n ≤ 2 ^ 32 - 1
       let top : StageRec := { StageRec.reset with
         enabled := true, kind := .media, up := some .supply, down := some .mid, volumeLimit := some (2 ^ 40 - 1)
         dayLimit := some 3650, dpLimit := some 2000, persistence := 255, qRef := 6000, qMin := 6000
         bwVolume := some (2 ^ 40 - 1), bwDays := some 365 }
       let full : StageContents :=
         { record := top, volRep := some (2 ^ 40 - 1), secRep := some (2 ^ 32 - 1), volBw := none, secBw := none }
       let others := fun (s : State) (i : Fin 4) => ∀ j : Fin 4, j ≠ i → s.flt.stages[j].conf.enabled = true →
         s.flt.stages[j].conf.kind ≠ .media
       (inRange full ∧ top.up ≠ top.down ∧ others fresh 3 ∧ fresh.flt.st = .idle)
         ∧ (∀ c ∈ [contents { top with volumeLimit := some 0 }, contents { top with bwDays := some 366 },
              contents { top with qMin := 0 }, { full with secBw := some (2 ^ 32) }], ¬ inRange c)
         ∧ (inRange (contents { top with kind := .cartridge, bwDays := some 366 }))
         ∧ ¬ others (staged 2 (media none none 0 0) fresh) 3
         ∧ (let s := { fresh with flt := { Flt.reset with st := .held, run := { BwRun.empty with stage := some 1 } } }
            others s 1 ∧ s.flt.st ≠ .idle ∧ s.flt.run.stage = some 1))
    ∧ (let inRange := fun (a : Actr) (c : ActuatorRec) =>
         let top := (positions a).length
         c.slot ≤ 5 ∧ c.start ≤ 7 ∧ (2 ≤ c.width ∧ c.width ≤ 3) ∧ c.start + c.width ≤ 8 ∧ c.stopCode < 2 ^ c.width
         ∧ (∀ k, k < top → perPos c.codes k < 2 ^ c.width)
         ∧ (c.kind = .switches → ∀ k, k < top → perPos c.switchLanes k ≤ 31)
         ∧ (c.kind = .encoder → c.encoderLane ≤ 31 ∧ ∀ k, k < top → perPos c.encoderValues k ≤ 255)
         ∧ (∀ n ∈ c.stallLane, n ≤ 31) ∧ (∀ n ∈ c.preset, n ≤ 3) ∧ (1 ≤ c.travel ∧ c.travel ≤ 255) ∧ c.retry ≤ 7
         ∧ (1 ≤ c.pause ∧ c.pause ≤ 60)
       let level := fun (s : State) (n : Nat) => (s.lane n).desc.enabled = true
         ∧ ((s.lane n).desc.kind = .level ∨ (s.lane n).desc.kind = .mark)
       let apart := fun (a : Actr) (v : Vector Nat 6) =>
         ∀ l, l < (positions a).length → ∀ k, k < l → perPos v k ≠ perPos v l
       let clear := fun (s : State) (a b : Actr) (c : ActuatorRec) => b ≠ a → (s.act b).conf.enabled = true →
         (s.act b).conf.slot = c.slot → c.start + c.width ≤ (s.act b).conf.start
           ∨ (s.act b).conf.start + (s.act b).conf.width ≤ c.start
       let s := switchLanes fresh
       let all := [Actr.main, .selector, .regenRotor, .filterRotor]
       (∀ a ∈ all, inRange a sixSwitches)
         ∧ (∀ a ∈ all, apart a sixSwitches.codes ∧ apart a sixSwitches.switchLanes ∧ (s.act a).run.st = .unknown)
         ∧ (∀ a ∈ all, ∀ k, k < (positions a).length →
             perPos sixSwitches.codes k ≠ sixSwitches.stopCode ∧ level s (perPos sixSwitches.switchLanes k))
         ∧ (∀ a ∈ all, ∀ b ∈ all, clear s a b sixSwitches)
         ∧ (s.rgs.seq = .idle ∧ s.flt.st = .idle ∧ s.lkg.test.st = .idle
             ∧ (testAt .waiting (some 1) s).lkg.test.st = .waiting)
         ∧ (∀ q ∈ [TestState.closing, .settle, .measure, .reopening],
             (testing q 412 s).lkg.test.st = q ∧ (testing q 412 s).drain.holder = some .test)
         ∧ (let v := lane0 { plainDesc with w := 8 } (LaneRun.reset plainDesc) fresh
            let c := { sixSwitches with
              kind := .encoder, encoderLane := 0, encoderValues := #v[255, 1, 2, 3, 4, 5], stallLane := none }
            inRange .regenRotor c ∧ apart .regenRotor c.encoderValues ∧ (v.lane 0).desc.kind = .value ∧ (v.lane 0).desc.w = 8)
         ∧ (∀ c ∈ [{ sixSwitches with slot := 6 }, { sixSwitches with width := 2 }, { sixSwitches with start := 6 },
              { sixSwitches with retry := 8 }, { sixSwitches with travel := 0 }, { sixSwitches with pause := 61 },
              { sixSwitches with preset := some 4 }, { sixSwitches with stopCode := 8 }], ¬ inRange .regenRotor c)
         ∧ ¬ clear (place .main .unknown none none s) .selector .main { sixSwitches with slot := 0, start := 0 }
         ∧ ¬ apart .selector #v[1, 2, 1, 4, 5, 6] ∧ apart .main #v[1, 2, 1, 4, 5, 6] ∧ ¬ level fresh 31)
    ∧ ((lateRotor (.moving .brineDraw 1) none none).act .regenRotor).run.st = .moving .brineDraw 1
    ∧ ((lateRotor (.paused .brineDraw 8) none none).act .regenRotor).run.st = .paused .brineDraw 8 := by
  and_intros <;> decide +kernel

theorem witness_OpenMainIsTakenByLatchTestAndState : fresh.takesRequests ∧ (latched fresh).lkg.latch ≠ none
    ∧ ((testAt .reopening none fresh).lkg.latch = none ∧ (testAt .reopening none fresh).lkg.test.st = .reopening)
    ∧ (opened.lkg.latch = none ∧ opened.lkg.test.st = .idle ∧ opened.lkg.main = .opened)
    ∧ (let s := mainAt (.closed .manual) (enable .main fresh)
       s.lkg.latch = none ∧ s.lkg.test.st = .idle ∧ s.lkg.main = .closed .manual ∧ s.answer .main .mainOpen = .moving)
    ∧ (let s := place .main .unknown (some .mainOpen) none fresh
       s.lkg.main = .unknown ∧ s.answer .main .mainOpen = .completed ∧ s.noneWaits ∧ s.rgs.seq ≠ .held ∧ s.flt.st ≠ .held)
    ∧ (place .main .faultStall none none fresh).answer .main .mainOpen = .faulted
    ∧ fresh.answer .main .mainOpen = .disabled := by decide

theorem witness_CloseMainAndClearLeakLatchAreTaken : fresh.takesRequests
    ∧ (let s := enable .main opened
       s.lkg.test.st = .idle ∧ s.lkg.main = .opened ∧ s.answer .main .mainClosed = .moving)
    ∧ (let s := place .main .unknown (some .mainClosed) none fresh
       s.lkg.main = .unknown ∧ s.answer .main .mainClosed = .completed)
    ∧ (place .main .faultNoResponse none none opened).answer .main .mainClosed = .faulted
    ∧ opened.answer .main .mainClosed = .disabled
    ∧ (mainAt (.closing .test) fresh).lkg.main = .closing .test ∧ (mainAt (.closed .test) fresh).lkg.main = .closed .test
    ∧ (mainAt (.closed .leak) fresh).lkg.main = .closed .leak ∧ CloseReason.leak ≠ .test
    ∧ (mainAt .fault fresh).lkg.main = .fault ∧ (latched fresh).lkg.latch ≠ none ∧ fresh.lkg.latch = none
    ∧ (∀ m ∈ [MainState.opened, .opening, .unknown, .closing .manual, .closed .leak, .fault],
        let s := mainAt m (testAt .waiting (some 1) (drainAt { Drain.reset with waitTest := true } (enable .main fresh)))
        s.lkg.test.st = .waiting ∧ s.drain.holder ≠ some .test ∧ s.lkg.main = m ∧ s.answer .main .mainClosed = .moving)
    ∧ (∀ q ∈ [TestState.closing, .settle, .measure], ∀ m ∈ [MainState.closing .test, .closed .test],
        let s := mainAt m (testing q 412 (enable .main fresh))
        s.lkg.test.st = q ∧ s.drain.holder = some .test ∧ s.lkg.main = m)
    ∧ (let s := mainAt .opening (testing .reopening 412 (place .main (.moving .mainOpen 1) none none fresh))
       s.lkg.test.st = .reopening ∧ s.drain.holder = some .test ∧ s.lkg.main = .opening
         ∧ s.answer .main .mainClosed = .moving) := by decide +kernel

theorem witness_BypassAndAbortCommandsAreTaken : fresh.takesRequests
    ∧ ({ fresh with rgs := { Rgs.reset with move := .swap .a } } : State).rgs.move ≠ .none
    ∧ (let s := place .selector (.at .bypass) (some .bypass) (some .bypass) fresh
       s.rgs.move = .none ∧ s.confirmed = some .bypass ∧ (∀ x ∈ [TankId.a, TankId.b], (s.tank x).st ≠ .standby)
         ∧ s.answer .selector TankId.a.pos = .moving)
    ∧ (let s := enable .selector fresh
       s.rgs.move = .none ∧ s.confirmed ≠ some .bypass ∧ s.answer .selector .bypass = .moving)
    ∧ (let s := setTank .b { Tank.reset with st := .standby } (place .selector (.at .bypass) (some .bypass) (some .bypass) fresh)
       (s.tank .b).st = .standby ∧ s.rgs.remembered.getD .a = TankId.b.other ∧ (s.tank TankId.b.other).st ≠ .standby
         ∧ s.answer .selector TankId.b.pos = .moving)
    ∧ fresh.lkg.test.st = .idle ∧ (testAt .reopening none fresh).lkg.test.st = .reopening
    ∧ ((testAt .waiting (some 1) fresh).lkg.test.st = .waiting ∧ fresh.drain.holder ≠ some .test)
    ∧ (let s := testAt .closing none (enable .main fresh)
       s.lkg.test.st = .closing ∧ s.answer .main .mainOpen = .moving) := by decide

theorem witness_SaltRefilledAndFilterReplacedAreTaken : fresh.takesRequests ∧ (500000 : Nat) ≤ 500000
    ∧ fresh.flt.st = .idle
    ∧ (let s := { fresh with flt := { Flt.reset with st := .held, run := { BwRun.empty with stage := some 3 } } }
       s.flt.st ≠ .idle ∧ s.flt.run.stage = some 3 ∧ s.flt.run.stage ≠ some 2)
    ∧ (let x := (staged 1 (media none none 0 0) fresh).flt.stages[(1 : Fin 4)]
       x.conf.enabled = true ∧ x.conf.kind = .media)
    ∧ ¬ (fresh.flt.stages[(0 : Fin 4)].conf.enabled = true) := by decide

theorem witness_CommandsThatActAtOnceAreTaken : fresh.takesRequests
    ∧ ((place .main .faultStall none none fresh).act .main).run.st = .faultStall
    ∧ (fresh.act .main).run.st ≠ .faultNoResponse ∧ (fresh.act .main).run.st ≠ .faultStall := by decide

theorem witness_ARequestIsReadBackFromItsMessage :
    let c : Instr := .writeEntryCurve 0xE7 .efficiency 0 [(0, 0), (1000, 1024)]
    c.wellFormed = true ∧ (encodeRequest c).isSome = true := by decide +kernel

theorem witness_TheBytesOfAMessageExecuteTheRequest :
    let c : Instr := .saltRefilled 0xE8 500000
    c.wellFormed = true ∧ (encodeRequest c).isSome = true ∧ fresh.mgu.rx.collecting = false := by decide +kernel

/-- A valid first-fault record. -/
def faulted : State := { fresh with mgu := { Mgu.reset with fault := { FaultRecord.reset with valid := true, kind := .fieldLost } } }

theorem witness_AValidFirstFaultRecordKeepsItsContents :
    Instr.clearSlip 0 ≠ .powerOnReset ∧ (∀ tag, Instr.clearSlip 0 ≠ .clearFaultRecord tag ∧ Instr.clearSlip 0 ≠ .clearFault tag 4)
      ∧ (Instr.clearSlip 0).mayCarry = false ∧ faulted.mgu.fault.valid = true
      ∧ exec (.clearSlip 0) faulted = .next (after (.clearSlip 0) faulted) :=
  ⟨by decide, fun _ => ⟨by simp, by simp⟩, by decide, by decide, rfl⟩

theorem witness_EveryCommandKeepsCountsAndEstimatesInRange : opened.countLaw
    ∧ ∀ i : Fin 7, (opened.trackers[i].run.st = .locked → opened.trackers[i].run.est.isSome)
      ∧ opened.trackers[i].run.est.getD 0 ≤ roleMax i ∧ opened.trackers[i].conf.lo ≤ roleMax i
      ∧ opened.trackers[i].conf.hi ≤ roleMax i := by decide

theorem witness_EveryCommandKeepsTheAccountLaws : opened.carryLaw ∧ opened.tankLaw ∧ opened.storeLaw := by decide

theorem witness_EveryCommandKeepsTheShutSupplyAndTheDrainLaws :
    (regenAt .running 0 1 0 opened).supplyLaw ∧ (regenAt .running 0 1 0 opened).rgs.seq = .running
      ∧ (regenAt .running 0 1 0 opened).holderLaw ∧ (testing .measure 412 fresh).holderLaw
      ∧ (testing .measure 412 fresh).lkg.test.st = .measure ∧ fresh.drainLaw :=
  ⟨by decide, by decide, by decide, by decide +kernel, by decide +kernel,
    by intro r h; simp [fresh, State.reset, Drain.reset] at h, by decide,
    by intro r h; simp [fresh, State.reset, Drain.reset] at h⟩

/-- The latch set, with MAIN in a move toward CLOSED; and a run of tank B while the SELECTOR stands at tank A. -/
theorem witness_EveryCommandKeepsTheLatchAndTheRunTankLaws :
    (let s := latched (mainAt (.closing .leak) (place .main (.moving .mainClosed 1) none none fresh))
     s.lkg.latch.isSome ∧ s.mainLaw ∧ s.latchLaw)
    ∧ (let s := setTank .b { Tank.reset with nominal := 1, st := .regenerating }
        (regenAt .running 1 0 0 (place .selector (.at .tankA) (some .tankA) (some .tankA) opened))
       s.rgs.run.tank = some .b ∧ s.confirmed = some .tankA ∧ s.runTankLaw) := by
  refine ⟨by decide, by decide, by decide, ?_, by decide, ?_, ?_⟩
  · intro x h; cases x <;> first | exact absurd h (by decide) | decide
  · intro x h; cases x <;> exact absurd h (by decide)
  · intro p h; cases p <;> first | exact absurd h (by decide) | decide

theorem witness_everyCommandAnswers : exec .frameTimerExpiry opened = .next (after .frameTimerExpiry opened) := rfl

/-- R8, R169: the power-on lane descriptor, of kind LEVEL, reads as nine zero bytes, its mark lane not being held. -/
theorem test_power_on_lane_reads_zeros : entryBytes State.reset 0 31 = List.replicate 9 0 := by decide

/-- A swap sought by the inlet channel's next result: 30 pulses of K = 100 at H_f = 500 are a load of 15 000. -/
def charging (remainingA : Nat) (selector : ActState) : State :=
  twoTanks remainingA (inlet { Softener.reset with k := 100, hf := 500 } 30 500
    (place .selector selector (some .tankA) (some .tankA) opened))

/-- The SELECTOR in a state with a position recognised, tank A confirmed and a move of RGS in flight. -/
def selecting (st : ActState) (p : Pos) (m : SelMove) (s : State) : State :=
  let u := twoTanks 9 (actRun .selector st (some p) (fun r => { r with adoptSeen := true, lastConfirmed := some .tankA }) s)
  { u with rgs := { u.rgs with move := m } }

/-- A load that leaves exactly the reserve and one that leaves 0; a swap that starts, is refused and is not sought. -/
theorem witness_SelectorMovesStartAndEnd :
    (let ready := fun (s : State) (left : Nat) =>
       let dv := min 65535 ((s.acc.pulseCarry + s.channels[0].run.acc * 100) / s.acc.settings.k)
       inletReady s ∧ s.acc.settings.mode = .forced ∧ s.drain.kind ≠ some .backwash ∧ s.confirmed = some TankId.a.pos
         ∧ (s.tank .a).charged = true ∧ (s.tank .a).st = .service
         ∧ 0 < dv * min 2000 (s.acc.settings.hf + s.acc.settings.fe * s.acc.settings.kFe / 1000)
         ∧ (s.tank .a).remaining - dv * min 2000 (s.acc.settings.hf + s.acc.settings.fe * s.acc.settings.kFe / 1000) = left
         ∧ left ≤ s.acc.settings.reserve
         ∧ ∀ i : Fin 16, s.lkg.rules[i].conf.enabled = true → s.lkg.rules[i].conf.kind ≠ .eventVolume
     let seeks := fun s : State => s.rgs.seq = .idle ∧ s.rgs.move = .none ∧ (s.tank TankId.a.other).st = .standby
       ∧ s.acc.settings.reserve < (s.tank TankId.a.other).remaining
     let disabled := fun s : State => { s with selector := { s.selector with conf := ActuatorRec.reset } }
     (let s := charging 2015000 (.at .tankA); ready s 2000000 ∧ seeks s ∧ s.answer .selector .tankB = .moving)
     ∧ (let s := charging 15000 .faultStall; ready s 0 ∧ seeks s ∧ s.answer .selector .tankB = .faulted)
     ∧ (let s := disabled (charging 15000 .unknown); ready s 0 ∧ seeks s ∧ s.answer .selector .tankB = .disabled)
     ∧ (let s := seqAt .queued (charging 15000 (.at .tankA)); ready s 0 ∧ ¬ seeks s))
    ∧ (let ready := fun (s : State) (p : Pos) => s.rgs.run.tank = none ∧ s.selector.run.recognised = some p
       (let s := selecting .unknown .tankB .none fresh
        ready s .tankB ∧ s.selector.run.st = .unknown ∧ s.selector.conf.enabled = true ∧ s.selector.run.adoptSeen = true)
       ∧ (let s := selecting (.moving .bypass 1) .bypass .bypassOn fresh
          ready s .bypass ∧ s.selector.run.target = some .bypass ∧ s.rgs.move = .bypassOn)
       ∧ (let s := selecting (.paused .tankB 1) .tankB (.bypassOff .b) fresh
          ready s .tankB ∧ s.selector.run.target = some .tankB ∧ s.rgs.move = .bypassOff .b)
       ∧ (let s := selecting (.moving .tankB 1) .tankB (.swap .b) fresh
          ready s .tankB ∧ s.rgs.move = .swap .b ∧ (s.tank .a).st = .service ∧ s.drain.holder ≠ some .regen
            ∧ s.lkg.main ≠ .opened)
       ∧ (let s := setTank .a Tank.reset (selecting (.moving .tankB 1) .tankB (.swap .b) opened)
          ready s .tankB ∧ (s.tank .a).st = .unconfigured))
    ∧ (let fails := fun m => selecting (.moving .bypass 1) .tankA m fresh
       (let s := setRun .selector { (fails .bypassOn).selector.run with travel := some 0 } (fails .bypassOn)
        s.selector.run.st = .moving .bypass 1 ∧ s.selector.run.travel = some 0 ∧ s.selector.conf.retry < 1)
       ∧ (let s := setRun .selector { (fails (.swap .b)).selector.run with stallSeen := true } (fails (.swap .b))
          s.selector.run.st = .moving .bypass 1 ∧ s.selector.run.stallSeen = true
            ∧ s.selector.run.recognised ≠ some .bypass))
    ∧ (fresh.takesRequests ∧ fresh.rgs.move = .none ∧ fresh.confirmed ≠ some .bypass
        ∧ fresh.answer .selector .bypass = .disabled)
    ∧ (let s := twoTanks 9 (place .selector .faultStall none (some .bypass) fresh)
       s.takesRequests ∧ s.rgs.move = .none ∧ s.confirmed = some .bypass ∧ s.rgs.remembered.getD .a = .a
         ∧ s.answer .selector .tankA = .faulted ∧ ({ s with rgs := { s.rgs with
             remembered := some .b } } : State).rgs.remembered.getD .a = .b ∧ (s.tank .b).st = .standby) := by
  and_intros <;> decide +kernel

/-- A rotor in a move that ends in a fault: at the timeout of its only attempt, or stalled short of its target. -/
def failing (a : Actr) (p : Pos) (s : State) : State :=
  actRun a (.moving p 1) none (fun r => { r with travel := some 0, stallSeen := true }) s

/-- What a rotor fault and the SELECTOR at the tank of a run are said of, clause by clause. -/
theorem witness_RotorFaultsAndTheSelectorEndARun :
    (let fails := fun (a : Actr) (p : Pos) (s : State) => (s.act a).run.st = .moving p 1 ∧ (s.act a).run.travel = some 0
       ∧ (s.act a).conf.retry < 1 ∧ (s.act a).run.stallSeen = true ∧ (s.act a).run.recognised ≠ some p
     (∀ q ∈ [SeqState.positioning, .running, .held, .parking],
       let s := failing .regenRotor .brineDraw (regenAt q 1 3 4 fresh)
       fails .regenRotor .brineDraw s ∧ s.rgs.seq = q ∧ s.rgs.run.tank = some .b ∧ s.drain.holder = some .regen
         ∧ s.noneWaits ∧ s.confirmed ≠ some TankId.b.pos)
     ∧ (let s := failing .regenRotor .service (seqAt .parking opened)
        fails .regenRotor .service s ∧ s.rgs.seq = .parking ∧ s.rgs.run.tank = none ∧ s.drain.holder ≠ some .regen
          ∧ s.noneWaits ∧ ∀ y ∈ [TankId.a, .b], s.confirmed ≠ some y.pos)
     ∧ (∀ q ∈ [SeqState.positioning, .running, .held, .parking],
       let s := failing .filterRotor .rinse (fltAt q (drainAt { Drain.reset with holder := some .backwash } opened))
       fails .filterRotor .rinse s ∧ s.noneWaits ∧ s.flt.st = q ∧ s.flt.run.decided = false
         ∧ s.drain.holder = some .backwash)
     ∧ (let u := failing .filterRotor .service (fltAt .parking opened)
        let s := { u with flt := { u.flt with run := { u.flt.run with decided := true } } }
        fails .filterRotor .service s ∧ s.noneWaits ∧ s.flt.st = .parking ∧ s.flt.run.decided = true))
    ∧ (∀ st ∈ [ActState.faultStall, .faultNoResponse],
       let u := seqAt .queued (programmed 7 (rstep .refill .volume 1 1 1 0)
         (drainAt { Drain.reset with waitRegen := true } (place .regenRotor st none none opened)))
       let s := { u with rgs := { u.rgs with run := { RegenRun.empty with tank := some .a } } }
       s.lkg.main = .opened ∧ s.link.fieldFresh = true ∧ s.drain.holder = none ∧ s.drain.waitRegen = true
         ∧ s.drain.waitBackwash = false ∧ s.drain.waitTest = false ∧ s.rgs.seq = .queued ∧ s.rgs.run.tank = some .a
         ∧ s.confirmed ≠ some TankId.a.pos ∧ s.rgs.program[(7 : Fin 8)].enabled = true
         ∧ (∀ j : Fin 8, j < 7 → s.rgs.program[j].enabled = false) ∧ s.answer .regenRotor .refill = .faulted
         ∧ opened.answer .regenRotor .refill = .disabled)
    ∧ (let s := fltAt .queued (bwProgrammed 0 (bstep .backwash 1 0)
         (drainAt { Drain.reset with waitBackwash := true } (place .filterRotor .faultStall none none opened)))
       s.lkg.main = .opened ∧ s.link.fieldFresh = true ∧ s.drain.holder = none ∧ s.drain.waitRegen = false
         ∧ s.drain.waitBackwash = true ∧ s.drain.waitTest = false ∧ s.flt.st = .queued
         ∧ s.flt.program[(0 : Fin 4)].enabled = true ∧ s.answer .filterRotor .backwash = .faulted
         ∧ opened.answer .filterRotor .backwash = .disabled)
    ∧ (let at' := fun (st : ActState) (rotor : State) (remainingA : Nat) =>
         let u := selecting st .tankB .none rotor
         { u with
           drain := rotor.drain
           rgs := { u.rgs with
             tankA := { u.rgs.tankA with remaining := remainingA }, seq := rotor.rgs.seq, run := rotor.rgs.run } }
       let ready := fun s : State => s.rgs.run.tank = some .b ∧ s.rgs.move = .none ∧ s.selector.conf.enabled = true
         ∧ s.selector.run.recognised = some TankId.b.pos ∧ s.confirmed = some TankId.b.other.pos
         ∧ (s.tank TankId.b.other).charged = true
       let queued := seqAt .queued (regenAt .queued 0 0 0 fresh)
       let waiting := drainAt { Drain.reset with waitRegen := true } queued
       (let s := at' (.moving .tankB 1) waiting 2000001
        ready s ∧ s.selector.run.target = some TankId.b.pos ∧ s.rgs.seq = .queued ∧ s.drain.holder ≠ some .regen
          ∧ s.acc.settings.reserve < (s.tank .a).remaining)
       ∧ (let s := at' .unknown waiting 2000000
          ready s ∧ s.selector.run.st = .unknown ∧ s.selector.run.adoptSeen = true ∧ s.rgs.seq = .queued
            ∧ ¬ s.acc.settings.reserve < (s.tank .a).remaining)
       ∧ (∀ q ∈ [SeqState.positioning, .running, .held, .parking],
          let s := at' .unknown (regenAt q 1 3 4 (enable .regenRotor fresh)) 9
          ready s ∧ s.selector.run.st = .unknown ∧ s.rgs.seq = q ∧ s.drain.holder = some .regen ∧ s.noneWaits
            ∧ s.answer .regenRotor .service = .moving)) := by
  and_intros <;> decide +kernel

/-- The decay test of 9.8.1 in a state, holding the line, the main valve state and MAIN as given. -/
def testMain (q : TestState) (m : MainState) (s : State) : State := mainAt m (testing q 412 s)

/-- A latch about to be set, staleness, MAIN's faults, its displacement and its arrivals, in each state of the test. -/
theorem witness_ADecayTestEndsEarlyOrReopens :
    (let lost := fun s : State => { s with lkg := { s.lkg with lostDue := true } }
     (let s := timedRule .shut fresh
      let x := s.lkg.rules[(15 : Fin 16)]
      s.lkg.latch = none ∧ x.conf.enabled = true ∧ x.st = .timing ∧ x.conf.kind = .continuous
        ∧ x.conf.duration ≤ x.timer ∧ x.conf.action = .shut ∧ s.lkg.test.st = .idle)
     ∧ (let s := lost (testAt .waiting (some 9) fresh)
        s.lkg.latch = none ∧ s.lkg.lostDue = true ∧ s.lkg.test.st = .waiting ∧ s.drain.holder ≠ some .test)
     ∧ (∀ q ∈ [TestState.closing, .settle, .measure], ∀ m ∈ [MainState.closing .test, .closed .test],
        let s := lost (testMain q m fresh)
        s.lkg.latch = none ∧ s.lkg.test.st = q ∧ s.drain.holder = some .test ∧ s.lkg.main = m)
     ∧ (let s := lost (testMain .reopening .opening (place .main (.moving .mainOpen 1) none none fresh))
        s.lkg.latch = none ∧ s.lkg.test.st = .reopening ∧ s.drain.holder = some .test ∧ s.lkg.main = .opening
          ∧ s.answer .main .mainClosed = .moving))
    ∧ (let stale := fun s : State => { s with link := { s.link with fieldMissing := 250 } }
       (let s := stale (testAt .waiting (some 9) fresh)
        s.link.fieldFresh = true ∧ 250 ≤ s.link.fieldMissing ∧ s.lkg.test.st = .waiting ∧ s.drain.holder ≠ some .test)
       ∧ (∀ q ∈ [TestState.closing, .settle, .measure],
          let s := stale (testMain q (.closed .test) (enable .main fresh))
          s.link.fieldFresh = true ∧ s.lkg.test.st = q ∧ s.answer .main .mainOpen = .moving)
       ∧ (stale (testMain .reopening .opening fresh)).lkg.test.st = .reopening)
    ∧ (∀ q ∈ [TestState.closing, .settle, .measure, .reopening],
        let s := testMain q .opening (failing .main .mainOpen fresh)
        s.lkg.test.st = q ∧ s.drain.holder = some .test ∧ s.main.run.st = .moving .mainOpen 1
          ∧ s.main.run.travel = some 0 ∧ s.main.conf.retry < 1 ∧ s.main.run.stallSeen = true
          ∧ s.main.run.recognised ≠ some .mainOpen)
    ∧ (∀ r ∈ [none, some Pos.mainClosed, some .mainOpen],
        let s := testMain .settle (.closed .test)
          (actRun .main (.at .mainClosed) r (fun x => { x with displace := some 0 }) fresh)
        s.lkg.test.st = .settle ∧ s.drain.holder = some .test ∧ s.main.run.st = .at .mainClosed
          ∧ s.main.run.displace = some 0 ∧ s.lkg.latch = none ∧ s.noneWaits ∧ s.rgs.seq ≠ .held ∧ s.flt.st ≠ .held
          ∧ s.main.run.recognised = r)
    ∧ (let s := testMain .closing (.closing .test) (place .main (.paused .mainClosed 1) (some .mainClosed) none fresh)
       s.main.run.target = some .mainClosed ∧ s.main.run.recognised = some .mainClosed ∧ s.lkg.main = .closing .test
         ∧ s.lkg.test.st = .closing)
    ∧ (let s := testMain .reopening .opening (place .main (.moving .mainOpen 1) (some .mainOpen) none
         (place .regenRotor .unknown none none fresh))
       let u := programmed 7 (rstep .refill .volume 1 1 1 0)
         (seqAt .queued { s with drain := { s.drain with waitRegen := true } })
       s.main.run.target = some .mainOpen ∧ s.main.run.recognised = some .mainOpen ∧ s.lkg.main = .opening
         ∧ s.lkg.test.st = .reopening ∧ s.drain.holder = some .test ∧ s.rgs.seq ≠ .held ∧ s.flt.st ≠ .held ∧ s.noneWaits
         ∧ u.drain.waitRegen = true ∧ u.rgs.seq = .queued ∧ u.link.fieldFresh = true
         ∧ u.rgs.program[(7 : Fin 8)].enabled = true ∧ (∀ j : Fin 8, j < 7 → u.rgs.program[j].enabled = false)
         ∧ u.answer .regenRotor (regenPos u.rgs.program[(7 : Fin 8)].pos) = .moving) := by
  and_intros <;> decide +kernel

end Sys2Proof.Tests
end

section
/-! PROOFS. Frames: what the operations of TRK change, and what every operation but LNK's, MGU's and the presets' leaves
of the counts. -/

namespace Sys2Proof.Machine

variable {s t u : State}

/-! ### What TRK's operations change -/

/-- The state with blanked what TRK's operations may change: the trackers, SLT (R123) and the change summary. -/
def State.offTracks (s : State) : State :=
  { s with trackers := Vector.replicate 7 Tracker.reset, slt := Salt.reset, mgu := { s.mgu with changes := 0 } }

theorem offTracks_raise (f : Flag) (s : State) : (raise f s).offTracks = s.offTracks := rfl

theorem offTracks_raiseIf (b : Bool) (f : Flag) (s : State) : (raiseIf b f s).offTracks = s.offTracks := by
  unfold raiseIf; split <;> rfl

theorem offTracks_judgeSalt (s : State) : (judgeSalt s).offTracks = s.offTracks := by
  unfold judgeSalt setSalt
  rw [offTracks_raiseIf]; rfl

theorem offTracks_moveTracker (i : Fin 7) (r : TrackerRun) (s : State) :
    (moveTracker i r s).offTracks = s.offTracks := by
  unfold moveTracker
  dsimp only
  split
  · rw [offTracks_judgeSalt, offTracks_raiseIf]; rfl
  · rw [offTracks_raiseIf]; rfl

theorem foldl_offTracks {α : Type} (f : State → α → State) (hf : ∀ s a, (f s a).offTracks = s.offTracks) (l : List α)
    (s : State) : (l.foldl f s).offTracks = s.offTracks := by
  induction l generalizing s with
  | nil => rfl
  | cons a l ih => rw [List.foldl_cons, ih, hf]

/-- Outside the trackers, SLT and the change summary nothing differs. -/
theorem eq_of_offTracks (h : t.offTracks = s.offTracks) :
    t = { s with trackers := t.trackers, slt := t.slt, mgu := { s.mgu with changes := t.mgu.changes } } := by
  cases s; cases t
  simp only [State.offTracks, State.mk.injEq, Mgu.mk.injEq] at h ⊢
  simp [h]
  cases ‹Mgu›; cases ‹Mgu›
  simp_all

theorem trkFresh_offTracks (s : State) : (trkFresh s).offTracks = s.offTracks := by
  refine foldl_offTracks _ (fun s i => ?_) _ s
  split
  · exact offTracks_moveTracker ..
  · rfl

theorem trkStale_offTracks (s : State) : (trkStale s).offTracks = s.offTracks := by
  refine foldl_offTracks _ (fun s i => ?_) _ s
  split
  · exact offTracks_moveTracker ..
  · rfl

theorem judgeSalt_trackers (s : State) : (judgeSalt s).trackers = s.trackers := by
  simp [judgeSalt]

theorem moveTracker_trackers (i : Fin 7) (r : TrackerRun) (s : State) :
    (moveTracker i r s).trackers = s.trackers.set i { s.trackers[i] with run := r } := by
  unfold moveTracker
  dsimp only
  split <;> simp [judgeSalt_trackers]


/-! ### The counts, the presets and the queue -/

/-- What countLaw speaks of, with the queue of the waiting commands. -/
structure Counted where
  pending : List Instr
  presets : Vector Nat 4
  fieldMissing : Nat
  gwMissing : Nat
  replies : List Reply
  rx : ReqReceiver
  seconds : Nat
  secondOfDay : Nat

/-- The counts of a state. -/
def State.counted (s : State) : Counted :=
  { pending := s.pending, presets := s.presets, fieldMissing := s.link.fieldMissing, gwMissing := s.link.gwMissing
    replies := s.mgu.replies, rx := s.mgu.rx, seconds := s.mgu.seconds, secondOfDay := s.mgu.secondOfDay }

/-- The counts and the trackers stand as they did. -/
structure Calm (s t : State) : Prop where
  counted : t.counted = s.counted
  trackers : t.trackers = s.trackers

/-- The counts stand as they did, and the trackers keep their law. -/
structure Quiet (s t : State) : Prop where
  counted : t.counted = s.counted
  trackers : s.trackerLaw → t.trackerLaw

/-- The queue stands as it did, and the laws of the counts and of the trackers are kept. -/
structure Keeps (s t : State) : Prop where
  pending : t.pending = s.pending
  counts : s.countLaw → t.countLaw
  trackers : s.trackerLaw → t.trackerLaw

theorem Calm.refl (s : State) : Calm s s := ⟨rfl, rfl⟩
theorem Calm.trans (h : Calm s t) (g : Calm t u) : Calm s u :=
  ⟨g.counted.trans h.counted, g.trackers.trans h.trackers⟩
theorem Quiet.refl (s : State) : Quiet s s := ⟨rfl, id⟩
theorem Quiet.trans (h : Quiet s t) (g : Quiet t u) : Quiet s u :=
  ⟨g.counted.trans h.counted, g.trackers ∘ h.trackers⟩
theorem Keeps.refl (s : State) : Keeps s s := ⟨rfl, id, id⟩
theorem Keeps.trans (h : Keeps s t) (g : Keeps t u) : Keeps s u :=
  ⟨g.pending.trans h.pending, g.counts ∘ h.counts, g.trackers ∘ h.trackers⟩

theorem Calm.of_parts (hl : t.link = s.link) (hpre : t.presets = s.presets) (ht : t.trackers = s.trackers)
    (hm : t.mgu = s.mgu) (hp : t.pending = s.pending) : Calm s t :=
  ⟨by unfold State.counted; rw [hl, hpre, hm, hp], ht⟩

theorem Calm.after (h : Calm t u) (g : Calm s t) : Calm s u := g.trans h
theorem Quiet.after (h : Quiet t u) (g : Quiet s t) : Quiet s u := g.trans h
theorem Keeps.after (h : Keeps t u) (g : Keeps s t) : Keeps s u := g.trans h

theorem Calm.ite {p : Prop} [Decidable p] {t' : State} (h : Calm s t) (h' : Calm s t') :
    Calm s (if p then t else t') := by
  split
  · exact h
  · exact h'

theorem Calm.quiet (h : Calm s t) : Quiet s t := by
  refine ⟨h.counted, fun g => ?_⟩
  unfold State.trackerLaw at g ⊢
  rwa [h.trackers]

theorem Quiet.keeps (h : Quiet s t) : Keeps s t := by
  have e := h.counted
  simp only [State.counted, Counted.mk.injEq] at e
  obtain ⟨hp, hpre, hf, hg, hrep, hrx, hs, hd⟩ := e
  refine ⟨hp, fun g => ?_, h.trackers⟩
  unfold State.countLaw at g ⊢
  rwa [hpre, hf, hg, hrep, hrx, hs, hd]

theorem Calm.keeps (h : Calm s t) : Keeps s t := h.quiet.keeps

/-- What the operations of the machine's blocks leave of the link and of MGU. -/
theorem reach_parts (h : Reach s t) : t.link = s.link ∧ t.lanes = s.lanes ∧ t.channels = s.channels
    ∧ t.presets = s.presets ∧ t.trackers = s.trackers ∧ t.pending = s.pending
    ∧ t.mgu = { s.mgu with changes := t.mgu.changes, fault := t.mgu.fault } := by
  have e := reach_apart h
  cases s; cases t
  simp only [State.apart, State.mk.injEq, Mgu.mk.injEq] at e ⊢
  simp [e]
  cases ‹Mgu›; cases ‹Mgu›
  simp_all

theorem reach_calm (h : Reach s t) : Calm s t := by
  obtain ⟨hl, -, -, hpre, ht, hp, hm⟩ := reach_parts h
  refine ⟨?_, ht⟩
  unfold State.counted
  rw [hm, hl, hp, hpre]

theorem calm_raiseIf (b : Bool) (f : Flag) (s : State) : Calm s (raiseIf b f s) := reach_calm (reach_raiseIf b f .same)

theorem Calm.raised (h : Calm s t) (b : Bool) (f : Flag) : Calm s (raiseIf b f t) := h.trans (calm_raiseIf b f t)

/-- A change of the trackers alone is quiet when their law is kept. -/
theorem quiet_of_offTracks (h : t.offTracks = s.offTracks) (g : s.trackerLaw → t.trackerLaw) : Quiet s t := by
  refine ⟨?_, g⟩
  rw [eq_of_offTracks h]
  rfl

/-- An event that is only taken when it is due. -/
theorem Quiet.ite {p : Prop} [Decidable p] (h : p → Quiet s t) : Quiet s (if p then t else s) := by
  split
  · exact h ‹_›
  · exact .refl s

theorem foldl_quiet {α : Type} (f : State → α → State) (hf : ∀ s a, Quiet s (f s a)) (l : List α) (s : State) :
    Quiet s (l.foldl f s) := by
  induction l generalizing s with
  | nil => exact .refl s
  | cons a l ih => exact (hf s a).trans (ih _)

/-! ### The trackers' law -/

/-- One tracker's part of the law: a LOCKED one has an estimate, and estimate and clamp bounds are at most `top`. -/
def Tracker.within (top : Nat) (x : Tracker) : Prop :=
  (x.run.st = .locked → x.run.est.isSome) ∧ x.run.est.getD 0 ≤ top ∧ x.conf.lo ≤ top ∧ x.conf.hi ≤ top

theorem trackerLaw_iff (s : State) : s.trackerLaw ↔ ∀ i : Fin 7, s.trackers[i].within (roleMax i) := Iff.rfl

theorem trackerLaw_set (i : Fin 7) (x : Tracker) (h : t.trackers = s.trackers.set i x)
    (hx : s.trackerLaw → x.within (roleMax i)) (g : s.trackerLaw) : t.trackerLaw := by
  rw [trackerLaw_iff]
  intro j
  rw [h]
  by_cases e : i = j
  · subst e; simpa using hx g
  · have := (trackerLaw_iff s).1 g j
    simpa only [Fin.getElem_fin, ne_eq, Fin.val_inj, e, not_false_eq_true, Vector.getElem_set_ne] using this

theorem quiet_moveTracker (i : Fin 7) (r : TrackerRun) (s : State)
    (h : s.trackerLaw → ({ s.trackers[i] with run := r } : Tracker).within (roleMax i)) : Quiet s (moveTracker i r s) :=
  quiet_of_offTracks (offTracks_moveTracker i r s) (trackerLaw_set i _ (moveTracker_trackers i r s) h)

/-- A run state that is not LOCKED and keeps the estimate, or has none, is within. -/
theorem within_of_not_locked {top : Nat} {x : Tracker} {r : TrackerRun} (h : x.within top) (hr : r.st ≠ .locked)
    (he : r.est = x.run.est ∨ r.est = none) : ({ x with run := r } : Tracker).within top := by
  obtain ⟨-, hest, hlo, hhi⟩ := h
  refine ⟨fun l => absurd l hr, ?_, hlo, hhi⟩
  rcases he with e | e <;> simp [e, hest]

theorem freshRun_cases (s : State) (i : Fin 7) : freshRun s i = TrackerRun.search ∨ freshRun s i = TrackerRun.idle := by
  unfold freshRun; split <;> simp

theorem within_freshRun {top : Nat} {x : Tracker} (s : State) (i : Fin 7) (hlo : x.conf.lo ≤ top) (hhi : x.conf.hi ≤ top) :
    ({ x with run := freshRun s i } : Tracker).within top := by
  rcases freshRun_cases s i with e | e <;> rw [e] <;>
    exact ⟨(nomatch ·), Nat.zero_le _, hlo, hhi⟩

theorem quiet_rebindAfterChannel (i : Fin 7) (s : State) : Quiet s (rebindAfterChannel i s) := by
  have search : Quiet s (moveTracker i TrackerRun.search s) :=
    quiet_moveTracker _ _ _ fun g => within_of_not_locked (g i) (by decide) (.inr rfl)
  have idle : Quiet s (moveTracker i TrackerRun.idle s) :=
    quiet_moveTracker _ _ _ fun g => within_of_not_locked (g i) (by decide) (.inr rfl)
  unfold rebindAfterChannel
  split <;> split
  · exact search
  · exact .refl s
  · exact .refl s
  · exact idle

theorem quiet_rebindChannel (ch : Nat) (s : State) : Quiet s (rebindChannel ch s) :=
  foldl_quiet _ (fun s i => .ite fun _ => quiet_rebindAfterChannel i s) _ s

theorem quiet_rebindAfterK (s : State) : Quiet s (rebindAfterK s) := by
  refine .ite fun _ => quiet_moveTracker _ _ _ fun g => within_of_not_locked (g flow) ?_ (.inr ?_) <;>
    split <;> simp [restartSearch, TrackerRun.idle]

theorem quiet_trkStale (s : State) : Quiet s (trkStale s) := by
  refine foldl_quiet _ (fun s i => ?_) _ s
  split
  · exact quiet_moveTracker _ _ _ fun g => within_of_not_locked (g i) (nomatch ·) (.inl rfl)
  · exact .refl s

theorem quiet_trkFresh (s : State) : Quiet s (trkFresh s) := by
  refine foldl_quiet _ (fun s i => ?_) _ s
  split
  · exact quiet_moveTracker _ _ _ fun g => within_of_not_locked (g i) (nomatch ·) (.inl rfl)
  · exact .refl s

/-! ### An input applied (R44 to R50) -/

theorem flowInput_le (k : Nat) (c : ChannelRec) (r : ChanResult) : (flowInput k c r).x ≤ 6000 := by
  simp [flowInput]

theorem scaledInput_le {top : Nat} {t : TrackerRec} (r : ChanResult) (hlo : t.lo ≤ top) (hhi : t.hi ≤ top) :
    (scaledInput t r).x ≤ top := by
  unfold scaledInput
  dsimp only
  split
  · exact hlo
  · split
    · exact hhi
    · dsimp only; omega

theorem inputOf_le (i : Fin 7) (c : ChannelRec) (r : ChanResult) (h : s.trackerLaw) :
    (inputOf s i c r).x ≤ roleMax i := by
  unfold inputOf
  obtain ⟨-, -, hlo, hhi⟩ := h i
  split
  · subst i; exact flowInput_le ..
  · exact scaledInput_le r hlo hhi

/-- A quotient truncated toward zero moves an estimate toward the input and not past it (R49). -/
theorem stepToward_le {top x e : Nat} (k : Nat) (hk : 0 < k) (hx : x ≤ top) (he : e ≤ top) :
    ((e : Int) + truncDiv ((x : Int) - (e : Int)) k).toNat ≤ top := by
  have : Int.tdiv ((x : Int) - e) k ≤ max ((x : Int) - e) 0 := by
    rcases Int.le_total 0 ((x : Int) - e) with h | h
    · rw [Int.tdiv_eq_ediv_of_nonneg h]
      have := Int.ediv_le_self (k : Int) h
      omega
    · have : 0 ≤ Int.tdiv (-((x : Int) - e)) k := Int.tdiv_nonneg (by omega) (by omega)
      rw [Int.neg_tdiv] at this
      omega
  unfold truncDiv
  omega

theorem searchUpdate_within {top x : Nat} {c : TrackerRec} {r : TrackerRun} (hx : x ≤ top) (hr : r.st = .search) :
    ((searchUpdate c x r).st = .locked → (searchUpdate c x r).est.isSome) ∧ (searchUpdate c x r).est.getD 0 ≤ top := by
  unfold searchUpdate
  dsimp only
  repeat' split
  all_goals simp_all

theorem bandJudgement_st (c : TrackerRec) (d : Int) (r : TrackerRun) : (bandJudgement c d r).st = r.st := by
  unfold bandJudgement; split <;> rfl

theorem lockedUpdate_within {top x : Nat} {c : TrackerRec} {r : TrackerRun} (hx : x ≤ top) (he : r.est.getD 0 ≤ top) :
    ((lockedUpdate c x r).run.est.isSome) ∧ (lockedUpdate c x r).run.est.getD 0 ≤ top := by
  unfold lockedUpdate
  dsimp only
  have := stepToward_le (2 ^ shiftOf c (bandJudgement c ((x : Int) - ((r.est.getD 0 : Nat) : Int))
    { r with m := noiseMeasure r.m ((x : Int) - ((r.est.getD 0 : Nat) : Int)).natAbs
             noise := noiseFlag c (noiseMeasure r.m ((x : Int) - ((r.est.getD 0 : Nat) : Int)).natAbs) r.noise }).nStep
      (noiseFlag c (noiseMeasure r.m ((x : Int) - ((r.est.getD 0 : Nat) : Int)).natAbs) r.noise))
    (by positivity) hx he
  split <;> simpa using this

theorem applyInput_within {top : Nat} {x : Tracker} {i : Input} (h : x.within top) (hi : i.x ≤ top) :
    ({ x with run := (applyInput x.conf i x.run).run } : Tracker).within top := by
  obtain ⟨hlock, hest, hlo, hhi⟩ := h
  have : ((applyInput x.conf i x.run).run.st = .locked → (applyInput x.conf i x.run).run.est.isSome)
      ∧ (applyInput x.conf i x.run).run.est.getD 0 ≤ top := by
    unfold applyInput
    dsimp only
    split
    · exact searchUpdate_within hi (by assumption)
    · have := lockedUpdate_within (c := x.conf) (r := { x.run with lastIn := some i.x, range := x.run.range || i.clamped }) hi hest
      exact ⟨fun _ => this.1, this.2⟩
    · exact ⟨hlock, hest⟩
  exact ⟨this.1, this.2, hlo, hhi⟩

theorem quiet_trackerResult (i : Fin 7) (c : ChannelRec) (r : ChanResult) (s : State) :
    Quiet s (trackerResult i c r s) := by
  refine .ite fun _ => .trans (quiet_moveTracker _ _ _ fun g => ?_) (calm_raiseIf ..).quiet
  exact applyInput_within (g i) (inputOf_le i c r g)

end Sys2Proof.Machine
end

section
/-! PROOFS. Every command keeps the counts, the presets and the estimates in their ranges. -/

namespace Sys2Proof.Machine

variable {s t u : State}

/-! ### A publication -/

theorem calm_noteClamp (q : Nat) (s : State) : Calm s (noteClamp q s) := by
  unfold noteClamp
  split
  · exact .raised (by exact ⟨rfl, rfl⟩) _ _
  · exact .refl s

theorem Calm.clamped (h : Calm s t) (q : Nat) : Calm s (noteClamp q t) := h.trans (calm_noteClamp q t)

theorem calm_volumeStage (z : Nat) (s : State) : Calm s (volumeStage z s) := .clamped (by exact ⟨rfl, rfl⟩) _

theorem calm_brineStage (z : Nat) (s : State) : Calm s (brineStage z s) := .clamped (by exact ⟨rfl, rfl⟩) _

theorem calm_addSlip (x : Nat) (s : State) : Calm s (addSlip x s) := by
  unfold addSlip
  split
  · exact .refl s
  · exact .raised (by exact ⟨rfl, rfl⟩) _ _

theorem calm_setTank (x : TankId) (y : Tank) (s : State) : Calm s (setTank x y s) := by
  cases x <;> exact .raised (by exact ⟨rfl, rfl⟩) _ _

theorem calm_chargeTank (x : TankId) (dl : Nat) (s : State) : Calm s (chargeTank x dl s) := by
  unfold chargeTank
  dsimp only
  split
  · exact (calm_setTank ..).trans (calm_addSlip ..)
  · exact calm_addSlip ..

theorem calm_charge (dvt dl : Nat) (s : State) : Calm s (charge dvt dl s) := by
  unfold charge
  split
  · exact calm_chargeTank ..
  · split
    · exact ⟨rfl, rfl⟩
    · exact calm_addSlip ..

theorem calm_chargeStage (dvt : Nat) (s : State) : Calm s (chargeStage dvt s) := by
  obtain ⟨hc, ht⟩ := calm_charge dvt (dvt * s.acc.hc)
    { s with acc := { s.acc with totalTreated := wrapAdd mod40 s.acc.totalTreated dvt } }
  exact ⟨hc, ht⟩

theorem calm_giveNotices (n : Option (TankId × Bool × Bool)) (s : State) : Calm s (giveNotices n s) := by
  unfold giveNotices
  split
  · rename_i x reserve exhausted
    have first : Reach s (if reserve then reserveNotice onGrant x s else s) := by
      split
      · exact reach_reserveNotice _ _ reach_onGrant .same
      · exact .same
    refine reach_calm ?_
    dsimp only
    split
    · exact reach_exhaustionNotice _ _ reach_onGrant first
    · exact first
  · exact .refl s

theorem calm_inletResult (r : ChanResult) (s : State) : Calm s (inletResult r s) := by
  have stages : Calm s (hardnessStage (allowanceStage r.e (volumeStage r.z s))) :=
    (calm_volumeStage r.z s).trans ⟨rfl, rfl⟩
  exact ((stages.trans (calm_chargeStage _ _)).trans (reach_calm (reach_fltIncrement _
    (reach_lkgIncrement _ _ _ reach_onGrant .same)))).trans (calm_giveNotices _ _)

theorem calm_brineIncrement (p : BrinePhase) (dv : Nat) (s : State) : Calm s (brineIncrement p dv s) := by
  unfold brineIncrement
  have h : Reach s (rgsIncrement dv s) := reach_rgsIncrement dv .same
  cases p with
  | none => exact reach_calm h
  | draw => exact (reach_calm h).trans ⟨rfl, rfl⟩
  | refill => exact reach_calm (reach_refillIncrement dv h)

theorem calm_toInlet (ch : Fin 8) (m : ChannelMode) (r : ChanResult) (s : State) : Calm s (toInlet ch m r s) := by
  unfold toInlet
  split
  · exact calm_inletResult r s
  · exact .refl s

theorem calm_toBrine (ch : Fin 8) (m : ChannelMode) (r : ChanResult) (s : State) : Calm s (toBrine ch m r s) := by
  unfold toBrine
  split
  · exact (calm_brineStage _ _).trans (calm_brineIncrement _ _ _)
  · exact .refl s

theorem quiet_toTracker (ch : Fin 8) (c : ChannelRec) (r : ChanResult) (i : Fin 7) (s : State) :
    Quiet s (toTracker ch c r i s) := by
  unfold toTracker
  dsimp only
  split
  · split
    · exact (quiet_trackerResult i c r s).trans (reach_calm (reach_fltFlowUpdate .same)).quiet
    · exact quiet_trackerResult i c r s
  · exact .refl s

theorem quiet_publication (ch : Fin 8) (c : Channel) (r : ChanResult) (s : State) :
    Quiet s (publication ch c r s) := by
  have close : Calm s (raiseIf s.channels[ch].run.ready .channel (setChannel ch c s)) :=
    .raised (by exact ⟨rfl, rfl⟩) _ _
  exact ((close.trans (calm_toInlet ..)).trans (calm_toBrine ..)).quiet.trans
    (foldl_quiet _ (fun s i => quiet_toTracker _ _ _ i s) _ _)

/-! ### Events -/

theorem quiet_channelResult (ch : Fin 8) (s : State) : Quiet s (channelResult ch s) :=
  .ite fun _ => quiet_publication ..

theorem quiet_periodTimeout (ch : Fin 8) (s : State) : Quiet s (periodTimeout ch s) :=
  .ite fun _ => quiet_publication ..

theorem quiet_windowAbandoned (ch : Fin 8) (s : State) : Quiet s (windowAbandoned ch s) :=
  .ite fun _ => Calm.quiet (t := setChannel ch _ s) ⟨rfl, rfl⟩

theorem calm_setRun (a : Actr) (r : ActuatorRun) (s : State) : Calm s (setRun a r s) := by
  cases a <;> exact ⟨rfl, rfl⟩

theorem calm_setAct (a : Actr) (x : Actuator) (s : State) : Calm s (setAct a x s) := by
  cases a <;> exact ⟨rfl, rfl⟩

theorem calm_actFault (a : Actr) (st : ActState) (k : FaultKind) (d1 d2 : Byte) (s : State) :
    Calm s (actFault a st k d1 d2 s) :=
  (calm_setRun ..).trans (reach_calm (reach_offerFault _ _ _ (reach_raise _ .same)))

theorem calm_arrivalEvent (a : Actr) (s : State) : Calm s (arrivalEvent a s) := by
  unfold arrivalEvent
  split
  · exact (calm_setRun ..).trans (reach_calm (reach_notifyDone _ _ _ .same))
  · exact .refl s

theorem calm_timeoutEvent (a : Actr) (s : State) : Calm s (timeoutEvent a s) := by
  unfold timeoutEvent
  split
  · split
    · exact calm_setRun ..
    · exact (calm_actFault ..).trans (reach_calm (reach_notifyFault _ _ .same))
  · exact .refl s

theorem calm_pauseEvent (a : Actr) (s : State) : Calm s (pauseEvent a s) := by
  unfold pauseEvent
  split
  · exact calm_setRun ..
  · exact .refl s

theorem calm_stallEvent (a : Actr) (s : State) : Calm s (stallEvent a s) := by
  unfold stallEvent
  split
  · exact (calm_actFault ..).trans (reach_calm (reach_notifyFault _ _ .same))
  · exact .refl s

theorem calm_displacementEvent (a : Actr) (s : State) : Calm s (displacementEvent a s) := by
  unfold displacementEvent
  split
  · exact (calm_actFault ..).trans (reach_calm (reach_notifyDisplaced _ _ .same))
  · exact .refl s

theorem calm_adoptionEvent (a : Actr) (s : State) : Calm s (adoptionEvent a s) := by
  unfold adoptionEvent
  split
  · exact (calm_setRun ..).trans (reach_calm (reach_notifyAdopted _ _ _ .same))
  · exact .refl s

/-! ### The transmitters -/

/-- A byte offered takes at most the oldest reply from the queue (R168). -/
theorem offerByte_cases (s : State) : ∃ rest sent, offerByte s = { s with mgu := { s.mgu with replies := rest, sent := sent } }
    ∧ rest.length ≤ s.mgu.replies.length := by
  unfold offerByte
  split
  · exact ⟨_, _, rfl, le_rfl⟩
  · rename_i r rest e
    unfold afterByte
    split
    · exact ⟨rest, none, rfl, by simp [e]⟩
    · exact ⟨s.mgu.replies, _, rfl, le_rfl⟩

theorem keeps_offerByte (s : State) : Keeps s (offerByte s) := by
  obtain ⟨rest, sent, e, h⟩ := offerByte_cases s
  rw [e]
  refine ⟨rfl, fun g => ?_, id⟩
  obtain ⟨hf, hg, hr, hrest⟩ := g
  exact ⟨hf, hg, h.trans hr, hrest⟩

theorem keeps_startFrame (p : OutPort) (s : State) : Keeps s (startFrame p s) := by
  cases p with
  | gtx => exact ((keeps_offerByte s).trans (keeps_offerByte _)).trans ⟨rfl, id, id⟩
  | ftx => exact ⟨rfl, id, id⟩

theorem keeps_setTransmitter (p : OutPort) (x : Transmitter) (s : State) : Keeps s (setTransmitter p x s) := by
  cases p <;> exact ⟨rfl, id, id⟩

theorem keeps_triggerPort (p : OutPort) (s : State) : Keeps s (triggerPort p s) := by
  unfold triggerPort
  split
  · exact keeps_startFrame p s
  · exact keeps_setTransmitter ..

theorem keeps_emissionTrigger (s : State) : Keeps s (emissionTrigger s) :=
  (keeps_triggerPort .gtx s).trans (keeps_triggerPort .ftx _)

theorem keeps_afterFrame (p : OutPort) (s : State) : Keeps s (afterFrame p s) := by
  unfold afterFrame
  split
  · exact keeps_startFrame p s
  · exact keeps_setTransmitter ..

/-! ### Staleness and the events still due -/

theorem keeps_ite {p : Prop} [Decidable p] (h : p → Keeps s t) : Keeps s (if p then t else s) := by
  split
  · exact h ‹_›
  · exact .refl s

theorem reach_lkgStale (k : Grant) (hk : SafeGrant k) (h : Reach s t) : Reach s (lkgStale k t) :=
  reach_testStale k hk (h.lkg ⟨rfl, rfl, fun _ => rfl⟩)

theorem quiet_staleNotices (s : State) : Quiet s (staleNotices s) :=
  (quiet_trkStale s).trans (reach_calm (reach_lkgStale _ reach_onGrant (reach_fltHold (reach_rgsHold .same)))).quiet

theorem keeps_fieldStaleEvent (s : State) : Keeps s (fieldStaleEvent s) := by
  refine keeps_ite fun _ => (Calm.keeps ?_).trans ((quiet_staleNotices _).keeps.trans (keeps_emissionTrigger _))
  exact ⟨rfl, rfl⟩

theorem keeps_gatewayStaleEvent (s : State) : Keeps s (gatewayStaleEvent s) := keeps_ite fun _ => ⟨rfl, id, id⟩

/-- What holds of every event's change holds of the change they make together. -/
theorem takeAll_induction {R : State → State → Prop} (hrefl : ∀ s, R s s) (htrans : ∀ {s t u}, R s t → R t u → R s u)
    (l : List (State → State)) (h : ∀ f ∈ l, ∀ s, R s (f s)) (s : State) : R s (takeAll l s) := by
  unfold takeAll
  induction l generalizing s with
  | nil => exact hrefl s
  | cons f l ih =>
    exact htrans (h f (by simp) s) (ih (fun g hg => h g (by simp [hg])) (f s))

theorem keeps_of_event (f : State → State) (h : f ∈ events) (s : State) : Keeps s (f s) := by
  simp only [events, List.mem_append, List.mem_map, List.mem_cons, List.not_mem_nil, or_false] at h
  have calm : ∀ {t}, Reach s t → Keeps s t := fun h => (reach_calm h).keeps
  casesm* _ ∨ _ <;> (try obtain ⟨a, -, rfl⟩ := ‹∃ _, _›) <;> (try subst f)
  · exact (quiet_periodTimeout ..).keeps
  · exact (quiet_channelResult ..).keeps
  · exact (quiet_windowAbandoned ..).keeps
  · exact keeps_fieldStaleEvent s
  · exact keeps_gatewayStaleEvent s
  · exact (calm_arrivalEvent ..).keeps
  · exact (calm_stallEvent ..).keeps
  · exact (calm_adoptionEvent ..).keeps
  · exact (calm_timeoutEvent ..).keeps
  · exact (calm_pauseEvent ..).keeps
  · exact (calm_displacementEvent ..).keeps
  · exact calm (reach_drainGrantEvent .same)
  · exact calm (reach_regenStepEndEvent .same)
  · exact calm (reach_regenHoldEvent .same)
  · exact calm (reach_settlingEvent .same)
  · exact calm (reach_bwStepEndEvent .same)
  · exact calm (reach_bwHoldEvent .same)
  · exact calm (reach_testWindowEvent .same)
  · exact calm (reach_testSettleEvent .same)
  · exact calm (reach_testMeasureEvent .same)
  · exact calm (reach_testCalendarEvent .same)
  · exact calm (reach_calendarRegenEvent .same)
  · exact calm (reach_ruleTripEvent _ .same)
  · exact calm (reach_drawEndEvent .same)
  · exact calm (reach_zoneSilentEvent _ .same)
  · exact calm (reach_fieldLostEvent .same)
  · exact calm (reach_retryEvent .same)
  · exact calm (reach_stageDueEvent _ .same)
  · exact calm (reach_demandEvent .same)
  · exact calm (reach_queueEvent .same)

theorem keeps_settle (s : State) : Keeps s (settle s) :=
  takeAll_induction Keeps.refl Keeps.trans events keeps_of_event s

end Sys2Proof.Machine
end

section
/-! PROOFS. Every command keeps the counts, the presets and the estimates in their ranges, continued: frames, the second,
the restarts and the requests. -/

namespace Sys2Proof.Machine

variable {s t u : State}

/-! ### Good frames -/

theorem foldl_calm {α : Type} (f : State → α → State) (hf : ∀ s a, Calm s (f s a)) (l : List α) (s : State) :
    Calm s (l.foldl f s) := by
  induction l generalizing s with
  | nil => exact .refl s
  | cons a l ih => exact (hf s a).trans (ih _)

theorem reach_lkgFresh (h : Reach s t) : Reach s (lkgFresh t) := reach_zonesReported (h.lkg ⟨rfl, rfl, fun _ => rfl⟩)

/-- After TRK, the freshness notices are operations of the machine's blocks. -/
theorem reach_freshNotices (s : State) : Reach (trkFresh s) (freshNotices s) :=
  reach_lkgFresh (reach_fltResume _ reach_onGrant (reach_rgsResume _ reach_onGrant .same))

theorem quiet_freshNotices (s : State) : Quiet s (freshNotices s) :=
  (quiet_trkFresh s).trans (reach_calm (reach_freshNotices s)).quiet

theorem quiet_linkFresh (s : State) : Quiet s (linkFresh s) := by
  unfold linkFresh
  split
  · exact .refl s
  · exact Quiet.after (quiet_freshNotices _) ⟨rfl, id⟩

theorem calm_actFrame (s : State) (outs : Vector LaneOut 32) (a : Actr) : Calm s (actFrame s outs a) := by
  unfold actFrame
  dsimp only
  split
  · exact calm_setAct ..
  · exact .refl s

theorem calm_actsFrame (outs : Vector LaneOut 32) (s : State) : Calm s (actsFrame outs s) :=
  foldl_calm _ (fun s a => calm_actFrame s outs a) _ s

theorem reach_moistureFrame (outs : Vector LaneOut 32) (s : State) : Reach s (moistureFrame outs s) := by
  unfold moistureFrame
  split
  · exact reach_moistureSample _ _ reach_onGrant .same
  · exact .same

theorem calm_lxFrame (slots : Vector Byte 20) (s : State) : Calm s (lxFrame slots s) := by
  unfold lxFrame
  exact .raised (by exact .of_parts rfl rfl rfl rfl rfl) _ _

theorem calm_lxMissing (s : State) : Calm s (lxMissing s) := by
  unfold lxMissing
  exact .raised (by exact .of_parts rfl rfl rfl rfl rfl) _ _

theorem calm_lanesFrame (slots : Vector Byte 20) (s : State) : Calm s (lanesFrame slots s) := by
  have lanes : Calm s (lxFrame slots s) := calm_lxFrame slots s
  have channels : Calm s (mchFrame (laneOuts s.lanes slots) (lxFrame slots s)) := ⟨lanes.counted, lanes.trackers⟩
  exact (channels.trans (calm_actsFrame _ _)).trans (reach_calm (reach_moistureFrame _ _))

/-- The link after a good field frame has been counted (R2, R3). -/
def frameCounted (s : State) : State := { s with link := { s.link with fieldMissing := 0, fieldSeen := true } }

/-- The link with the frame kept as the last good one (R2). -/
def frameKept (slots : Vector Byte 20) (s : State) : State := { s with link := { s.link with lastField := some slots } }

/-- A good field frame is counted, makes the link FRESH, is kept, goes to the lanes and their consumers, and triggers. -/
theorem fieldFrame_eq (slots : Vector Byte 20) (s : State) :
    fieldFrame slots s = emissionTrigger (lanesFrame slots (frameKept slots (linkFresh (frameCounted s)))) := rfl

theorem keeps_fieldFrame (slots : Vector Byte 20) (s : State) : Keeps s (fieldFrame slots s) := by
  have counted : Keeps s (frameCounted s) := ⟨rfl, fun ⟨_, h⟩ => ⟨Nat.zero_le _, h⟩, id⟩
  have kept : ∀ v, Calm v (frameKept slots v) := fun _ => ⟨rfl, rfl⟩
  rw [fieldFrame_eq]
  exact ((counted.trans (quiet_linkFresh _).keeps).trans ((kept _).trans (calm_lanesFrame slots _)).keeps).trans
    (keeps_emissionTrigger _)

/-! ### The request receiver (R166) -/

/-- A receiver's count and its kept bytes are in their ranges. -/
def ReqReceiver.Bounded (r : ReqReceiver) : Prop := r.count ≤ 255 ∧ r.bytes.length ≤ min 53 r.count

theorem append_bounded {r : ReqReceiver} (b : Byte) (h : r.Bounded) : (r.append b).Bounded := by
  obtain ⟨hc, hb⟩ := h
  refine ⟨Nat.min_le_left _ _, ?_⟩
  simp only [ReqReceiver.append]
  split <;> simp <;> omega

theorem receiverStep_bounded {r : ReqReceiver} (b : Byte) (h : r.Bounded) : (receiverStep b r).1.Bounded := by
  have fresh : ReqReceiver.fresh.Bounded := ⟨by decide, by decide⟩
  unfold receiverStep
  repeat' split
  all_goals first | exact fresh | exact append_bounded _ h | exact h

theorem keeps_setReceiver {r : ReqReceiver} (h : s.mgu.rx.Bounded → r.Bounded) : Keeps s (setReceiver r s) := by
  refine ⟨rfl, fun g => ?_, id⟩
  obtain ⟨hf, hg, hr, hc, hb, hrest⟩ := g
  exact ⟨hf, hg, hr, (h ⟨hc, hb⟩).1, (h ⟨hc, hb⟩).2, hrest⟩

/-! ### Requests -/

/-- What a handler does keeps the laws and leaves the reply queue to `answer`. -/
def Handler.Safe (h : Handler) : Prop := ∀ s, Keeps s (h s).1 ∧ (h s).1.mgu.replies = s.mgu.replies

theorem keeps_answer {h : Handler} (hs : h.Safe) (tag : Byte) (s : State) : Keeps s (answer tag h s) := by
  rcases answer_cases tag h s with ⟨-, e⟩ | ⟨-, -, e⟩ | ⟨-, hlt, e⟩ <;> rw [e]
  · exact .refl s
  · exact (reach_calm (reach_raise _ .same)).keeps
  · obtain ⟨hk, hr⟩ := hs s
    refine hk.trans ⟨rfl, fun g => ?_, id⟩
    obtain ⟨hf, hg, -, hrest⟩ := g
    refine ⟨hf, hg, ?_, hrest⟩
    rw [← hr] at hlt
    simp; omega

theorem safe_status (st : Status) : (status st).Safe := fun s => ⟨.refl s, rfl⟩

/-- A quiet change keeps the laws and the replies. -/
theorem Quiet.safe (h : Quiet s t) : Keeps s t ∧ t.mgu.replies = s.mgu.replies := by
  have e := h.counted
  simp only [State.counted, Counted.mk.injEq] at e
  exact ⟨h.keeps, e.2.2.2.2.1⟩

theorem Calm.safe (h : Calm s t) : Keeps s t ∧ t.mgu.replies = s.mgu.replies := h.quiet.safe

theorem reach_safe (h : Reach s t) : Keeps s t ∧ t.mgu.replies = s.mgu.replies := (reach_calm h).safe

theorem safe_checked {check : Option Status} {f : State → State}
    (h : check = none → ∀ s, Keeps s (f s) ∧ (f s).mgu.replies = s.mgu.replies) : (checked check f).Safe := by
  cases check with
  | none => exact h rfl
  | some st => exact safe_status st

theorem checked_safe {check : Option Status} {f : State → State} (s : State)
    (h : check = none → Keeps s (f s) ∧ (f s).mgu.replies = s.mgu.replies) :
    Keeps s (checked check f s).1 ∧ (checked check f s).1.mgu.replies = s.mgu.replies := by
  cases check with
  | none => exact h rfl
  | some st => exact safe_status st s

/-- Contents that hold no record are never stored. -/
theorem checkTyped_none {α : Type} {top i : Nat} {check : α → Option Status} {c : Option α}
    (h : checkTyped top i check c = none) : ∃ x, c = some x ∧ check x = none := by
  cases c with
  | some x => exact ⟨x, rfl, h⟩
  | none => cases h

/-! Reads -/

theorem safe_readEntry (table i : Nat) : (readEntry table i).Safe := fun s => by
  unfold readEntry
  split
  · exact safe_status _ s
  · exact (Calm.refl s).safe

theorem safe_readResult (ch mode : Nat) : (readResult ch mode).Safe := fun s => by
  unfold readResult
  split
  · split
    · exact safe_status _ s
    · dsimp only
      split
      · exact Calm.safe ⟨rfl, rfl⟩
      · exact (Calm.refl s).safe
  · exact safe_status _ s

theorem quiet_acknowledge (object i : Nat) (s : State) : Quiet s (acknowledge object i s) := by
  unfold acknowledge
  split
  · split
    · exact ⟨rfl, id⟩
    · exact .refl s
  · split
    · exact ⟨rfl, trackerLaw_set ⟨i, by assumption⟩ _ rfl fun g => g ⟨i, by assumption⟩⟩
    · exact .refl s
  · split
    · exact (calm_setRun ..).quiet
    · exact .refl s
  · exact ⟨rfl, id⟩
  · exact ⟨rfl, id⟩
  · exact .refl s

theorem safe_readState (object i part mode : Nat) : (readState object i part mode).Safe := fun s => by
  unfold readState
  split
  · exact safe_status _ s
  · dsimp only
    split
    · exact (quiet_acknowledge object i s).safe
    · exact (Calm.refl s).safe

theorem safe_ackChanges (lo hi : Byte) : (ackChanges lo hi).Safe := fun _ => Calm.safe ⟨rfl, rfl⟩

/-! Writes -/

theorem calm_actsLaneReset (hit : Nat → Bool) (s : State) : Calm s (actsLaneReset hit s) :=
  foldl_calm _ (fun s a => calm_setAct a _ s) _ s

theorem calm_mchLaneReset (hit : Nat → Bool) (s : State) : Calm s (mchLaneReset hit s) := by
  unfold mchLaneReset
  exact .of_parts rfl rfl rfl rfl rfl

theorem calm_storeLane (i : Nat) (d : LaneDesc) (s : State) : Calm s (storeLane i d s) := by
  unfold storeLane
  exact (calm_actsLaneReset _ _).after ((calm_mchLaneReset _ _).after (by exact .of_parts rfl rfl rfl rfl rfl))

theorem safe_writeLane (i : Nat) (c : Option LaneDesc) : (writeLane i c).Safe := fun s =>
  checked_safe s fun h => by
    obtain ⟨d, rfl, -⟩ := checkTyped_none h
    exact (calm_storeLane i d s).safe

theorem safe_writeReportField (i : Nat) (c : Option ReportField) : (writeReportField i c).Safe := fun s =>
  checked_safe s fun h => by
    obtain ⟨f, rfl, -⟩ := checkTyped_none h
    refine Calm.safe ?_
    dsimp only [storeReportField]
    split <;> exact ⟨rfl, rfl⟩

theorem safe_writeChannel (i : Nat) (c : Option ChannelRec) : (writeChannel i c).Safe := fun s =>
  checked_safe s fun h => by
    obtain ⟨x, rfl, -⟩ := checkTyped_none h
    refine Quiet.safe ?_
    dsimp only [storeChannel]
    split
    · exact Quiet.after (quiet_rebindChannel _ _) ⟨rfl, id⟩
    · exact .refl s

theorem safe_writePreset (i r : Nat) : (writePreset i r).Safe := safe_checked fun h s => by
  simp [checkPreset, firstFailing_none, notIn] at h
  unfold storePreset
  split
  · refine ⟨⟨rfl, fun g => ?_, id⟩, rfl⟩
    obtain ⟨hf, hg, hr, hc, hb, hs, hd, hp⟩ := g
    refine ⟨hf, hg, hr, hc, hb, hs, hd, fun j => ?_⟩
    by_cases e : i = j.val
    · subst e; simp; omega
    · simpa [e] using hp j
  · exact (Calm.refl s).safe

/-- The tracker written is judged afresh, and its clamp bounds are in its range (R40). -/
theorem quiet_storeTracker {i : Nat} {c : TrackerRec} (h : checkTracker i c = none) (s : State) :
    Quiet s (storeTracker i c s) := by
  simp [checkTracker, firstFailing_none, trackerRange] at h
  obtain ⟨-, hr, -⟩ := h
  unfold storeTracker
  split
  · rename_i hi
    have hm : maxOf i = roleMax ⟨i, hi⟩ := dif_pos hi
    rw [hm] at hr
    refine quiet_of_offTracks (offTracks_moveTracker ..) ?_
    refine trackerLaw_set (s := s) ⟨i, hi⟩ { conf := c, run := freshRun (setTracker ⟨i, hi⟩ { s.trackers[i] with conf := c } s) ⟨i, hi⟩ }
      ?_ fun _ => ?_
    · rw [moveTracker_trackers]; simp
    · have lo : c.lo ≤ roleMax ⟨i, hi⟩ := by omega
      have hhi : c.hi ≤ roleMax ⟨i, hi⟩ := by omega
      exact within_freshRun (x := { conf := c, run := TrackerRun.idle }) _ _ lo hhi
  · exact .refl s

theorem safe_writeTracker (i : Nat) (c : Option TrackerRec) : (writeTracker i c).Safe := fun s =>
  checked_safe s fun h => by
    obtain ⟨x, rfl, hx⟩ := checkTyped_none h
    exact (quiet_storeTracker hx s).safe

theorem calm_setCurve (id : CurveId) (pts : List (Nat × Nat)) (s : State) : Calm s (setCurve id pts s) := by
  cases id <;> exact ⟨rfl, rfl⟩

theorem quiet_writeSoftener (c : Softener) (s : State) : Quiet s (writeSoftener c s) := by
  unfold writeSoftener
  split
  · exact Quiet.after (quiet_rebindAfterK _) ⟨rfl, id⟩
  · exact ⟨rfl, id⟩

theorem safe_writeSoftenerEntry (i : Nat) (c : Option Softener) : (writeSoftenerEntry i c).Safe := fun s =>
  checked_safe s fun h => by
    obtain ⟨x, rfl, -⟩ := checkTyped_none h
    exact (quiet_writeSoftener x s).safe

theorem safe_writeTankEntry (i : Nat) (c : TankContents) : (writeTankEntry i c).Safe := fun s => by
  unfold writeTankEntry
  split
  · exact checked_safe s fun _ => (calm_setTank ..).safe
  · exact safe_status _ s

theorem calm_setSalt (x : Salt) (s : State) : Calm s (setSalt x s) := .raised (by exact ⟨rfl, rfl⟩) _ _

theorem safe_writeSaltEntry (i : Nat) (c : SaltSettings) : (writeSaltEntry i c).Safe :=
  safe_checked fun _ s => ((calm_setSalt _ s).trans (reach_calm (reach_judgeSalt .same))).safe

theorem calm_setFouled (b : Bool) (s : State) : Calm s (setFouled b s) := reach_calm (reach_setFouled b .same)

/-- The demand and the watch of a media stage that is one no longer are cleared (R134). -/
theorem calm_mediaDropped (s : State) : Calm s { (setFouled false s) with
    flt := { (setFouled false s).flt with demand := none, watch := false } } :=
  ⟨(calm_setFouled false s).counted, (calm_setFouled false s).trackers⟩

theorem calm_writeStage (i : Fin 4) (c : StageContents) (s : State) : Calm s (writeStage i c s) := by
  have stored : Calm s (setStage i (writtenStage c s.flt.stages[i]) s) := ⟨rfl, rfl⟩
  have judged : Calm s (dueAfresh i _) := (reach_calm (reach_dueAfresh i .same)).after
    (.ite (p := recIsMedia s.flt.stages[i].conf
      && !recIsMedia (setStage i (writtenStage c s.flt.stages[i]) s).flt.stages[i].conf)
      ((calm_mediaDropped _).after stored) stored)
  exact .ite ((reach_calm (reach_judgeDemand .same)).after judged) judged

theorem safe_writeStageEntry (i : Nat) (c : Option StageContents) : (writeStageEntry i c).Safe := fun s => by
  unfold writeStageEntry
  split
  · split
    · exact checked_safe s fun _ => (calm_writeStage ..).safe
    · exact safe_status _ s
  · exact safe_status _ s

theorem safe_writeLeakRuleEntry (i : Nat) (c : Option LeakRule) : (writeLeakRuleEntry i c).Safe := fun s => by
  unfold writeLeakRuleEntry
  split
  · split
    · exact checked_safe s fun _ => Calm.safe ⟨rfl, rfl⟩
    · exact safe_status _ s
  · exact safe_status _ s

theorem safe_writeActuatorEntry (i : Nat) (c : Option ActuatorRec) : (writeActuatorEntry i c).Safe := fun s => by
  unfold writeActuatorEntry
  split
  · split
    · exact safe_status _ s
    · split
      · exact checked_safe s fun _ => ((calm_setAct ..).trans (reach_calm (reach_notifyReset _ .same))).safe
      · exact safe_status _ s
  · exact safe_status _ s

theorem safe_writePlain (i : Nat) (c : PlainContents) : (writePlain i c).Safe := by
  cases c with
  | reportConst b => exact safe_checked fun _ s => Calm.safe (by unfold storeConst; split <;> exact ⟨rfl, rfl⟩)
  | driveMask b => exact safe_checked fun _ s => Calm.safe (by unfold storeMask; split <;> exact ⟨rfl, rfl⟩)
  | regenStep r =>
    refine safe_checked fun h s => Calm.safe ?_
    obtain ⟨x, rfl, -⟩ := checkTyped_none h
    dsimp only [storeRegenStep]
    split <;> exact ⟨rfl, rfl⟩
  | backwashStep r =>
    refine safe_checked fun h s => Calm.safe ?_
    obtain ⟨x, rfl, -⟩ := checkTyped_none h
    dsimp only [storeBackwashStep]
    split <;> exact ⟨rfl, rfl⟩
  | zoneWindow r =>
    refine safe_checked fun h s => Calm.safe ?_
    obtain ⟨x, rfl, -⟩ := checkTyped_none h
    dsimp only [storeZoneWindow]
    split <;> exact ⟨rfl, rfl⟩
  | leakConfig r =>
    refine safe_checked fun h s => Calm.safe ?_
    obtain ⟨x, rfl, -⟩ := checkTyped_none h
    exact ⟨rfl, rfl⟩
  | unusable n => exact safe_status _

/-! Commands -/

/-- A command refused by a condition or taken by an operation of the machine's blocks. -/
theorem safe_reach {h : Handler} (hr : ∀ s, Reach s (h s).1) : h.Safe := fun s => reach_safe (hr s)

theorem safe_openMainCmd : openMainCmd.Safe := safe_reach fun s => by
  unfold openMainCmd
  repeat' split
  all_goals first | exact .same | exact reach_openMainAsk _ reach_onGrant .same

theorem safe_closeMainCmd : closeMainCmd.Safe := safe_reach fun _ => reach_closeMainTaken _ reach_onGrant .same

theorem safe_clearLatchCmd : clearLatchCmd.Safe := safe_reach fun s => by
  unfold clearLatchCmd effect
  dsimp only
  split
  · exact reach_clearLatch .same
  · exact .same

theorem safe_startRegenCmd (x : Nat) : (startRegenCmd x).Safe := safe_reach fun s => by
  unfold startRegenCmd
  repeat' split
  all_goals first | exact .same | exact reach_rgsQueue _ _ _ _ reach_onGrant .same

theorem safe_cancelRegenCmd : cancelRegenCmd.Safe := safe_reach fun s => by
  unfold cancelRegenCmd
  split
  · exact .same
  · exact .same
  · exact reach_cancelQueued _ reach_onGrant .same
  · exact reach_cancelRun _ reach_onGrant .same

theorem safe_bypassOnCmd : bypassOnCmd.Safe := safe_reach fun s => by
  unfold bypassOnCmd
  repeat' split
  all_goals first | exact .same | exact reach_bypassOnTaken _ reach_onGrant .same

theorem safe_bypassOffCmd : bypassOffCmd.Safe := safe_reach fun s => by
  unfold bypassOffCmd
  repeat' split
  all_goals first | exact .same | exact reach_bypassOffTaken _ _ reach_onGrant .same

theorem safe_startBackwashCmd : startBackwashCmd.Safe := safe_reach fun s => by
  unfold startBackwashCmd
  repeat' split
  all_goals first | exact .same | exact reach_fltQueue _ _ _ reach_onGrant .same

theorem safe_startTestCmd : startTestCmd.Safe := safe_reach fun s => by
  unfold startTestCmd
  repeat' split
  all_goals first | exact .same | exact reach_testStart _ _ reach_onGrant .same

theorem safe_abortTestCmd : abortTestCmd.Safe := safe_reach fun _ => reach_abortTest _ reach_onGrant .same

theorem safe_saltRefilledCmd (mass : Nat) : (saltRefilledCmd mass).Safe := safe_checked fun _ s =>
  ((calm_setSalt _ s).trans (reach_calm (reach_judgeSalt (reach_setBridgeCount _ .same)))).safe

theorem safe_filterReplacedCmd (stage : Nat) : (filterReplacedCmd stage).Safe := fun s => by
  unfold filterReplacedCmd
  split
  · exact checked_safe s fun _ => reach_safe (reach_filterReplacedTaken _ .same)
  · exact safe_status _ s

theorem safe_clearRecordCmd : clearRecordCmd.Safe := fun _ => Calm.safe ⟨rfl, rfl⟩

theorem safe_clearFaultCmd (arg : Nat) : (clearFaultCmd arg).Safe := fun s => by
  unfold clearFaultCmd
  split
  · split
    · exact (calm_setRun ..).safe
    · exact safe_status _ s
  · split
    · exact safe_clearRecordCmd s
    · exact safe_status _ s

theorem safe_clearSlipCmd : clearSlipCmd.Safe := fun _ => Calm.safe ⟨rfl, rfl⟩

theorem safe_setTimeCmd (day second : Nat) : (setTimeCmd day second).Safe := safe_checked fun h s => by
  simp [firstFailing_none] at h
  refine ⟨⟨rfl, fun g => ?_, id⟩, rfl⟩
  obtain ⟨hf, hg, hr, hc, hb, hs, -, hp⟩ := g
  exact ⟨hf, hg, hr, hc, hb, hs, h, hp⟩

theorem safe_restartCmd : restartCmd.Safe := fun _ => Calm.safe ⟨rfl, rfl⟩

theorem safe_handlerOf {c : Instr} {tag : Byte} {h : Handler} (e : handlerOf c = some (tag, h)) : h.Safe := by
  cases c <;> simp only [handlerOf, Option.some.injEq, Prod.mk.injEq, reduceCtorEq] at e <;> obtain ⟨-, rfl⟩ := e
  case readEntry => exact safe_readEntry _ _
  case writeEntry => exact safe_writePlain _ _
  case writeEntryLane => exact safe_writeLane _ _
  case writeEntryReportField => exact safe_writeReportField _ _
  case writeEntryChannel => exact safe_writeChannel _ _
  case writeEntryPreset => exact safe_writePreset _ _
  case writeEntryTracker => exact safe_writeTracker _ _
  case writeEntryCurve => exact safe_checked fun _ s => (calm_setCurve _ _ s).safe
  case writeEntrySoftener => exact safe_writeSoftenerEntry _ _
  case writeEntryTank => exact safe_writeTankEntry _ _
  case writeEntrySalt => exact safe_writeSaltEntry _ _
  case writeEntryStage => exact safe_writeStageEntry _ _
  case writeEntryLeakRule => exact safe_writeLeakRuleEntry _ _
  case writeEntryActuator => exact safe_writeActuatorEntry _ _
  case readResult => exact safe_readResult _ _
  case readState => exact safe_readState _ _ _ _
  case readStateLane => exact safe_readState _ _ _ _
  case readStateTracker => exact safe_readState _ _ _ _
  case readStateActuator => exact safe_readState _ _ _ _
  case readStateTank => exact safe_readState _ _ _ _
  case readStateLeakGuard => exact safe_readState _ _ _ _
  case ackChanges => exact safe_ackChanges _ _
  case openMain => exact safe_openMainCmd
  case closeMain => exact safe_closeMainCmd
  case clearLeakLatch => exact safe_clearLatchCmd
  case startRegen => exact safe_startRegenCmd _
  case cancelRegen => exact safe_cancelRegenCmd
  case bypassOn => exact safe_bypassOnCmd
  case bypassOff => exact safe_bypassOffCmd
  case startBackwash => exact safe_startBackwashCmd
  case startLeakTest => exact safe_startTestCmd
  case abortLeakTest => exact safe_abortTestCmd
  case saltRefilled => exact safe_saltRefilledCmd _
  case filterReplaced => exact safe_filterReplacedCmd _
  case clearFault => exact safe_clearFaultCmd _
  case clearFaultRecord => exact safe_clearRecordCmd
  case clearSlip => exact safe_clearSlipCmd
  case setTime => exact safe_setTimeCmd _ _
  case restart => exact safe_restartCmd

theorem keeps_runRequest (c : Instr) (s : State) : Keeps s (runRequest c s) := by
  unfold runRequest
  split
  · exact keeps_answer (safe_handlerOf ‹_›) _ s
  · exact .refl s

/-- A request's command executes the request (R167). -/
theorem exec_request {c : Instr} {p : Byte × Handler} (h : handlerOf c = some p) (s : State) :
    exec c s = .next (runRequest c s) := by
  unfold runRequest
  rw [h]
  cases c <;> simp only [handlerOf, Option.some.injEq, reduceCtorEq] at h <;> subst h <;> rfl

/-! ### Messages -/

theorem keeps_closeMessage (bytes : List Byte) (n : Nat) (s : State) : Keeps s (closeMessage bytes n s) := by
  unfold closeMessage runMessage
  split
  · exact .refl s
  · dsimp only
    split
    · split
      · exact keeps_runRequest ..
      · exact keeps_answer (safe_status _) _ s
    · exact .refl s

theorem keeps_receiveByte (b : Byte) (s : State) : Keeps s (receiveByte b s) := by
  have received : Keeps s (setReceiver (receiverStep b s.mgu.rx).1 s) := keeps_setReceiver (receiverStep_bounded b)
  unfold receiveByte
  dsimp only
  split
  · exact received.trans (keeps_closeMessage ..)
  · exact received

theorem keeps_controlFrame (drive : Vector Byte 6) (first second : Byte) (s : State) :
    Keeps s (controlFrame drive first second s) := by
  have stored : Keeps s { s with link := { s.link with gwMissing := 0, gwSeen := true, driveBytes := drive } } :=
    ⟨rfl, fun ⟨hf, _, h⟩ => ⟨hf, Nat.zero_le _, h⟩, id⟩
  have received := (stored.trans (keeps_receiveByte first _)).trans (keeps_receiveByte second _)
  exact ⟨received.pending, received.counts, received.trackers⟩

theorem keeps_runTaken (p : Port) (bytes : List Byte) (framing : Bool) (s : State) :
    Keeps s (runTaken p bytes framing s) := by
  unfold runTaken
  dsimp only
  split
  · cases p with
    | frx => exact (keeps_settle s).trans (keeps_fieldFrame ..)
    | grx => exact keeps_controlFrame ..
  · exact .refl s

/-! ### The frame timer and the internal second -/

theorem keeps_missingFrame (s : State) : Keeps s (missingFrame s) := by
  have counted : Keeps s { s with link := { s.link with fieldMissing := satAdd 250 s.link.fieldMissing 1 } } :=
    ⟨rfl, fun ⟨_, h⟩ => ⟨Nat.min_le_left .., h⟩, id⟩
  have noticed := counted.trans (calm_lxMissing _).keeps
  exact ⟨noticed.pending, noticed.counts, noticed.trackers⟩

theorem keeps_timerField (s : State) : Keeps s (timerField s) := by
  unfold timerField
  split
  · exact ⟨rfl, id, id⟩
  · exact ⟨(keeps_missingFrame s).pending, (keeps_missingFrame s).counts, (keeps_missingFrame s).trackers⟩

theorem keeps_timerGateway (s : State) : Keeps s (timerGateway s) := by
  refine ⟨rfl, fun g => ?_, id⟩
  obtain ⟨hf, hg, hrest⟩ := g
  refine ⟨hf, ?_, hrest⟩
  simp only [timerGateway]
  split
  · exact hg
  · exact Nat.min_le_left ..

theorem keeps_frameTimer (s : State) : Keeps s (frameTimer s) := by
  have timers : Keeps s (timerGateway (timerField s)) := (keeps_timerField s).trans (keeps_timerGateway _)
  unfold frameTimer
  dsimp only
  split
  · exact timers
  · exact timers.trans (keeps_emissionTrigger _)

theorem keeps_nextSecond (s : State) : Keeps s (nextSecond s) := by
  refine ⟨rfl, fun g => ?_, id⟩
  obtain ⟨hf, hg, hr, hc, hb, -, hrest⟩ := g
  refine ⟨hf, hg, hr, hc, hb, ?_, hrest⟩
  have := Nat.mod_lt (s.mgu.seconds + 1) (y := max32 + 1) (by decide)
  simp only [nextSecond, wrapAdd]
  omega

theorem nextOfDay_le {n : Nat} (h : n ≤ 86399) : (nextOfDay n).1 ≤ 86399 := by
  unfold nextOfDay
  split
  · exact Nat.zero_le _
  · simp; omega

theorem keeps_calendarSecond (s : State) : Keeps s (calendarSecond s) := by
  refine keeps_ite fun _ => ⟨rfl, fun g => ?_, id⟩
  obtain ⟨hf, hg, hr, hc, hb, hs, hd, hp⟩ := g
  exact ⟨hf, hg, hr, hc, hb, hs, nextOfDay_le hd, hp⟩

theorem calm_actsSecond (s : State) : Calm s (actsSecond s) := foldl_calm _ (fun s a => calm_setRun a _ s) _ s

theorem reach_rgsSecond (h : Reach s t) : Reach s (rgsSecond t) := by
  unfold rgsSecond
  dsimp only
  split
  · exact reach_setRegenRun _ h
  · exact h.rgs ⟨rfl, .refl .., .refl ..⟩
  · exact h

theorem reach_fltSecond (h : Reach s t) : Reach s (fltSecond t) := by
  unfold fltSecond
  dsimp only
  split
  · exact reach_setBwRun _ h
  · exact h.flt ⟨rfl, fun _ => rfl⟩
  · exact h

theorem reach_tanksSecond (h : Reach s t) : Reach s (tanksSecond t) :=
  h.rgs ⟨rfl, ⟨rfl, .inl le_rfl, fun _ => Nat.min_le_left ..⟩, ⟨rfl, .inl le_rfl, fun _ => Nat.min_le_left ..⟩⟩

theorem reach_saltSecond (h : Reach s t) : Reach s (saltSecond t) := h.slt ⟨rfl, le_rfl⟩

/-- After ACT's timers, the counters of the second are operations of the machine's blocks. -/
theorem reach_countersSecond (s : State) : Reach (actsSecond s) (countersSecond s) :=
  reach_fltSecond (reach_stagesSecond (reach_saltSecond (reach_rgsSecond (reach_tanksSecond .same))))

theorem calm_countersSecond (s : State) : Calm s (countersSecond s) :=
  (calm_actsSecond s).trans (reach_calm (reach_countersSecond s))

theorem judgeHours_conf (h : Option Nat) (x : Rule) : (judgeHours h x).conf = x.conf := by
  unfold judgeHours
  repeat' split
  all_goals rfl

theorem judgeRate_conf (q : Nat) (x : Rule) : (judgeRate q x).conf = x.conf := by
  unfold judgeRate
  repeat' split
  all_goals rfl

theorem reach_rulesSecond (h : Reach s t) : Reach s (rulesSecond t) :=
  h.lkg ⟨rfl, rfl, fun i => by simp [apply_ite Rule.conf, judgeRate_conf, judgeHours_conf]⟩

theorem reach_zonesSecond (h : Reach s t) : Reach s (zonesSecond t) :=
  reach_raiseIf _ _ (h.lkg ⟨rfl, rfl, fun _ => rfl⟩)

theorem reach_drawSecond (h : Reach s t) : Reach s (drawSecond t) := by
  unfold drawSecond
  split
  · exact h.lkg ⟨rfl, rfl, fun _ => rfl⟩
  · exact h

theorem reach_lossSecond (h : Reach s t) : Reach s (lossSecond t) := by
  unfold lossSecond
  split
  · exact h
  · exact h.lkg ⟨rfl, rfl, fun _ => rfl⟩

theorem calm_measureSecond (s : State) : Calm s (measureSecond onGrant s) := by
  unfold measureSecond
  dsimp only
  split
  · split
    · exact (reach_calm (reach_measureCheck _ reach_onGrant .same)).after ⟨rfl, rfl⟩
    · exact ⟨rfl, rfl⟩
  · exact reach_calm (reach_measureCheck _ reach_onGrant (reach_putTest _ .same))

theorem calm_testSecond (s : State) : Calm s (testSecond onGrant s) := by
  unfold testSecond
  split
  · exact calm_measureSecond s
  · exact ⟨rfl, rfl⟩
  · exact ⟨rfl, rfl⟩
  · exact .refl s

theorem calm_guardSecond (s : State) : Calm s (guardSecond s) :=
  (reach_calm (reach_lossSecond (reach_drawSecond (reach_judgeZoneRules _ reach_onGrant
    (reach_zonesSecond (reach_rulesSecond .same)))))).trans (calm_testSecond _)

theorem calm_queueSecond (s : State) : Calm s (queueSecond s) := ⟨rfl, rfl⟩

theorem calm_retrySecond (s : State) : Calm s (retrySecond s) := ⟨rfl, rfl⟩

theorem keeps_secondPassed (s : State) : Keeps s (secondPassed s) :=
  ((keeps_nextSecond s).trans (keeps_calendarSecond _)).trans ((((calm_countersSecond _).trans
    (calm_guardSecond _)).trans (calm_retrySecond _)).trans (calm_queueSecond _)).keeps

/-! ### The warm restart and the end of a frame -/

theorem quiet_trkRestart (s : State) : Quiet s (trkRestart s) :=
  ⟨rfl, fun g i => by
    simp only [trkRestart, Fin.getElem_fin, Vector.getElem_ofFn]
    exact within_freshRun s i (g i).2.2.1 (g i).2.2.2⟩

theorem calm_lxRestart (s : State) : Calm s (lxRestart s) := by
  unfold lxRestart
  exact .of_parts rfl rfl rfl rfl rfl

theorem calm_mchRestart (s : State) : Calm s (mchRestart s) := by
  unfold mchRestart
  exact .of_parts rfl rfl rfl rfl rfl

theorem calm_rgsRestart (s : State) : Calm s (rgsRestart s) := by
  have run : Reach s (rgsRestartRun s) := by
    unfold rgsRestartRun
    split
    · exact reach_keepTank _ _ .same
    · split
      · exact reach_exhaustTank _ (reach_closeDraw _ .same)
      · exact .same
  exact .raised (by exact ⟨(reach_calm run).counted, (reach_calm run).trackers⟩) _ _

theorem calm_sltRestart (s : State) : Calm s (sltRestart s) := by
  unfold sltRestart
  refine reach_calm (reach_judgeSalt ?_)
  split
  · exact .same
  · exact reach_endRefillUnchecked .same

theorem calm_fltRestart (s : State) : Calm s (fltRestart s) := by
  have run : Reach s (fltRestartRun s) := by
    unfold fltRestartRun
    split
    · exact .same
    · exact reach_bwRecordEnd _ .same
  exact .raised (by exact ⟨(reach_calm run).counted, (reach_calm run).trackers⟩) _ _

theorem calm_lkgRestart (s : State) : Calm s (lkgRestart s) := by
  have test : Reach s (testRestart (setMain .unknown s)) := by
    unfold testRestart
    split
    · exact reach_setMain _ .same
    · exact reach_testIdle (reach_setResult _ (reach_setMain _ .same))
  obtain ⟨hc, ht⟩ := reach_calm (reach_zonesReported test)
  exact ⟨hc, ht⟩

theorem calm_accRestart (s : State) : Calm s (accRestart s) := ⟨rfl, rfl⟩

theorem calm_drainRestart (s : State) : Calm s (drainRestart s) := ⟨rfl, rfl⟩

theorem calm_actsRestart (s : State) : Calm s (actsRestart s) := foldl_calm _ (fun s a => calm_setRun a _ s) _ s

theorem keeps_mguRestart (s : State) : Keeps s (mguRestart s) := by
  refine ⟨rfl, fun g => ?_, id⟩
  obtain ⟨hf, hg, hr, -, -, hrest⟩ := g
  exact ⟨hf, hg, hr, Nat.zero_le _, Nat.zero_le _, hrest⟩

theorem keeps_warmRestart (s : State) : Keeps s (warmRestart s) := by
  have trk : Quiet s (trkRestart (mchRestart (lxRestart s))) :=
    (quiet_trkRestart _).after ((calm_lxRestart s).trans (calm_mchRestart _)).quiet
  have rgs := (trk.trans (calm_actsRestart _).quiet).trans (calm_rgsRestart _).quiet
  have acc := rgs.trans (calm_accRestart _).quiet
  have flt := (acc.trans (calm_sltRestart _).quiet).trans (calm_fltRestart _).quiet
  have drain := flt.trans (calm_drainRestart _).quiet
  have lkg := (drain.trans (calm_lkgRestart _).quiet).keeps
  exact lkg.trans (keeps_mguRestart _)

theorem keeps_frameEnd (p : OutPort) (s : State) : Keeps s (frameEnd p s) := by
  unfold frameEnd
  refine keeps_ite fun _ => ?_
  split
  · exact (keeps_warmRestart s).trans (keeps_afterFrame p _)
  · exact keeps_afterFrame p s

/-! ### Every command -/

theorem reset_countLaw : State.reset.countLaw := by
  refine ⟨by decide, by decide, by decide, by decide, by decide, by decide, by decide, fun i => ?_⟩
  simp [State.reset]

theorem reset_trackerLaw : State.reset.trackerLaw := fun i => by simp [State.reset, Tracker.reset, TrackerRun.idle]

theorem keeps_powerOn (s : State) : Keeps s (powerOn s) :=
  ⟨rfl, fun _ => reset_countLaw, fun _ => reset_trackerLaw⟩

/-- Every command keeps the queue as it stands and the laws of the counts and of the trackers. -/
theorem keeps_exec (c : Instr) (h : exec c s = .next t) : Keeps s t := by
  rcases hc : handlerOf c with _ | p
  · have event : ∀ {u}, exec c s = .next u → Keeps s u → Keeps s t := fun e k => by
      rw [e] at h; cases h; exact k
    have reached : ∀ {u}, exec c s = .next u → Reach s u → Keeps s t := fun e r => event e (reach_calm r).keeps
    cases c <;> simp only [handlerOf, reduceCtorEq] at hc
    case powerOnReset => exact event rfl (keeps_powerOn s)
    case goodFieldFrame slots => exact event rfl ((keeps_settle s).trans (keeps_fieldFrame slots _))
    case discardedRun p bytes framing => exact event rfl (keeps_runTaken p bytes framing s)
    case goodControlFrame drive a b => exact event rfl (keeps_controlFrame drive a b s)
    case frameTimerExpiry => exact event rfl ((keeps_settle s).trans (keeps_frameTimer _))
    case fieldLinkStale => exact event rfl (keeps_fieldStaleEvent s)
    case gatewayStale => exact event rfl (keeps_gatewayStaleEvent s)
    case transmitterFrameEnd p => exact event rfl (keeps_frameEnd p s)
    case channelResult ch => exact event rfl (quiet_channelResult ch s).keeps
    case periodTimeout ch => exact event rfl (quiet_periodTimeout ch s).keeps
    case windowAbandoned ch => exact event rfl (quiet_windowAbandoned ch s).keeps
    case arrival a => exact event rfl (calm_arrivalEvent a s).keeps
    case travelTimeout a => exact event rfl (calm_timeoutEvent a s).keeps
    case pauseExpiry a => exact event rfl (calm_pauseEvent a s).keeps
    case stall a => exact event rfl (calm_stallEvent a s).keeps
    case displacement a => exact event rfl (calm_displacementEvent a s).keeps
    case adoption a => exact event rfl (calm_adoptionEvent a s).keeps
    case drainGrant => exact reached rfl (reach_drainGrantEvent .same)
    case calendarRegenTrigger => exact reached rfl (reach_calendarRegenEvent .same)
    case regenStepEnd => exact reached rfl (reach_regenStepEndEvent .same)
    case settlingExpiry => exact reached rfl (reach_settlingEvent .same)
    case regenHoldLimit => exact reached rfl (reach_regenHoldEvent .same)
    case internalSecond => exact event rfl ((keeps_settle s).trans (keeps_secondPassed _))
    case stageDue st => exact reached rfl (reach_stageDueEvent st .same)
    case backwashDemand => exact reached rfl (reach_demandEvent .same)
    case backwashQueue => exact reached rfl (reach_queueEvent .same)
    case backwashStepEnd => exact reached rfl (reach_bwStepEndEvent .same)
    case backwashHoldLimit => exact reached rfl (reach_bwHoldEvent .same)
    case ruleTimerTrip r => exact reached rfl (reach_ruleTripEvent r .same)
    case drawEventEnd => exact reached rfl (reach_drawEndEvent .same)
    case zoneSilent z => exact reached rfl (reach_zoneSilentEvent z .same)
    case fieldLost => exact reached rfl (reach_fieldLostEvent .same)
    case latchedCloseRetry => exact reached rfl (reach_retryEvent .same)
    case testCalendarTrigger => exact reached rfl (reach_testCalendarEvent .same)
    case testWindowExpiry => exact reached rfl (reach_testWindowEvent .same)
    case testSettleExpiry => exact reached rfl (reach_testSettleEvent .same)
    case testMeasureExpiry => exact reached rfl (reach_testMeasureEvent .same)
  · rw [exec_request hc] at h
    cases h
    exact keeps_runRequest c s

end Sys2Proof.Machine

namespace Sys2Proof.Proofs

open Sys2Proof Sys2Proof.Machine

/-- Settles O56: every event and every request is one of the changes that keep both laws. -/
theorem everyCommandKeepsCountsAndEstimatesInRange : Obligations.EveryCommandKeepsCountsAndEstimatesInRange := by
  unfold Obligations.EveryCommandKeepsCountsAndEstimatesInRange
  intro c s t h
  have keeps := keeps_exec c h
  exact ⟨keeps.pending, keeps.counts, keeps.trackers⟩

end Sys2Proof.Proofs
end

section
/-! PROOFS. The step, the power-on reset and the runs of bytes. -/

namespace Sys2Proof.Machine

/-! ### The power-on values, table by table -/

theorem reset_lanes (i : Fin 32) : State.reset.lanes[i] = Lane.reset := by simp [State.reset]

theorem reset_channels (i : Fin 8) : State.reset.channels[i] = Channel.reset := by simp [State.reset]

theorem reset_presets (i : Fin 4) : State.reset.presets[i] = 1 := by simp [State.reset]

theorem reset_trackers (i : Fin 7) : State.reset.trackers[i] = Tracker.reset := by simp [State.reset]

theorem reset_act (a : Actr) : State.reset.act a = Actuator.reset := by cases a <;> rfl

theorem reset_tank (x : TankId) : State.reset.tank x = Tank.reset := by cases x <;> rfl

theorem step_cons (c : Instr) (rest : List Instr) (s : State) :
    step { s with pending := c :: rest } = exec c { s with pending := rest } := rfl

theorem step_nil {s : State} (h : s.pending = []) : step s = .next s := by
  unfold step
  rw [h]

/-! ### The laws at the power-on values -/

theorem reset_runTankLaw : State.reset.runTankLaw :=
  ⟨fun _ => (nomatch ·), rfl, fun _ => (nomatch ·), fun _ => (nomatch ·)⟩

theorem reset_latchLaw : State.reset.latchLaw := (nomatch ·)

theorem reset_mainLaw : State.reset.mainLaw := ⟨(nomatch ·), fun _ => rfl⟩

theorem reset_holderLaw : State.reset.holderLaw := by
  unfold State.holderLaw
  simp [State.reset, Rgs.reset, Flt.reset, Lkg.reset]

theorem reset_supplyLaw : State.reset.supplyLaw := by
  unfold State.supplyLaw
  simp [State.reset, Rgs.reset, Flt.reset]

theorem reset_drainLaw : State.reset.drainLaw := ⟨fun _ => (nomatch ·), fun _ => rfl, fun _ => (nomatch ·)⟩

/-! ### Runs of bytes (R1) -/

/-- What a receiver has collected of a run: all of it is counted, and at most one byte more than the length is kept. -/
theorem collect_eq (limit : Nat) (bytes : List Byte) (r : Receiver) (h : r.kept.length = min r.count (limit + 1)) :
    bytes.foldl (Receiver.collect limit) r
      = { r with kept := r.kept ++ bytes.take (limit + 1 - r.count), count := r.count + bytes.length } := by
  induction bytes generalizing r with
  | nil => simp
  | cons b bytes ih =>
    rw [List.foldl_cons]
    by_cases hc : r.count ≤ limit
    · have next : Receiver.collect limit r b = { r with kept := r.kept ++ [b], count := r.count + 1 } := by
        simp [Receiver.collect, hc]
      rw [next, ih _ (by simp [h]; omega)]
      have : limit + 1 - r.count = limit + 1 - (r.count + 1) + 1 := by omega
      simp [this]; omega
    · have next : Receiver.collect limit r b = { r with count := r.count + 1 } := by simp [Receiver.collect, hc]
      rw [next, ih _ (by simp [h]; omega)]
      have : limit + 1 - r.count = 0 := by omega
      have : limit + 1 - (r.count + 1) = 0 := by omega
      simp [*]; omega

theorem collectRun_eq (limit : Nat) (bytes : List Byte) (framing : Bool) :
    collectRun limit bytes framing
      = { kept := bytes.take (limit + 1), count := bytes.length, framing := framing } := by
  rw [collectRun, collect_eq _ _ _ (by simp [Receiver.empty])]
  simp [Receiver.empty]

/-- The checks of R1 on a run as it came. -/
theorem run_good_iff (p : Port) (bytes : List Byte) (framing : Bool) :
    (collectRun (frameLength p) bytes framing).good (frameLength p) = true ↔
      framing = false ∧ bytes.head? = some syncByte ∧ bytes.length = frameLength p
        ∧ crc8 ((bytes.drop 1).take (frameLength p - 2)) = bytes.getD (frameLength p - 1) 0 := by
  rw [collectRun_eq]
  by_cases hl : bytes.length = frameLength p
  · have : bytes.take (frameLength p + 1) = bytes := List.take_of_length_le (by omega)
    simp [Receiver.good, this, hl, and_assoc]
  · simp [Receiver.good, hl]

/-- A run that is no good frame is discarded whole. -/
theorem runTaken_bad {p : Port} {bytes : List Byte} {framing : Bool} (s : State)
    (h : (collectRun (frameLength p) bytes framing).good (frameLength p) = false) : runTaken p bytes framing s = s := by
  simp [runTaken, h]

theorem frameOf_length (contents : List Byte) : (frameOf contents).length = contents.length + 2 := by
  simp [frameOf]

/-- A byte of a frame's contents stands one place further in the frame. -/
theorem frameOf_getD (contents : List Byte) {i : Nat} (h : i < contents.length) :
    (frameOf contents).getD (i + 1) 0 = contents[i] := by
  simp [frameOf, List.getElem?_append_left h, h]

/-- The bytes of a frame as R176 lays it out pass the checks of R1. -/
theorem frameOf_good {p : Port} {contents : List Byte} (h : contents.length + 2 = frameLength p) :
    (collectRun (frameLength p) (frameOf contents) false).good (frameLength p) = true := by
  rw [run_good_iff, frameOf_length]
  refine ⟨rfl, rfl, h, ?_⟩
  have hc : frameLength p - 2 = contents.length := by omega
  have hl : frameLength p - 1 = contents.length + 1 := by omega
  simp [hc, hl, frameOf]

/-- What the receiver has kept of a frame's bytes is the frame. -/
theorem frameOf_kept {p : Port} {contents : List Byte} (h : contents.length + 2 = frameLength p) :
    (collectRun (frameLength p) (frameOf contents) false).kept = frameOf contents := by
  rw [collectRun_eq]
  exact List.take_of_length_le (by rw [frameOf_length]; omega)

theorem runTaken_fieldFrame (slots : Vector Byte 20) (s : State) :
    runTaken .frx (frameOf slots.toList) false s = fieldFrame slots (settle s) := by
  have hl : slots.toList.length + 2 = frameLength .frx := by simp [frameLength]
  unfold runTaken
  dsimp only
  have same : (Vector.ofFn fun i : Fin 20 => (frameOf slots.toList).getD (i.val + 1) 0) = slots := by
    ext1 i hi
    rw [Vector.getElem_ofFn, frameOf_getD _ (by simpa using hi)]
    simp
  rw [if_pos (frameOf_good hl), frameOf_kept hl, same]

theorem runTaken_controlFrame (drive : Vector Byte 6) (first second : Byte) (s : State) :
    runTaken .grx (frameOf (drive.toList ++ [first, second])) false s = controlFrame drive first second s := by
  have hl : (drive.toList ++ [first, second]).length + 2 = frameLength .grx := by simp [frameLength]
  unfold runTaken
  dsimp only
  have same : (Vector.ofFn fun i : Fin 6 => (frameOf (drive.toList ++ [first, second])).getD (i.val + 1) 0) = drive := by
    ext1 i hi
    rw [Vector.getElem_ofFn, frameOf_getD _ (by simp; omega), List.getElem_append_left (by simpa using hi)]
    simp
  rw [if_pos (frameOf_good hl), frameOf_kept hl, same, frameOf_getD (i := 6) _ (by simp),
    frameOf_getD (i := 7) _ (by simp)]
  simp

theorem exec_discardedRun (p : Port) (bytes : List Byte) (framing : Bool) (s : State) :
    exec (.discardedRun p bytes framing) s = .next (runTaken p bytes framing s) := rfl

theorem exec_goodFieldFrame (slots : Vector Byte 20) (s : State) :
    exec (.goodFieldFrame slots) s = .next (fieldFrame slots (settle s)) := rfl

theorem exec_goodControlFrame (drive : Vector Byte 6) (first second : Byte) (s : State) :
    exec (.goodControlFrame drive first second) s = .next (controlFrame drive first second s) := rfl

end Sys2Proof.Machine

namespace Sys2Proof.Proofs

open Sys2Proof Sys2Proof.Machine

/-- Settles O1. -/
theorem stepTakesTheFrontCommand : Obligations.StepTakesTheFrontCommand := by
  unfold Obligations.StepTakesTheFrontCommand
  exact ⟨step_cons, fun _ => step_nil⟩

/-- Settles O2: the command answers the reset state, whose tables hold their power-on entries. -/
theorem powerOnResetSetsThePowerOnValues : Obligations.PowerOnResetSetsThePowerOnValues := by
  unfold Obligations.PowerOnResetSetsThePowerOnValues
  intro s
  refine ⟨powerOn s, rfl, rfl, rfl, rfl, rfl, rfl, rfl, rfl, rfl, ?lanes, ?channels, reset_presets, ?trackers, ?acts,
    rfl, rfl, ⟨rfl, rfl, rfl⟩, rfl, rfl, rfl, rfl, rfl, ?tanks, rfl, rfl, rfl, rfl, rfl, rfl, rfl, rfl, rfl, rfl, rfl,
    rfl, rfl, rfl, rfl, rfl, rfl, rfl, rfl, rfl⟩
  case lanes =>
    intro i
    rw [show (powerOn s).lanes[i] = Lane.reset from reset_lanes i]
    exact ⟨rfl, rfl⟩
  case channels =>
    intro i
    rw [show (powerOn s).channels[i] = Channel.reset from reset_channels i]
    exact ⟨rfl, rfl, rfl, rfl⟩
  case trackers =>
    intro i
    rw [show (powerOn s).trackers[i] = Tracker.reset from reset_trackers i]
    exact ⟨rfl, rfl, rfl⟩
  case acts =>
    intro a
    rw [show (powerOn s).act a = Actuator.reset by cases a <;> rfl]
    exact ⟨rfl, rfl, rfl⟩
  case tanks =>
    intro x
    rw [show (powerOn s).tank x = Tank.reset by cases x <;> rfl]
    exact ⟨rfl, rfl⟩

/-- Settles O60. -/
theorem resetMeetsEveryLaw : Obligations.ResetMeetsEveryLaw := by
  unfold Obligations.ResetMeetsEveryLaw
  refine ⟨reset_countLaw, ?carry, ?tank, ?store, reset_supplyLaw, reset_drainLaw, reset_holderLaw, reset_mainLaw,
    reset_latchLaw, reset_runTankLaw, reset_trackerLaw, rfl⟩
  case carry => exact ⟨.inl rfl, .inl rfl, by decide⟩
  case tank => exact ⟨Nat.le_refl 0, Nat.le_refl 0, Nat.le_refl max32, Nat.le_refl max32, fun _ h => nomatch h⟩
  case store => exact Nat.le_refl 0

/-- Settles O6: the receiver's checks are those of R1 on the run as it came, and a frame's bytes meet them. -/
theorem aRunOfBytesIsJudgedByItsChecks : Obligations.ARunOfBytesIsJudgedByItsChecks := by
  unfold Obligations.ARunOfBytesIsJudgedByItsChecks
  refine ⟨fun p bytes framing s h => ?bad, fun slots s => ?field, fun drive first second s => ?control⟩
  case bad =>
    have : (collectRun (frameLength p) bytes framing).good (frameLength p) = false := by
      rw [Bool.eq_false_iff, Ne, run_good_iff]
      rintro ⟨hf, hs, hl, hc⟩
      rcases h with h | h | h | h
      · exact absurd (hf ▸ h) (by decide)
      · exact h hs
      · exact h hl
      · exact h hc
    rw [exec_discardedRun, runTaken_bad s this]
  case field => rw [exec_discardedRun, exec_goodFieldFrame, runTaken_fieldFrame]
  case control => rw [exec_discardedRun, exec_goodControlFrame, runTaken_controlFrame]

end Sys2Proof.Proofs
end

section
/-! PROOFS. Writes of the tables with no behaviour of their own, and of report fields, presets, curves and leak rules. -/

namespace Sys2Proof.Machine

/-! ### A request that is taken (R167) -/

theorem answer_taken {s : State} (hs : s.takesRequests) (tag : Byte) (h : Handler) :
    answer tag h s = pushReply tag (h s).2 (h s).1 := by
  obtain ⟨hp, hl⟩ := hs
  rcases answer_cases tag h s with ⟨hp', -⟩ | ⟨-, hl', -⟩ | ⟨-, -, e⟩
  · exact absurd (hp ▸ hp') (by decide)
  · omega
  · exact e

theorem exec_taken {s : State} (hs : s.takesRequests) {c : Instr} {tag : Byte} {h : Handler}
    (hc : handlerOf c = some (tag, h)) : exec c s = .next (pushReply tag (h s).2 (h s).1) := by
  rw [exec_request hc, runRequest, hc]
  exact congrArg Host.Outcome.next (answer_taken hs tag h)

/-- A write whose check passes is stored and answered OK. -/
theorem exec_stored {s t : State} (hs : s.takesRequests) {c : Instr} {tag : Byte} {h : Handler}
    (hc : handlerOf c = some (tag, h)) {f : State → State} {check : Option Status} (hk : h s = checked check f s)
    (hn : check = none) (ht : f s = t) : exec c s = .next (pushReply tag [0] t) := by
  rw [exec_taken hs hc, hk, hn, checked_none, ht]
  rfl

/-- A write whose check fails is answered with its refusal and changes nothing. -/
theorem exec_refused {s : State} (hs : s.takesRequests) {c : Instr} {tag : Byte} {h : Handler}
    (hc : handlerOf c = some (tag, h)) {f : State → State} {check : Option Status} {st : Status}
    (hk : h s = checked check f s) (hn : check = some st) : exec c s = .next (pushReply tag [st.byte] s) := by
  rw [exec_taken hs hc, hk, hn, checked_some]

/-! ### Checks in their order (R167) -/

theorem notIn_eq_false {lo hi n : Nat} : notIn lo hi n = false ↔ lo ≤ n ∧ n ≤ hi := by simp [notIn]

theorem outside_eq_false {lo hi : Nat} {o : Option Nat} :
    outside lo hi o = false ↔ ∀ n, o = some n → lo ≤ n ∧ n ≤ hi := by cases o <;> simp [outside]

theorem above_eq_false {bound : Nat} {o : Option Nat} : above bound o = false ↔ ∀ n, o = some n → n ≤ bound := by
  cases o <;> simp [above]

/-- Contents of no type are refused with the index first. -/
theorem checkTyped_above {α : Type} {top i : Nat} {check : α → Option Status} (h : top < i)
    (hc : ∀ x, check x = some .badIndex) (o : Option α) : checkTyped top i check o = some .badIndex := by
  cases o with
  | none => simp [checkTyped, h]
  | some x => exact hc x

theorem checkTyped_noType {α : Type} {top i : Nat} {check : α → Option Status} (h : i ≤ top) :
    checkTyped top i check none = some .range := by
  simp [checkTyped, Nat.not_lt.2 h]

/-! ### The checks of the plain tables -/

theorem regenStepRange_eq_false (x : RegenStep) : regenStepRange x = false ↔
    (1 ≤ x.duration ∧ x.duration ≤ 7200) ∧ (1 ≤ x.volume ∧ x.volume ≤ 65535)
      ∧ (1 ≤ x.timeout ∧ x.timeout ≤ 7200) ∧ x.allowance ≤ 6000 := by
  simp [regenStepRange, notIn_eq_false, and_assoc]

theorem volumeMisplaced_eq_false (x : RegenStep) : volumeMisplaced x = false ↔
    (x.endKind = .volume → x.pos = .brineDraw ∨ x.pos = .refill) := by
  cases he : x.endKind <;> cases hp : x.pos <;> simp [volumeMisplaced, he, hp]

theorem backwashStepRange_eq_false (x : BackwashStep) :
    (notIn 1 7200 x.duration || decide (6000 < x.allowance)) = false
      ↔ 1 ≤ x.duration ∧ x.duration ≤ 7200 ∧ x.allowance ≤ 6000 := by
  simp [notIn_eq_false, and_assoc]

theorem zoneWindowRange_eq_false (x : ZoneWindow) :
    (decide (255 < x.base) || decide (255 < x.mask) || decide (7 < x.zone)) = false
      ↔ x.base ≤ 255 ∧ x.mask ≤ 255 ∧ x.zone ≤ 7 := by
  simp [and_assoc]

theorem leakConfigRange_eq_false (x : LeakConfig) : leakConfigRange x = false ↔
    (1 ≤ x.gap ∧ x.gap ≤ 600) ∧ x.staleShut ≤ 3600
      ∧ (∀ n, x.silence = some n → 60 ≤ n ∧ n ≤ 604800) ∧ x.testHour ≤ 23
      ∧ (60 ≤ x.testWindow ∧ x.testWindow ≤ 7200) ∧ (10 ≤ x.settle ∧ x.settle ≤ 3600)
      ∧ (10 ≤ x.measure ∧ x.measure ≤ 3600) ∧ (1 ≤ x.demand ∧ x.demand ≤ 2000) ∧ x.decay ≤ 2000
      ∧ x.failToShut ≤ 7 := by
  simp [leakConfigRange, notIn_eq_false, outside_eq_false, and_assoc]

/-- An index of the table, then a range check and a conflict check. -/
theorem checks_passed {top i : Nat} {r c : Bool} (hi : i ≤ top) (hr : r = false) (hc : c = false) :
    firstFailing [(decide (top < i), .badIndex), (r, .range), (c, .conflict)] = none := by
  rw [decide_eq_false (Nat.not_lt.2 hi), hr, hc]; rfl

theorem checks_badIndex {top i : Nat} (hi : top < i) (rest : List (Bool × Status)) :
    firstFailing ((decide (top < i), .badIndex) :: rest) = some .badIndex := by
  rw [decide_eq_true hi]; rfl

theorem checks_range {top i : Nat} {r : Bool} (hi : i ≤ top) (hr : ¬ r = false) (rest : List (Bool × Status)) :
    firstFailing ((decide (top < i), .badIndex) :: (r, .range) :: rest) = some .range := by
  rw [decide_eq_false (Nat.not_lt.2 hi), Bool.eq_true_of_not_eq_false hr]; rfl

theorem checks_conflict {top i : Nat} {r c : Bool} (hi : i ≤ top) (hr : r = false) (hc : ¬ c = false) :
    firstFailing [(decide (top < i), .badIndex), (r, .range), (c, .conflict)] = some .conflict := by
  rw [decide_eq_false (Nat.not_lt.2 hi), hr, Bool.eq_true_of_not_eq_false hc]; rfl

theorem checks_two_passed {top i : Nat} {r : Bool} (hi : i ≤ top) (hr : r = false) :
    firstFailing [(decide (top < i), .badIndex), (r, .range)] = none := by
  rw [decide_eq_false (Nat.not_lt.2 hi), hr]; rfl

/-- A table of one entry. -/
theorem nonzero_badIndex {i : Nat} (hi : 0 < i) (rest : List (Bool × Status)) :
    firstFailing ((i != 0, .badIndex) :: rest) = some .badIndex := by
  rw [show (i != 0) = true by simpa using hi.ne']; rfl

theorem checkLeakConfig_passed {x : LeakConfig} (hr : leakConfigRange x = false) : checkLeakConfig 0 x = none := by
  rw [checkLeakConfig, hr]; rfl

theorem checkLeakConfig_range {x : LeakConfig} (hr : ¬ leakConfigRange x = false) :
    checkLeakConfig 0 x = some .range := by
  rw [checkLeakConfig, Bool.eq_true_of_not_eq_false hr]; rfl

/-! ### Report fields, curves and leak rules -/

theorem reportRange_eq_false (f : ReportField) :
    (decide (5 < f.slot) || decide (7 < f.start) || notIn 1 8 f.width || decide (8 < f.start + f.width)) = false
      ↔ f.slot ≤ 5 ∧ f.start ≤ 7 ∧ (1 ≤ f.width ∧ f.width ≤ 8) ∧ f.start + f.width ≤ 8 := by
  simp [notIn_eq_false, and_assoc]

theorem fieldsMeet_eq_false {s1 w1 s2 w2 : Nat} : fieldsMeet s1 w1 s2 w2 = false ↔ s2 + w2 ≤ s1 ∨ s1 + w1 ≤ s2 := by
  simp [fieldsMeet]; omega

/-- A descriptor's bits stand apart from those of every other enabled descriptor of its slot. -/
theorem reportOverlap_eq_false (s : State) (i : Fin 24) (f : ReportField) : reportOverlap s i.val f = false ↔
    (f.enabled = true → ∀ j : Fin 24, j ≠ i → s.link.reportFields[j].enabled = true →
      s.link.reportFields[j].slot = f.slot →
      s.link.reportFields[j].start + s.link.reportFields[j].width ≤ f.start
        ∨ f.start + f.width ≤ s.link.reportFields[j].start) := by
  unfold reportOverlap
  cases f.enabled
  · simp
  · simp [Fin.ext_iff, fieldsMeet_eq_false]

theorem rises_iff (pts : List (Nat × Nat)) :
    rises pts = true ↔ pts.Pairwise fun p q => p.1 < q.1 ∧ p.2 ≤ q.2 := by
  induction pts with
  | nil => simp [rises]
  | cons p rest ih =>
    cases rest with
    | nil => simp [rises]
    | cons q rest =>
      rw [rises, Bool.and_eq_true, ih, List.pairwise_cons (a := p)]
      refine and_congr_left fun hrest => ⟨fun h => ?first, fun h => by simpa using h q (by simp)⟩
      have hq : p.1 < q.1 ∧ p.2 ≤ q.2 := by simpa using h
      intro r hr
      rcases List.mem_cons.1 hr with rfl | hr
      · exact hq
      · have := (List.pairwise_cons.1 hrest).1 r hr
        omega

theorem pointsOutside_eq_false {x y : Nat} (pts : List (Nat × Nat)) :
    (pts.any fun p => decide (x < p.1) || decide (y < p.2)) = false ↔ ∀ p ∈ pts, p.1 ≤ x ∧ p.2 ≤ y := by
  simp

theorem curveRange_eq_false (id : CurveId) (pts : List (Nat × Nat)) : curveRange id pts = false ↔
    pts.length ≠ 1 ∧ pts.length ≤ 8
      ∧ (∀ p ∈ pts, p.1 ≤ (match id with | .efficiency => 1000 | _ => 4000)
          ∧ p.2 ≤ (match id with | .hardness => 2000 | .brine => 400 | .efficiency => 1024))
      ∧ pts.Pairwise fun p q => p.1 < q.1 ∧ p.2 ≤ q.2 := by
  rw [← rises_iff]
  simp only [curveRange, Bool.or_eq_false_iff, pointsOutside_eq_false, and_assoc]
  cases id <;> simp [curveTops]

theorem checkCurve_passed {id : CurveId} {pts : List (Nat × Nat)} (hr : curveRange id pts = false) :
    checkCurve id 0 pts = none := by
  rw [checkCurve, hr]; rfl

theorem checkCurve_range {id : CurveId} {pts : List (Nat × Nat)} (hr : ¬ curveRange id pts = false) :
    checkCurve id 0 pts = some .range := by
  rw [checkCurve, Bool.eq_true_of_not_eq_false hr]; rfl

theorem setCurve_curve (id : CurveId) (pts : List (Nat × Nat)) (s : State) : (setCurve id pts s).curve id = pts := by
  cases id <;> rfl

theorem setCurve_curve_ne {id id' : CurveId} (h : id' ≠ id) (pts : List (Nat × Nat)) (s : State) :
    (setCurve id pts s).curve id' = s.curve id' := by
  cases id <;> cases id'
  case hardness.hardness | brine.brine | efficiency.efficiency => exact absurd rfl h
  all_goals rfl

theorem leakRuleRange_eq_false (c : LeakRule) : leakRuleRange c = false ↔
    c.rateLo ≤ 6000 ∧ c.rateHi ≤ 6000 ∧ (1 ≤ c.duration ∧ c.duration ≤ 65535)
      ∧ (1 ≤ c.volume ∧ c.volume ≤ 1000000) ∧ ∀ z, c.zone = some z → z ≤ 7 := by
  simp [leakRuleRange, notIn_eq_false, above_eq_false, and_assoc]

theorem trickleOrder_eq_false (c : LeakRule) :
    (c.kind == .trickle && decide (c.rateHi < c.rateLo)) = false ↔ (c.kind = .trickle → c.rateLo ≤ c.rateHi) := by
  cases h : c.kind <;> simp

theorem checkLeakRule_passed {c : LeakRule} (hr : leakRuleRange c = false)
    (ho : c.kind = .trickle → c.rateLo ≤ c.rateHi) : checkLeakRule c = none := by
  rw [checkLeakRule, hr, (trickleOrder_eq_false c).2 ho]; rfl

theorem checkLeakRule_range {c : LeakRule} (hr : ¬ leakRuleRange c = false) : checkLeakRule c = some .range := by
  rw [checkLeakRule, Bool.eq_true_of_not_eq_false hr]; rfl

theorem checkLeakRule_conflict {c : LeakRule} (hr : leakRuleRange c = false)
    (ho : ¬ (c.kind = .trickle → c.rateLo ≤ c.rateHi)) : checkLeakRule c = some .conflict := by
  rw [checkLeakRule, hr, Bool.eq_true_of_not_eq_false (mt (trickleOrder_eq_false c).1 ho)]; rfl

/-- A written rule stands ARMED with its counts at 0, or DORMANT outside its active hours (R154). -/
theorem writeRule_eq (i : Fin 16) (c : LeakRule) (s : State) : writeRule i c s = setRule i
    { conf := c, st := if c.enabled = true ∧ insideHours c s.hour = false then .dormant else .armed, timer := 0
      trips := 0, lastTrip := none } s := by
  unfold writeRule rearmed
  cases c.enabled <;> cases insideHours c s.hour <;> rfl

end Sys2Proof.Machine

namespace Sys2Proof.Proofs

open Sys2Proof Sys2Proof.Machine

/-- Settles O44: each table's checks in their order, and what its write stores. -/
theorem plainTablesAreWritten : Obligations.PlainTablesAreWritten := by
  unfold Obligations.PlainTablesAreWritten
  intro tag s hs
  refine ⟨fun i b => ?const, fun i b => ?mask, fun i b hi => ⟨?constIndex, ?maskIndex⟩, fun i x => ⟨fun hr hp => ?step,
    fun hr => ?stepRange, fun hr hp => ?stepConflict⟩, fun i x hi => ?stepIndex, fun i x => ⟨fun hr => ?wash,
    fun hr => ?washRange⟩, fun i x hi => ?washIndex, fun i x => ⟨fun hr => ?window, fun hr => ?windowRange⟩,
    fun i x hi => ?windowIndex, fun x => ⟨fun hr => ?config, fun hr => ?configRange⟩, fun i x hi => ?configIndex,
    fun i n => ?unusable, fun i => ⟨?stepType, ?windowType⟩⟩
  case const =>
    exact exec_stored hs rfl rfl (by simp [firstFailing]; omega) (dif_pos i.isLt)
  case mask =>
    exact exec_stored hs rfl rfl (by simp [firstFailing]; omega) (dif_pos i.isLt)
  case constIndex => exact exec_refused hs rfl rfl (checks_badIndex hi _)
  case maskIndex => exact exec_refused hs rfl rfl (checks_badIndex hi _)
  case step =>
    exact exec_stored hs rfl rfl (checks_passed (Nat.le_of_lt_succ i.isLt) ((regenStepRange_eq_false x).2 hr)
      ((volumeMisplaced_eq_false x).2 hp)) (dif_pos i.isLt)
  case stepRange =>
    exact exec_refused hs rfl rfl (checks_range (Nat.le_of_lt_succ i.isLt) (mt (regenStepRange_eq_false x).1 hr) _)
  case stepConflict =>
    exact exec_refused hs rfl rfl (checks_conflict (Nat.le_of_lt_succ i.isLt) ((regenStepRange_eq_false x).2 hr)
      (mt (volumeMisplaced_eq_false x).1 hp))
  case stepIndex => exact exec_refused hs rfl rfl (checkTyped_above hi (fun _ => checks_badIndex hi _) x)
  case wash =>
    exact exec_stored hs rfl rfl (checks_two_passed (Nat.le_of_lt_succ i.isLt) ((backwashStepRange_eq_false x).2 hr))
      (dif_pos i.isLt)
  case washRange =>
    exact exec_refused hs rfl rfl (checks_range (Nat.le_of_lt_succ i.isLt) (mt (backwashStepRange_eq_false x).1 hr) _)
  case washIndex => exact exec_refused hs rfl rfl (checkTyped_above hi (fun _ => checks_badIndex hi _) x)
  case window =>
    exact exec_stored hs rfl rfl (checks_two_passed (Nat.le_of_lt_succ i.isLt) ((zoneWindowRange_eq_false x).2 hr))
      (dif_pos i.isLt)
  case windowRange =>
    exact exec_refused hs rfl rfl (checks_range (Nat.le_of_lt_succ i.isLt) (mt (zoneWindowRange_eq_false x).1 hr) _)
  case windowIndex => exact exec_refused hs rfl rfl (checkTyped_above hi (fun _ => checks_badIndex hi _) x)
  case config =>
    exact exec_stored hs rfl rfl (checkLeakConfig_passed ((leakConfigRange_eq_false x).2 hr)) rfl
  case configRange =>
    exact exec_refused hs rfl rfl (checkLeakConfig_range (mt (leakConfigRange_eq_false x).1 hr))
  case configIndex =>
    exact exec_refused hs rfl rfl (checkTyped_above hi (fun _ => nonzero_badIndex hi _) x)
  case unusable =>
    rw [exec_taken hs rfl]
    show Host.Outcome.next (pushReply tag [(if 19 < n then Status.badTable else .malformed).byte] s) = _
    split <;> rfl
  case stepType =>
    exact exec_refused (check := checkTyped 7 i.val (checkRegenStep i.val) none) (f := id) hs rfl rfl
      (checkTyped_noType (Nat.le_of_lt_succ i.isLt))
  case windowType =>
    exact exec_refused (check := checkTyped 7 i.val (checkZoneWindow i.val) none) (f := id) hs rfl rfl
      (checkTyped_noType (Nat.le_of_lt_succ i.isLt))

/-- Settles O45. -/
theorem fieldsPresetsCurvesAndRulesAreWritten : Obligations.FieldsPresetsCurvesAndRulesAreWritten := by
  unfold Obligations.FieldsPresetsCurvesAndRulesAreWritten
  intro tag s hs
  refine ⟨fun i f => ⟨fun hr ha => ?field, fun hr => ?fieldRange, fun hr ha => ?fieldConflict⟩, fun i f hi => ?fieldIndex,
    fun i r => ⟨fun hr => ?preset, fun hr => ?presetRange⟩, fun i r hi => ?presetIndex,
    fun id pts => ⟨fun hg => ?curve, fun hg => ?curveRange, fun i hi => ?curveIndex⟩,
    fun i c => ⟨fun hr ho => ?rule, fun hr => ?ruleRange, fun hr ho => ?ruleConflict⟩, fun i c hi => ?ruleIndex⟩
  case field =>
    exact exec_stored hs rfl rfl (checks_passed (Nat.le_of_lt_succ i.isLt) ((reportRange_eq_false f).2 hr)
      ((reportOverlap_eq_false s i f).2 ha)) (dif_pos i.isLt)
  case fieldRange =>
    exact exec_refused (h := writeReportField i.val (some f)) hs rfl rfl
      (checks_range (Nat.le_of_lt_succ i.isLt) (mt (reportRange_eq_false f).1 hr) _)
  case fieldConflict =>
    exact exec_refused (h := writeReportField i.val (some f)) hs rfl rfl
      (checks_conflict (Nat.le_of_lt_succ i.isLt) ((reportRange_eq_false f).2 hr) (mt (reportOverlap_eq_false s i f).1 ha))
  case fieldIndex =>
    exact exec_refused (h := writeReportField i f) hs rfl rfl (checkTyped_above hi (fun _ => checks_badIndex hi _) f)
  case preset =>
    exact exec_stored hs rfl rfl (checks_two_passed (Nat.le_of_lt_succ i.isLt) (notIn_eq_false.2 hr)) (dif_pos i.isLt)
  case presetRange =>
    exact exec_refused hs rfl rfl (checks_range (Nat.le_of_lt_succ i.isLt) (mt notIn_eq_false.1 hr) _)
  case presetIndex => exact exec_refused hs rfl rfl (checks_badIndex hi _)
  case curve =>
    refine ⟨_, exec_stored hs rfl rfl (checkCurve_passed ((curveRange_eq_false id pts).2 hg)) rfl, ?_⟩
    exact ⟨setCurve_curve id pts s, fun id' h => setCurve_curve_ne h pts s, by cases id <;> rfl, by cases id <;> rfl⟩
  case curveRange =>
    exact exec_refused hs rfl rfl (checkCurve_range (mt (curveRange_eq_false id pts).1 hg))
  case curveIndex => exact exec_refused hs rfl rfl (nonzero_badIndex hi _)
  case rule =>
    refine exec_stored (h := writeLeakRuleEntry i.val (some c)) hs rfl (dif_pos i.isLt)
      (checkLeakRule_passed ((leakRuleRange_eq_false c).2 hr) ho) ?_
    exact writeRule_eq i c s
  case ruleRange =>
    exact exec_refused (h := writeLeakRuleEntry i.val (some c)) hs rfl (dif_pos i.isLt)
      (checkLeakRule_range (mt (leakRuleRange_eq_false c).1 hr))
  case ruleConflict =>
    exact exec_refused (h := writeLeakRuleEntry i.val (some c)) hs rfl (dif_pos i.isLt)
      (checkLeakRule_conflict ((leakRuleRange_eq_false c).2 hr) ho)
  case ruleIndex =>
    rw [exec_taken (h := writeLeakRuleEntry i c) hs rfl,
      show writeLeakRuleEntry i c s = status .badIndex s from dif_neg (by omega)]
    rfl

end Sys2Proof.Proofs
end

section
/-! PROOFS. Emission triggers: what a trigger leaves unchanged and what the frames it starts are composed of. -/

namespace Sys2Proof.Machine

variable {s t u : State}

/-- The state with its transmitters, its reply queue and its place in the oldest reply replaced: what a trigger changes. -/
def State.onAir (s : State) (g f : Transmitter) (replies : List Reply) (sent : Option Nat) : State :=
  { s with link := { s.link with gtx := g, ftx := f }, mgu := { s.mgu with replies := replies, sent := sent } }

/-! ### A frame's contents do not depend on the transmitters -/

theorem fieldSlots_onAir (s : State) (g f : Transmitter) (r : List Reply) (n : Option Nat) :
    fieldSlots (s.onAir g f r n) = fieldSlots s := rfl

theorem driveSlots_onAir (s : State) (g f : Transmitter) (r : List Reply) (n : Option Nat) :
    driveSlots (s.onAir g f r n) = driveSlots s := by
  have act (a : Actr) : (s.onAir g f r n).act a = s.act a := by cases a <;> rfl
  have overlay (slot : Nat) : overlayDrive (s.onAir g f r n) slot = overlayDrive s slot := by
    funext v a
    simp only [overlayDrive, act]
  have slot : driveSlot (s.onAir g f r n) = driveSlot s := by
    funext i
    simp only [driveSlot, overlay]
    rfl
  rw [driveSlots, slot]
  rfl

theorem indicator_onAir (s : State) (g f : Transmitter) (r : List Reply) (n : Option Nat) (i : Indicator) :
    indicator (s.onAir g f r n) i = indicator s i := by
  cases i <;> rfl

theorem reportSlots_onAir (s : State) (g f : Transmitter) (r : List Reply) (n : Option Nat) :
    reportSlots (s.onAir g f r n) = reportSlots s := by
  have overlay (slot : Nat) : overlayField (s.onAir g f r n) slot = overlayField s slot := by
    funext v x
    simp only [overlayField, indicator_onAir]
  have slot : reportSlot (s.onAir g f r n) = reportSlot s := by
    funext i
    simp only [reportSlot, overlay]
    rfl
  rw [reportSlots, slot]
  rfl

/-! ### The reply transmitter moves on by itself -/

theorem offerByte_eq (s : State) : offerByte s = { s with
    mgu := { s.mgu with replies := (offerByte s).mgu.replies, sent := (offerByte s).mgu.sent } } := by
  obtain ⟨rest, sent, e, -⟩ := offerByte_cases s
  rw [e]

theorem offeredByte_congr (hr : t.mgu.replies = s.mgu.replies) (hs : t.mgu.sent = s.mgu.sent) :
    offeredByte t = offeredByte s := by
  rw [offeredByte, offeredByte, hr, hs]

theorem offerByte_congr (hr : t.mgu.replies = s.mgu.replies) (hs : t.mgu.sent = s.mgu.sent) :
    (offerByte t).mgu.replies = (offerByte s).mgu.replies ∧ (offerByte t).mgu.sent = (offerByte s).mgu.sent := by
  unfold offerByte
  rw [hr, hs]
  cases hq : s.mgu.replies with
  | nil =>
    dsimp only
    exact ⟨by rw [hr, hq], hs⟩
  | cons r rest =>
    dsimp only [afterByte]
    split
    · exact ⟨rfl, rfl⟩
    · exact ⟨hr, rfl⟩

theorem offerTwice_congr (hr : t.mgu.replies = s.mgu.replies) (hs : t.mgu.sent = s.mgu.sent) :
    (offerByte (offerByte t)).mgu.replies = (offerByte (offerByte s)).mgu.replies
      ∧ (offerByte (offerByte t)).mgu.sent = (offerByte (offerByte s)).mgu.sent :=
  offerByte_congr (offerByte_congr hr hs).1 (offerByte_congr hr hs).2

/-! ### A trigger at a port -/

theorem startReport_eq (s : State) : startReport s = s.onAir { sending := some (reportFrame s), waiting := false }
    s.link.ftx (offerByte (offerByte s)).mgu.replies (offerByte (offerByte s)).mgu.sent := by
  unfold startReport
  dsimp only
  rw [offerByte_eq (offerByte s), offerByte_eq s]
  rfl

theorem triggerPort_gtx_idle (h : s.link.gtx.sending = none) : triggerPort .gtx s = startReport s := by
  simp [triggerPort, State.transmitter, startFrame, h]

theorem triggerPort_gtx_sending {x : List Byte} (h : s.link.gtx.sending = some x) : triggerPort .gtx s
    = s.onAir { sending := some x, waiting := true } s.link.ftx s.mgu.replies s.mgu.sent := by
  simp [triggerPort, State.transmitter, setTransmitter, h, State.onAir]

theorem triggerPort_ftx_idle (h : s.link.ftx.sending = none) : triggerPort .ftx s
    = s.onAir s.link.gtx { sending := some (driveFrame s), waiting := false } s.mgu.replies s.mgu.sent := by
  simp [triggerPort, State.transmitter, startFrame, startDrive, h, State.onAir]

theorem triggerPort_ftx_sending {x : List Byte} (h : s.link.ftx.sending = some x) : triggerPort .ftx s
    = s.onAir s.link.gtx { sending := some x, waiting := true } s.mgu.replies s.mgu.sent := by
  simp [triggerPort, State.transmitter, setTransmitter, h, State.onAir]

/-- The report transmitter and the replies after a trigger. -/
def State.triggeredGtx (s : State) : Transmitter :=
  match s.link.gtx.sending with
  | none => { sending := some (reportFrame s), waiting := false }
  | some x => { sending := some x, waiting := true }

/-- The drive transmitter after a trigger. -/
def State.triggeredFtx (s : State) : Transmitter :=
  match s.link.ftx.sending with
  | none => { sending := some (driveFrame s), waiting := false }
  | some x => { sending := some x, waiting := true }

/-- The reply transmitter after a trigger, as a state. -/
def State.triggeredOffer (s : State) : State :=
  match s.link.gtx.sending with
  | none => offerByte (offerByte s)
  | some _ => s

theorem triggerPort_gtx (s : State) : triggerPort .gtx s
    = s.onAir s.triggeredGtx s.link.ftx s.triggeredOffer.mgu.replies s.triggeredOffer.mgu.sent := by
  unfold State.triggeredGtx State.triggeredOffer
  cases h : s.link.gtx.sending with
  | none => rw [triggerPort_gtx_idle h, startReport_eq]
  | some x => exact triggerPort_gtx_sending h

theorem triggerPort_ftx (s : State) : triggerPort .ftx s
    = s.onAir s.link.gtx s.triggeredFtx s.mgu.replies s.mgu.sent := by
  unfold State.triggeredFtx
  cases h : s.link.ftx.sending with
  | none => exact triggerPort_ftx_idle h
  | some x => exact triggerPort_ftx_sending h

theorem triggeredFtx_onAir (s : State) (g : Transmitter) (r : List Reply) (n : Option Nat) :
    (s.onAir g s.link.ftx r n).triggeredFtx = s.triggeredFtx := by
  unfold State.triggeredFtx driveFrame
  rw [driveSlots_onAir]
  rfl

/-- A trigger changes the transmitters and the reply transmitter alone. -/
theorem emissionTrigger_eq (s : State) : emissionTrigger s
    = s.onAir s.triggeredGtx s.triggeredFtx s.triggeredOffer.mgu.replies s.triggeredOffer.mgu.sent := by
  rw [emissionTrigger, triggerPort_gtx, triggerPort_ftx, triggeredFtx_onAir]
  rfl

/-- A trigger met with the transmitters and the replies of `u` does what a trigger does for `u`. -/
theorem emissionTrigger_triggered (hg : s.link.gtx = u.link.gtx) (hf : s.link.ftx = u.link.ftx)
    (hr : s.mgu.replies = u.mgu.replies) (hs : s.mgu.sent = u.mgu.sent) : u.triggered (emissionTrigger s) := by
  obtain ⟨offered, sent⟩ := offerTwice_congr hr hs
  obtain ⟨one, two⟩ := offerByte_congr hr hs
  rw [emissionTrigger_eq]
  refine ⟨fun p f h => ?sending, fun h => ?drive, fun h => ⟨?report, ?replies, ?sent⟩, fun h => ?quiet⟩
  case sending =>
    cases p with
    | gtx =>
      have h : u.link.gtx.sending = some f := h
      simp [State.transmitter, State.onAir, State.triggeredGtx, hg, h]
    | ftx =>
      have h : u.link.ftx.sending = some f := h
      simp [State.transmitter, State.onAir, State.triggeredFtx, hf, h]
  case drive =>
    rw [driveSlots_onAir]
    simp [State.onAir, State.triggeredFtx, hf, h, driveFrame]
  case report =>
    rw [fieldSlots_onAir, reportSlots_onAir, ← offeredByte_congr hr hs, ← offeredByte_congr one two]
    simp [State.onAir, State.triggeredGtx, hg, h, reportFrame]
  case replies => simpa [State.onAir, State.triggeredOffer, hg, h] using offered
  case sent => simpa [State.onAir, State.triggeredOffer, hg, h] using sent
  case quiet =>
    obtain ⟨x, hx⟩ := Option.ne_none_iff_exists'.1 h
    simp [State.onAir, State.triggeredOffer, hg, hx, hr, hs]

end Sys2Proof.Machine
end

section
/-! PROOFS. The links: staleness, the frame timer and a good field frame. -/

namespace Sys2Proof.Machine

variable {s t u : State}

/-! ### A fold that goes to each entry once -/

/-- A step of a fold changes its own entry, by what it reads there and in `env`, which no step changes. -/
theorem foldl_each {σ α β ε : Type} [DecidableEq α] (f : σ → α → σ) (get : σ → α → β) (env : σ → ε) (g : ε → α → β → β)
    (henv : ∀ s i, env (f s i) = env s)
    (hf : ∀ s i j, get (f s i) j = if j = i then g (env s) i (get s i) else get s j) (l : List α) (hl : l.Nodup) (s : σ)
    (j : α) : get (l.foldl f s) j = if j ∈ l then g (env s) j (get s j) else get s j := by
  induction l generalizing s with
  | nil => rfl
  | cons i l ih =>
    obtain ⟨hi, hl⟩ := List.nodup_cons.1 hl
    rw [List.foldl_cons, ih hl, henv, hf]
    by_cases e : j = i
    · subst e; simp [hi]
    · simp [e]

/-! ### The trackers at a notice of staleness (R51) -/

theorem reach_moveTracker (i : Fin 7) (r : TrackerRun) (s : State) :
    Reach (setTracker i { s.trackers[i] with run := r } s) (moveTracker i r s) := by
  unfold moveTracker
  dsimp only
  split
  · exact reach_judgeSalt (reach_raiseIf _ _ .same)
  · exact reach_raiseIf _ _ .same

theorem flagSet_moveTracker {f : Flag} (i : Fin 7) (r : TrackerRun) (h : s.flagSet f) : (moveTracker i r s).flagSet f :=
  reach_flagSet (reach_moveTracker i r s) f h

/-- A tracker at a notice of staleness. -/
def Tracker.stale (x : Tracker) : Tracker := if takesResults x then { x with run := holdRun x.run } else x

theorem trkStale_trackers (s : State) (i : Fin 7) : (trkStale s).trackers[i] = s.trackers[i].stale := by
  have each := foldl_each (fun s i => if takesResults s.trackers[i] then moveTracker i (holdRun s.trackers[i].run) s else s)
    (fun s i => s.trackers[i]) (fun _ => ()) (fun _ _ x => x.stale) (fun _ _ => rfl) ?_ (List.finRange 7)
    (List.nodup_finRange 7) s i
  · rwa [if_pos (List.mem_finRange i)] at each
  · intro s i j
    dsimp only [Tracker.stale]
    by_cases e : j = i
    · subst e
      split <;> simp [moveTracker_trackers, *]
    · have : ¬ i.val = j.val := fun h => e (Fin.ext h.symm)
      split <;> simp [moveTracker_trackers, *]

theorem flagSet_trkStale {f : Flag} (h : s.flagSet f) : (trkStale s).flagSet f := by
  unfold trkStale
  refine List.foldlRecOn (motive := fun (s : State) => s.flagSet f) _ _ h fun s hs i _ => ?_
  split
  · exact flagSet_moveTracker _ _ hs
  · exact hs

/-- Outside the blocks' own states and the trackers, a change that TRK made and the blocks went on with. -/
theorem parts_of_offTracks (h : t.offTracks = s.offTracks) (g : Reach t u) : u.link = s.link ∧ u.lanes = s.lanes
    ∧ u.channels = s.channels ∧ u.presets = s.presets ∧ u.trackers = t.trackers ∧ u.pending = s.pending
    ∧ u.mgu = { s.mgu with changes := u.mgu.changes, fault := u.mgu.fault } := by
  have e := eq_of_offTracks h
  obtain ⟨hl, hla, hch, hpr, htr, hpe, hm⟩ := reach_parts g
  refine ⟨?_, ?_, ?_, ?_, htr, ?_, ?_⟩
  · rw [hl, e]
  · rw [hla, e]
  · rw [hch, e]
  · rw [hpr, e]
  · rw [hpe, e]
  · rw [hm, e]

/-! ### FIELD_LINK_STALE (R4) -/

/-- The state in which the notices of staleness are given: the link FIELD_STALE, FIELD raised, the lanes stale (R9). -/
def fieldGone (s : State) : State := lxStale (raise .field { s with link := { s.link with fieldFresh := false } })

theorem fieldGone_link (s : State) : (fieldGone s).link = { s.link with fieldFresh := false } := rfl

theorem fieldGone_mgu (s : State) : (fieldGone s).mgu = { s.mgu with changes := (raise .field s).mgu.changes } := rfl

theorem fieldGone_channels (s : State) : (fieldGone s).channels = s.channels := rfl

theorem fieldGone_trackers (s : State) : (fieldGone s).trackers = s.trackers := rfl

theorem fieldGone_lane (s : State) (i : Fin 32) : (fieldGone s).lanes[i] = laneStale s.lanes[i] := by
  simp [fieldGone, lxStale, raise]

theorem fieldGone_flagSet (s : State) : (fieldGone s).flagSet .field := flagSet_raise s .field

theorem fieldStaleEvent_due (hf : s.link.fieldFresh = true) (hm : 250 ≤ s.link.fieldMissing) :
    fieldStaleEvent s = emissionTrigger (staleNotices (fieldGone s)) := by
  have : s.fieldStaleDue = true := by simp [State.fieldStaleDue, hf, hm]
  rw [fieldStaleEvent, if_pos this]
  rfl

theorem fieldStaleEvent_idle (h : s.link.fieldFresh = false ∨ s.link.fieldMissing < 250) : fieldStaleEvent s = s := by
  refine if_neg ?_
  rcases h with h | h <;> simp [State.fieldStaleDue, h]

theorem flagSet_staleNotices {f : Flag} (h : s.flagSet f) : (staleNotices s).flagSet f :=
  reach_flagSet (reach_lkgStale _ reach_onGrant (reach_fltHold (reach_rgsHold .same))) f (flagSet_trkStale h)

theorem parts_staleNotices (s : State) : (staleNotices s).link = s.link ∧ (staleNotices s).lanes = s.lanes
    ∧ (staleNotices s).channels = s.channels ∧ (staleNotices s).presets = s.presets
    ∧ (staleNotices s).trackers = (trkStale s).trackers ∧ (staleNotices s).pending = s.pending
    ∧ (staleNotices s).mgu
      = { s.mgu with changes := (staleNotices s).mgu.changes, fault := (staleNotices s).mgu.fault } :=
  parts_of_offTracks (trkStale_offTracks s) (reach_lkgStale _ reach_onGrant (reach_fltHold (reach_rgsHold .same)))

theorem laneStale_frame (l : Lane) : (laneStale l).desc = l.desc
    ∧ (l.desc.kind = .count → (laneStale l).run.refValid = false)
    ∧ (l.desc.kind = .value → (laneStale l).run.h = 0 ∧ (laneStale l).run.assembler = 0) := by
  unfold laneStale
  cases h : l.desc.kind <;> simp

theorem stale_frame (x : Tracker) : x.stale.conf = x.conf ∧ x.stale.run.est = x.run.est
    ∧ x.stale.run.st = if x.run.st = .search ∨ x.run.st = .locked then .hold else x.run.st := by
  unfold Tracker.stale takesResults holdRun
  cases h : x.run.st <;> simp [h]

/-- A trigger leaves all but the transmitters and the reply transmitter. -/
theorem parts_emissionTrigger (s : State) : (emissionTrigger s).lanes = s.lanes ∧ (emissionTrigger s).channels = s.channels
    ∧ (emissionTrigger s).presets = s.presets ∧ (emissionTrigger s).trackers = s.trackers
    ∧ (emissionTrigger s).lkg = s.lkg ∧ (emissionTrigger s).pending = s.pending
    ∧ (emissionTrigger s).mgu.changes = s.mgu.changes ∧ (emissionTrigger s).mgu.seconds = s.mgu.seconds
    ∧ (emissionTrigger s).link
      = { s.link with gtx := (emissionTrigger s).link.gtx, ftx := (emissionTrigger s).link.ftx } := by
  rw [emissionTrigger_eq]
  exact ⟨rfl, rfl, rfl, rfl, rfl, rfl, rfl, rfl, rfl⟩

theorem flagSet_emissionTrigger (f : Flag) (s : State) : (emissionTrigger s).flagSet f = s.flagSet f := by
  rw [emissionTrigger_eq]; rfl

/-! ### The frame timer (R3) -/

/-- A lane that a missing-frame notice breaks: a VALUE lane of several fields with a sample begun (R13). -/
abbrev Lane.breaks (l : Lane) : Prop :=
  l.desc.enabled = true ∧ l.desc.kind = .value ∧ l.desc.width < l.desc.w ∧ l.run.waiting = false

theorem laneMissing_eq (l : Lane) : laneMissing l = if l.breaks then
    ({ l with run := { l.run with assembler := 0, h := 0, waiting := l.desc.mark.isSome, misalign := true } }, true)
    else (l, false) := by
  have : (l.desc.is .value && decide (l.desc.width < l.desc.w) && !l.run.waiting) = true ↔ l.breaks := by
    simp [LaneDesc.is, Lane.breaks, and_assoc]
  unfold laneMissing
  simp only [this]

theorem flagSet_raiseIf (b : Bool) (f : Flag) (s : State) : (raiseIf b f s).flagSet f = (s.flagSet f || b) := by
  unfold raiseIf
  cases b
  · simp
  · simp [flagSet_raise]

theorem raiseIf_eq (b : Bool) (f : Flag) (s : State) : raiseIf b f s = { s with
    mgu := { s.mgu with changes := s.mgu.changes ||| (if b then 1#16 <<< f.number else 0#16) } } := by
  cases b
  · simp [raiseIf]
  · rfl

/-- The state of an expiry before it is judged as a trigger. -/
def frameTimed (s : State) : State := timerGateway (timerField s)

theorem frameTimer_fresh (h : s.link.fieldFresh = true) : frameTimer s = frameTimed s := by
  simp [frameTimer, frameTimed, h]

theorem frameTimer_stale (h : s.link.fieldFresh = false) : frameTimer s = emissionTrigger (frameTimed s) := by
  simp [frameTimer, frameTimed, h]

/-- The link after an expiry: each port without a good frame counts one, and what was seen is forgotten. -/
def timedLink (l : Link) : Link := { l with
  fieldMissing := if l.fieldSeen then l.fieldMissing else satAdd 250 l.fieldMissing 1, fieldSeen := false
  gwMissing := if l.gwSeen then l.gwMissing else satAdd 250 l.gwMissing 1, gwSeen := false }

theorem frameTimed_seen (h : s.link.fieldSeen = true) : frameTimed s = { s with link := timedLink s.link } := by
  simp [frameTimed, timerField, timerGateway, timedLink, h]

/-- The change summary after an expiry that the lanes notice. -/
def timedChanges (s : State) : BitVec 16 :=
  (raiseIf ((List.finRange 32).any fun i => (laneMissing s.lanes[i]).2) .lane s).mgu.changes

theorem missingFrame_eq (s : State) : missingFrame s = { s with
    link := { s.link with fieldMissing := satAdd 250 s.link.fieldMissing 1 }
    lanes := Vector.ofFn fun i => (laneMissing s.lanes[i]).1
    channels := Vector.ofFn fun i => channelMissing s.channels[i]
    mgu := { s.mgu with changes := timedChanges s } } := by
  rw [missingFrame, lxMissing, timedChanges, raiseIf_eq, raiseIf_eq]
  rfl

theorem frameTimed_missing (h : s.link.fieldSeen = false) : frameTimed s = { s with
    link := timedLink s.link
    lanes := Vector.ofFn fun i => (laneMissing s.lanes[i]).1
    channels := Vector.ofFn fun i => channelMissing s.channels[i]
    mgu := { s.mgu with changes := timedChanges s } } := by
  have field : timerField s = { missingFrame s with link := { (missingFrame s).link with fieldSeen := false } } := by
    simp [timerField, h]
  have link : timedLink s.link = { s.link with
      fieldMissing := satAdd 250 s.link.fieldMissing 1, fieldSeen := false
      gwMissing := if s.link.gwSeen then s.link.gwMissing else satAdd 250 s.link.gwMissing 1, gwSeen := false } := by
    simp [timedLink, h]
  rw [frameTimed, field, missingFrame_eq, link]
  rfl

theorem flagSet_timedChanges (s : State) : (timedChanges s).getLsbD Flag.lane.number = true ↔
    s.flagSet .lane = true ∨ ∃ i : Fin 32, s.lanes[i].breaks := by
  have lane (l : Lane) : (laneMissing l).2 = true ↔ l.breaks := by
    rw [laneMissing_eq]
    split
    · exact ⟨fun _ => ‹_›, fun _ => rfl⟩
    · exact ⟨(nomatch ·), fun h => absurd h ‹_›⟩
  have set := flagSet_raiseIf ((List.finRange 32).any fun i => (laneMissing s.lanes[i]).2) .lane s
  unfold State.flagSet at set
  rw [timedChanges, set]
  simp only [Bool.or_eq_true, List.any_eq_true, List.mem_finRange, true_and, lane]
  rfl

theorem channelMissing_frame (c : Channel) : (channelMissing c).conf = c.conf
    ∧ (c.run.cond ≠ .opened → channelMissing c = c)
    ∧ (c.run.cond = .opened → (channelMissing c).run.e = min max32 (c.run.e + 1)
        ∧ (channelMissing c).run.missing = c.run.missing + 1 ∧ (channelMissing c).run.acc = c.run.acc
        ∧ (c.conf.mode = .period → (channelMissing c).run.s = c.run.s + 1)) := by
  unfold channelMissing
  by_cases h : c.run.cond = .opened
  · by_cases m : c.conf.mode = .period <;> simp [h, m, satAdd]
  · simp [h]

theorem frameTimed_link (s : State) : (frameTimed s).link = timedLink s.link := by
  cases h : s.link.fieldSeen
  · rw [frameTimed_missing h]
  · rw [frameTimed_seen h]

theorem frameTimed_mgu (s : State) : (frameTimed s).mgu = { s.mgu with changes := (frameTimed s).mgu.changes } := by
  cases h : s.link.fieldSeen
  · rw [frameTimed_missing h]
  · rw [frameTimed_seen h]

/-- After the judgement of an expiry, as a trigger or not, only transmitters and replies may differ. -/
theorem frameTimer_onAir (s : State) : ∃ g f r n, frameTimer s = (frameTimed s).onAir g f r n := by
  cases h : s.link.fieldFresh
  · exact ⟨_, _, _, _, (frameTimer_stale h).trans (emissionTrigger_eq _)⟩
  · exact ⟨_, _, _, _, frameTimer_fresh h⟩

/-! ### A good field frame (R2) -/

theorem parts_freshNotices (s : State) : (freshNotices s).link = s.link ∧ (freshNotices s).lanes = s.lanes
    ∧ (freshNotices s).channels = s.channels ∧ (freshNotices s).presets = s.presets
    ∧ (freshNotices s).trackers = (trkFresh s).trackers ∧ (freshNotices s).pending = s.pending
    ∧ (freshNotices s).mgu
      = { s.mgu with changes := (freshNotices s).mgu.changes, fault := (freshNotices s).mgu.fault } :=
  parts_of_offTracks (trkFresh_offTracks s) (reach_freshNotices s)

/-- The state in which the notices of freshness are given: the link FRESH and FIELD raised (R4). -/
def fieldBack (s : State) : State := raise .field { s with link := { s.link with fieldFresh := true } }

theorem linkFresh_stale (h : s.link.fieldFresh = false) : linkFresh s = freshNotices (fieldBack s) := by
  rw [linkFresh, if_neg (by simp [h])]
  rfl

theorem fieldBack_link (s : State) : (fieldBack s).link = { s.link with fieldFresh := true } := rfl

theorem fieldBack_mgu (s : State) : (fieldBack s).mgu = { s.mgu with changes := (raise .field s).mgu.changes } := rfl

theorem fieldBack_tables (s : State) : (fieldBack s).lanes = s.lanes ∧ (fieldBack s).channels = s.channels
    ∧ (fieldBack s).presets = s.presets := ⟨rfl, rfl, rfl⟩

/-- What the notices of freshness leave: all of the link but FRESH, and the lanes' and channels' tables (R4). -/
theorem parts_linkFresh (s : State) : (linkFresh s).link = { s.link with fieldFresh := true }
    ∧ (linkFresh s).lanes = s.lanes ∧ (linkFresh s).channels = s.channels ∧ (linkFresh s).presets = s.presets
    ∧ (linkFresh s).mgu = { s.mgu with changes := (linkFresh s).mgu.changes, fault := (linkFresh s).mgu.fault } := by
  cases h : s.link.fieldFresh
  · obtain ⟨hl, hla, hch, hpr, -, -, hm⟩ := parts_freshNotices (fieldBack s)
    obtain ⟨bla, bch, bpr⟩ := fieldBack_tables s
    rw [linkFresh_stale h]
    refine ⟨hl.trans (fieldBack_link s), hla.trans bla, hch.trans bch, hpr.trans bpr, ?_⟩
    rw [hm, fieldBack_mgu]
  · rw [linkFresh, if_pos h]
    exact ⟨by rw [← h], rfl, rfl, rfl, rfl⟩

/-- The actuators' act on a good frame changes the actuators alone. -/
theorem actsFrame_eq (outs : Vector LaneOut 32) (s : State) : actsFrame outs s = { s with
    main := (actsFrame outs s).main, selector := (actsFrame outs s).selector
    regenRotor := (actsFrame outs s).regenRotor, filterRotor := (actsFrame outs s).filterRotor } := by
  unfold actsFrame
  refine List.foldlRecOn (motive := fun (t : State) => t = { s with
    main := t.main, selector := t.selector, regenRotor := t.regenRotor, filterRotor := t.filterRotor }) _ _ rfl
    fun t ht a _ => ?_
  dsimp only [actFrame]
  split
  · rw [ht]; cases a <;> rfl
  · exact ht

/-- Lanes, channels and actuators after a good frame, before the moisture sample. -/
def framed (slots : Vector Byte 20) (s : State) : State :=
  actsFrame (laneOuts s.lanes slots) (mchFrame (laneOuts s.lanes slots) (lxFrame slots s))

theorem lanesFrame_eq (slots : Vector Byte 20) (s : State) :
    lanesFrame slots s = moistureFrame (laneOuts s.lanes slots) (framed slots s) := rfl

theorem mchFrame_lxFrame (slots : Vector Byte 20) (s : State) :
    mchFrame (laneOuts s.lanes slots) (lxFrame slots s) = { s with
      lanes := lanesAfter s.lanes slots
      channels := Vector.ofFn fun i => channelOnFrame s.presets (laneOuts s.lanes slots) s.channels[i]
      mgu := { s.mgu with changes := (raiseIf (anyMisaligned s.lanes slots) .lane s).mgu.changes } } := by
  rw [lxFrame, raiseIf_eq, raiseIf_eq]
  rfl

theorem framed_eq (slots : Vector Byte 20) (s : State) : ∃ a b c d, framed slots s = { s with
    lanes := lanesAfter s.lanes slots
    channels := Vector.ofFn fun i => channelOnFrame s.presets (laneOuts s.lanes slots) s.channels[i]
    main := a, selector := b, regenRotor := c, filterRotor := d
    mgu := { s.mgu with changes := (raiseIf (anyMisaligned s.lanes slots) .lane s).mgu.changes } } := by
  have acts := actsFrame_eq (laneOuts s.lanes slots) (mchFrame (laneOuts s.lanes slots) (lxFrame slots s))
  rw [← framed, mchFrame_lxFrame] at acts
  exact ⟨_, _, _, _, acts⟩

/-- What a good frame does to the lanes and their consumers, outside the blocks. -/
theorem parts_lanesFrame (slots : Vector Byte 20) (s : State) : (lanesFrame slots s).link = s.link
    ∧ (lanesFrame slots s).lanes = lanesAfter s.lanes slots
    ∧ (lanesFrame slots s).channels
      = Vector.ofFn (fun i => channelOnFrame s.presets (laneOuts s.lanes slots) s.channels[i])
    ∧ (lanesFrame slots s).presets = s.presets
    ∧ (lanesFrame slots s).mgu
      = { s.mgu with changes := (lanesFrame slots s).mgu.changes, fault := (lanesFrame slots s).mgu.fault } := by
  obtain ⟨hl, hla, hch, hpr, -, -, hm⟩ := reach_parts (reach_moistureFrame (laneOuts s.lanes slots) (framed slots s))
  rw [← lanesFrame_eq] at hl hla hch hpr hm
  obtain ⟨_, _, _, _, e⟩ := framed_eq slots s
  refine ⟨by rw [hl, e], by rw [hla, e], by rw [hch, e], by rw [hpr, e], by rw [hm, e]⟩

end Sys2Proof.Machine

namespace Sys2Proof.Proofs

open Sys2Proof Sys2Proof.Machine

/-- Settles O10. -/
theorem linksBecomeStaleAtTwoHundredFiftyMissingFrames :
    Obligations.LinksBecomeStaleAtTwoHundredFiftyMissingFrames := by
  unfold Obligations.LinksBecomeStaleAtTwoHundredFiftyMissingFrames
  refine ⟨fun s hf hm => ?due, fun s h => congrArg Host.Outcome.next (fieldStaleEvent_idle h), fun s => rfl⟩
  case due =>
    refine ⟨_, congrArg Host.Outcome.next (fieldStaleEvent_due hf hm), ?_⟩
    obtain ⟨lanes, channels, -, trackers, -, -, -, -, link⟩ := parts_emissionTrigger (staleNotices (fieldGone s))
    obtain ⟨hl, hla, hch, -, htr, -, hmgu⟩ := parts_staleNotices (fieldGone s)
    rw [fieldGone_link] at hl
    rw [fieldGone_mgu] at hmgu
    rw [fieldGone_channels] at hch
    rw [lanes, channels, trackers, hla, hch, htr, link, hl, flagSet_emissionTrigger]
    refine ⟨rfl, rfl, flagSet_staleNotices (fieldGone_flagSet s), fun i => ?lane, fun i => ?tracker, rfl, ?triggered⟩
    case lane =>
      rw [fieldGone_lane]
      exact laneStale_frame _
    case tracker =>
      rw [trkStale_trackers, fieldGone_trackers]
      exact stale_frame s.trackers[i]
    case triggered => exact emissionTrigger_triggered (by rw [hl]) (by rw [hl]) (by rw [hmgu]) (by rw [hmgu])

/-- Settles O9. -/
theorem frameTimerExpiryCountsMissingFrames : Obligations.FrameTimerExpiryCountsMissingFrames := by
  unfold Obligations.FrameTimerExpiryCountsMissingFrames
  intro breaks s
  refine ⟨frameTimer (settle s), rfl, ?_⟩
  generalize settle s = u
  obtain ⟨g, f, replies, sent, air⟩ := frameTimer_onAir u
  have link : (frameTimer u).link = { timedLink u.link with gtx := g, ftx := f } := by
    rw [air, ← frameTimed_link]; rfl
  have lanes : (frameTimer u).lanes = (frameTimed u).lanes := by rw [air]; rfl
  have channels : (frameTimer u).channels = (frameTimed u).channels := by rw [air]; rfl
  have flags : (frameTimer u).mgu.changes = (frameTimed u).mgu.changes := by rw [air]; rfl
  have kept := frameTimed_mgu u
  refine ⟨?field, ?gateway, by rw [link]; rfl, by rw [link]; rfl, by rw [link]; rfl,
    by rw [link]; rfl, fun h => ?fresh, fun h => ?trigger, fun h => ?seen, ?flag, fun h i => ?lane, fun h i => ?channel⟩
  case field => rw [link]; simp [timedLink, satAdd]
  case gateway => rw [link]; simp [timedLink, satAdd]
  case fresh =>
    rw [frameTimer_fresh h, frameTimed_link, kept]
    exact ⟨rfl, rfl, rfl, rfl⟩
  case trigger =>
    rw [frameTimer_stale h]
    exact emissionTrigger_triggered (by rw [frameTimed_link]; rfl) (by rw [frameTimed_link]; rfl) (by rw [kept])
      (by rw [kept])
  case seen => rw [lanes, channels, frameTimed_seen h]; exact ⟨rfl, rfl⟩
  case flag =>
    unfold State.flagSet
    rw [flags]
    cases h : u.link.fieldSeen
    · rw [frameTimed_missing h]
      simpa [State.flagSet] using flagSet_timedChanges u
    · rw [frameTimed_seen h]
      simp
  case lane =>
    rw [lanes, frameTimed_missing h]
    simp only [Fin.getElem_fin, Vector.getElem_ofFn, laneMissing_eq]
    split <;> rfl
  case channel =>
    rw [channels, frameTimed_missing h]
    simpa using channelMissing_frame u.channels[i]

/-- Settles O3. -/
theorem goodFieldFrameIsTaken : Obligations.GoodFieldFrameIsTaken := by
  unfold Obligations.GoodFieldFrameIsTaken
  intro slots s
  refine ⟨_, exec_goodFieldFrame slots s, ?_⟩
  have pending : (fieldFrame slots (settle s)).pending = s.pending :=
    ((keeps_settle s).trans (keeps_fieldFrame slots _)).pending
  rw [fieldFrame_eq] at pending ⊢
  generalize settle s = u at pending ⊢
  obtain ⟨fl, fla, fch, fpr, fm⟩ := parts_linkFresh (frameCounted u)
  obtain ⟨ll, -, lch, lpr, lm⟩ := parts_lanesFrame slots (frameKept slots (linkFresh (frameCounted u)))
  obtain ⟨-, ech, epr, -, -, -, -, esec, el⟩ :=
    parts_emissionTrigger (lanesFrame slots (frameKept slots (linkFresh (frameCounted u))))
  have kept (v : State) : (frameKept slots v).link = { v.link with lastField := some slots } := rfl
  have counted (v : State) : (frameCounted v).link = { v.link with fieldMissing := 0, fieldSeen := true } := rfl
  have tables (v : State) : (frameKept slots v).mgu = v.mgu ∧ (frameKept slots v).lanes = v.lanes
      ∧ (frameKept slots v).channels = v.channels ∧ (frameKept slots v).presets = v.presets := ⟨rfl, rfl, rfl, rfl⟩
  obtain ⟨km, kla, kch, kpr⟩ := tables (linkFresh (frameCounted u))
  rw [kept, fl, counted] at ll
  rw [km, fm] at lm
  rw [kla, kch, kpr, fla, fch, fpr] at lch
  rw [el, ech, epr, esec, lch, lpr, lm, ll, kpr, fpr]
  refine ⟨rfl, rfl, rfl, rfl, fun i => ?channel, rfl, rfl, ?triggered, pending⟩
  case channel => rw [Fin.getElem_fin, Vector.getElem_ofFn]; rfl
  case triggered => exact emissionTrigger_triggered (by rw [ll]) (by rw [ll]) (by rw [lm]; rfl) (by rw [lm]; rfl)

end Sys2Proof.Proofs
end

section
/-! PROOFS. What no grant, hold, resumption, move or course of the decay test touches: LKG's tables and marks of the
sensors, the latch, the flag LANE, the link's freshness and the time. -/

namespace Sys2Proof.Machine

/-- What of LKG only reports, judgements of the rules, the latch and writes change, with the flag LANE, which LX alone
raises, the link's freshness and the time. -/
structure Guarded where
  config : LeakConfig
  windows : Vector ZoneWindow 8
  rules : Vector Rule 16
  zones : Vector Zone 8
  unknownSensor : Bool
  lastUnknown : Option Nat
  latch : Option Latch
  lane : Bool
  fieldFresh : Bool
  seconds : Nat
  hour : Option Nat

/-- The guarded part of a state. -/
def State.guarded (s : State) : Guarded :=
  { config := s.lkg.config, windows := s.lkg.windows, rules := s.lkg.rules, zones := s.lkg.zones
    unknownSensor := s.lkg.unknownSensor, lastUnknown := s.lkg.lastUnknown, latch := s.lkg.latch
    lane := s.flagSet .lane, fieldFresh := s.link.fieldFresh, seconds := s.mgu.seconds, hour := s.hour }

/-- What a requester does at its grant leaves the guarded part. -/
structure Grant.Discreet (k : Grant) : Prop where
  eq : ∀ r s, (k r s).guarded = s.guarded

/-! ### Updates of other parts -/

section

variable (s : State)

@[simp] theorem guarded_outside (la ch pr tr a1 a2 a3 a4 d ac r x f c p) :
    State.guarded ⟨s.link, la, ch, pr, tr, a1, a2, a3, a4, d, ac, r, x, f, s.lkg, s.mgu, c, p⟩ = s.guarded := rfl

@[simp] theorem guarded_lkg (la ch pr tr a1 a2 a3 a4 d ac r x f c p m e le lt ld t dd lo rd cd) :
    State.guarded ⟨s.link, la, ch, pr, tr, a1, a2, a3, a4, d, ac, r, x, f, ⟨m, s.lkg.latch, s.lkg.config,
      s.lkg.rules, s.lkg.windows, s.lkg.zones,
      s.lkg.unknownSensor, s.lkg.lastUnknown, e, le, lt, ld, t, dd, lo, rd, cd⟩, s.mgu, c, p⟩ = s.guarded := rfl

theorem flagSet_raise_ne {f g : Flag} (h : f ≠ g) : (raise f s).flagSet g = s.flagSet g := by
  cases f <;> cases g <;> simp [State.flagSet, raise, Flag.number] at h ⊢

@[simp] theorem guarded_raise {f : Flag} (h : f ≠ .lane) : (raise f s).guarded = s.guarded := by
  unfold State.guarded
  rw [flagSet_raise_ne s h]
  rfl

@[simp] theorem guarded_raiseIf {f : Flag} (b : Bool) (h : f ≠ .lane) : (raiseIf b f s).guarded = s.guarded := by
  unfold raiseIf
  split <;> simp [h]

@[simp] theorem guarded_offerFault (kind : FaultKind) (n : Nat) (d : Vector Byte 4) :
    (offerFault kind n d s).guarded = s.guarded := by
  unfold offerFault
  split
  · rfl
  · rw [guarded_raise _ (by decide)]; rfl

@[simp] theorem guarded_setAct (a : Actr) (x : Actuator) : (setAct a x s).guarded = s.guarded := by cases a <;> rfl

end

/-! ### SLT and the tanks -/

@[simp] theorem guarded_setTank (t : TankId) (x : Tank) (s : State) : (setTank t x s).guarded = s.guarded := by
  unfold setTank
  (repeat' split) <;> simp

@[simp] theorem guarded_setSalt (x : Salt) (s : State) : (setSalt x s).guarded = s.guarded := by
  unfold setSalt
  simp

@[simp] theorem guarded_judgeSalt (s : State) : (judgeSalt s).guarded = s.guarded := by
  unfold judgeSalt
  simp

@[simp] theorem guarded_setBridgeCount (n : Nat) (s : State) : (setBridgeCount n s).guarded = s.guarded := by
  unfold setBridgeCount
  simp

@[simp] theorem guarded_bridgeCheck (b : BridgeResult) (s : State) : (bridgeCheck b s).guarded = s.guarded := by
  unfold bridgeCheck
  (repeat' split) <;> simp

@[simp] theorem guarded_endRefillUnchecked (s : State) : (endRefillUnchecked s).guarded = s.guarded := by
  unfold endRefillUnchecked
  simp

@[simp] theorem guarded_sltClose (v : DrawValues) (warm : Bool) (s : State) :
    (sltClose v warm s).guarded = s.guarded := by
  unfold sltClose
  dsimp only
  (repeat' split) <;> simp

@[simp] theorem guarded_refillStart (s : State) : (refillStart s).guarded = s.guarded := by
  unfold refillStart
  (repeat' split) <;> simp

@[simp] theorem guarded_accOpen (s : State) : (accOpen s).guarded = s.guarded := by
  unfold accOpen
  simp

@[simp] theorem guarded_accClosed (s : State) : (accClosed s).guarded = s.guarded := by
  unfold accClosed
  simp

@[simp] theorem guarded_actRequest (a : Actr) (t : Pos) (s : State) : (actRequest a t s).guarded = s.guarded := by
  unfold actRequest
  simp

@[simp] theorem guarded_setRun (a : Actr) (r : ActuatorRun) (s : State) : (setRun a r s).guarded = s.guarded := by
  unfold setRun
  simp

/-! ### Seconds counters and timers -/

@[simp] theorem guarded_tickActuator (a : Actr) (s : State) : (tickActuator a s).guarded = s.guarded := by
  unfold tickActuator
  simp

/-! ### DRA -/

@[simp] theorem guarded_setAllowance (a : Nat) (kind : Option Requester) (s : State) :
    (setAllowance a kind s).guarded = s.guarded := by
  unfold setAllowance
  (repeat' split) <;> simp

@[simp] theorem guarded_allowanceReport (r : Requester) (a : Option Nat) (s : State) :
    (allowanceReport r a s).guarded = s.guarded := by
  unfold allowanceReport
  (repeat' split) <;> simp

@[simp] theorem guarded_grantTo {k : Grant} (hk : k.Discreet) (r : Requester) (s : State) :
    (grantTo k r s).guarded = s.guarded := by
  unfold grantTo
  simp [hk.eq]

@[simp] theorem guarded_drainRegrant {k : Grant} (hk : k.Discreet) (s : State) :
    (drainRegrant k s).guarded = s.guarded := by
  unfold drainRegrant
  (repeat' split) <;> simp [hk]

@[simp] theorem guarded_drainRequest {k : Grant} (hk : k.Discreet) (r : Requester) (s : State) :
    (drainRequest k r s).guarded = s.guarded := by
  unfold drainRequest
  (repeat' split) <;> simp [hk]

@[simp] theorem guarded_drainFreed (s : State) : (drainFreed s).guarded = s.guarded := by
  unfold drainFreed
  simp

@[simp] theorem guarded_drainRelease {k : Grant} (hk : k.Discreet) (r : Requester) (s : State) :
    (drainRelease k r s).guarded = s.guarded := by
  unfold drainRelease
  (repeat' split) <;> simp [hk]

/-! ### RGS -/

@[simp] theorem guarded_setSeq (q : SeqState) (s : State) : (setSeq q s).guarded = s.guarded := by
  unfold setSeq
  simp

@[simp] theorem guarded_setRegenRun (r : RegenRun) (s : State) : (setRegenRun r s).guarded = s.guarded := by
  unfold setRegenRun
  simp

@[simp] theorem guarded_setMove (m : SelMove) (s : State) : (setMove m s).guarded = s.guarded := by
  unfold setMove
  simp

@[simp] theorem guarded_updateRecord (f : RegenRecord → RegenRecord) (s : State) :
    (updateRecord f s).guarded = s.guarded := by
  unfold updateRecord
  simp

@[simp] theorem guarded_recordEnd (o : RunOutcome) (s : State) : (recordEnd o s).guarded = s.guarded := by
  unfold recordEnd
  simp

@[simp] theorem guarded_stopStep (s : State) : (stopStep s).guarded = s.guarded := by
  unfold stopStep
  dsimp only
  (repeat' split) <;> simp

@[simp] theorem guarded_closeDraw (warm : Bool) (s : State) : (closeDraw warm s).guarded = s.guarded := by
  unfold closeDraw
  simp

@[simp] theorem guarded_endTank (st : TankState) (remaining : Nat) (o : RunOutcome) (s : State) :
    (endTank st remaining o s).guarded = s.guarded := by
  unfold endTank
  (repeat' split) <;> simp

@[simp] theorem guarded_exhaustTank (o : RunOutcome) (s : State) : (exhaustTank o s).guarded = s.guarded := by
  unfold exhaustTank
  simp

@[simp] theorem guarded_keepTank (st : TankState) (o : RunOutcome) (s : State) :
    (keepTank st o s).guarded = s.guarded := by
  unfold keepTank
  (repeat' split) <;> simp

@[simp] theorem guarded_offerRgs (kind : FaultKind) (d2 : Byte) (s : State) :
    (offerRgs kind d2 s).guarded = s.guarded := by
  unfold offerRgs
  (repeat' split) <;> simp

@[simp] theorem guarded_toIdle (s : State) : (toIdle s).guarded = s.guarded := by
  unfold toIdle
  simp

@[simp] theorem guarded_tankLeft (t : TankId) (s : State) : (tankLeft t s).guarded = s.guarded := by
  unfold tankLeft
  dsimp only
  (repeat' split) <;> simp

@[simp] theorem guarded_tankReached (t : TankId) (s : State) : (tankReached t s).guarded = s.guarded := by
  unfold tankReached
  dsimp only
  (repeat' split) <;> simp

@[simp] theorem guarded_judgeTanks (old : Option Pos) (p : Pos) (s : State) :
    (judgeTanks old p s).guarded = s.guarded := by
  unfold judgeTanks
  dsimp only
  (repeat' split) <;> simp

@[simp] theorem guarded_rgsQueue {k : Grant} (hk : k.Discreet) (t : TankId) (trig : RegenTrigger)
    (prior : TankState) (s : State) : (rgsQueue k t trig prior s).guarded = s.guarded := by
  unfold rgsQueue
  simp only [guarded_drainRequest hk, guarded_setSeq]
  exact guarded_setTank ..

@[simp] theorem guarded_selMoveDone {k : Grant} (hk : k.Discreet) (s : State) :
    (selMoveDone k s).guarded = s.guarded := by
  unfold selMoveDone
  dsimp only
  (repeat' split) <;> simp [hk]

@[simp] theorem guarded_selFailed (s : State) : (selFailed s).guarded = s.guarded := by
  unfold selFailed
  (repeat' split) <;> simp

@[simp] theorem guarded_startSwap {k : Grant} (hk : k.Discreet) (t : TankId) (s : State) :
    (startSwap k t s).guarded = s.guarded := by
  unfold startSwap
  dsimp only
  (repeat' split) <;> simp [hk]

@[simp] theorem guarded_seekAtNotice {k : Grant} (hk : k.Discreet) (t : TankId) (s : State) :
    (seekAtNotice k t s).guarded = s.guarded := by
  unfold seekAtNotice
  (repeat' split) <;> simp [hk]

@[simp] theorem guarded_swapSeek {k : Grant} (hk : k.Discreet) (s : State) : (swapSeek k s).guarded = s.guarded := by
  unfold swapSeek
  (repeat' split) <;> simp [hk]

@[simp] theorem guarded_finish {k : Grant} (hk : k.Discreet) (s : State) : (finish k s).guarded = s.guarded := by
  unfold finish
  simp [hk]

@[simp] theorem guarded_releaseAndFinish {k : Grant} (hk : k.Discreet) (s : State) :
    (releaseAndFinish k s).guarded = s.guarded := by
  unfold releaseAndFinish
  simp [hk]

@[simp] theorem guarded_restoreTank (t : TankId) (s : State) : (restoreTank t s).guarded = s.guarded := by
  unfold restoreTank
  simp

@[simp] theorem guarded_parkDone {k : Grant} (hk : k.Discreet) (s : State) : (parkDone k s).guarded = s.guarded := by
  unfold parkDone
  (repeat' split) <;> simp [hk]

@[simp] theorem guarded_rgsFault {k : Grant} (hk : k.Discreet) (code : Byte) (s : State) :
    (rgsFault k code s).guarded = s.guarded := by
  unfold rgsFault
  simp [hk]

@[simp] theorem guarded_rgsRotorFailed {k : Grant} (hk : k.Discreet) (code : Byte) (s : State) :
    (rgsRotorFailed k code s).guarded = s.guarded := by
  unfold rgsRotorFailed
  (repeat' split) <;> simp [hk]

@[simp] theorem guarded_enterHeld (phase : SeqState) (s : State) : (enterHeld phase s).guarded = s.guarded := by
  unfold enterHeld
  simp

@[simp] theorem guarded_rgsHold (s : State) : (rgsHold s).guarded = s.guarded := by
  unfold rgsHold
  (repeat' split) <;> simp

@[simp] theorem guarded_startRunning (x : RegenStep) (s : State) : (startRunning x s).guarded = s.guarded := by
  unfold startRunning
  dsimp only
  (repeat' split) <;> simp

@[simp] theorem guarded_rgsRotorDone {k : Grant} (hk : k.Discreet) (p : Pos) (s : State) :
    (rgsRotorDone k p s).guarded = s.guarded := by
  unfold rgsRotorDone
  (repeat' split) <;> simp [hk]

@[simp] theorem guarded_rgsRotorAsk {k : Grant} (hk : k.Discreet) (p : Pos) (s : State) :
    (rgsRotorAsk k p s).guarded = s.guarded := by
  unfold rgsRotorAsk
  dsimp only
  (repeat' split) <;> simp [hk]

@[simp] theorem guarded_askStep {k : Grant} (hk : k.Discreet) (s : State) : (askStep k s).guarded = s.guarded := by
  unfold askStep
  (repeat' split) <;> simp [hk]

@[simp] theorem guarded_enterPositioning {k : Grant} (hk : k.Discreet) (s : State) :
    (enterPositioning k s).guarded = s.guarded := by
  unfold enterPositioning
  (repeat' split) <;> simp [hk]

@[simp] theorem guarded_takeStep {k : Grant} (hk : k.Discreet) (i : Fin 8) (s : State) :
    (takeStep k i s).guarded = s.guarded := by
  unfold takeStep
  simp [hk]

@[simp] theorem guarded_rgsGranted {k : Grant} (hk : k.Discreet) (s : State) :
    (rgsGranted k s).guarded = s.guarded := by
  unfold rgsGranted
  dsimp only
  (repeat' split) <;> simp [hk]

@[simp] theorem guarded_rgsResume {k : Grant} (hk : k.Discreet) (s : State) :
    (rgsResume k s).guarded = s.guarded := by
  unfold rgsResume
  (repeat' split) <;> simp [hk]

@[simp] theorem guarded_tanksSecond (s : State) : (tanksSecond s).guarded = s.guarded := by
  unfold tanksSecond
  simp

@[simp] theorem guarded_rgsSecond (s : State) : (rgsSecond s).guarded = s.guarded := by
  unfold rgsSecond
  dsimp only
  (repeat' split) <;> simp

/-! ### FLT -/

@[simp] theorem guarded_setFlt (q : SeqState) (s : State) : (setFlt q s).guarded = s.guarded := by
  unfold setFlt
  simp

@[simp] theorem guarded_setBwRun (r : BwRun) (s : State) : (setBwRun r s).guarded = s.guarded := by
  unfold setBwRun
  simp

@[simp] theorem guarded_setStage (i : Fin 4) (x : Stage) (s : State) : (setStage i x s).guarded = s.guarded := by
  unfold setStage
  simp

@[simp] theorem guarded_updateBwRecord (f : BwRecord → BwRecord) (s : State) :
    (updateBwRecord f s).guarded = s.guarded := by
  unfold updateBwRecord
  simp

@[simp] theorem guarded_bwRecordEnd (o : RunOutcome) (s : State) : (bwRecordEnd o s).guarded = s.guarded := by
  unfold bwRecordEnd
  simp

@[simp] theorem guarded_stagesSecond (s : State) : (stagesSecond s).guarded = s.guarded := by
  unfold stagesSecond
  simp

@[simp] theorem guarded_stopBwStep (s : State) : (stopBwStep s).guarded = s.guarded := by
  unfold stopBwStep
  (repeat' split) <;> simp

@[simp] theorem guarded_bwIdle (s : State) : (bwIdle s).guarded = s.guarded := by
  unfold bwIdle
  simp

@[simp] theorem guarded_bwRestore (s : State) : (bwRestore s).guarded = s.guarded := by
  unfold bwRestore
  dsimp only
  (repeat' split) <;> simp

@[simp] theorem guarded_bwParkDone {k : Grant} (hk : k.Discreet) (s : State) :
    (bwParkDone k s).guarded = s.guarded := by
  unfold bwParkDone
  (repeat' split) <;> simp [hk]

@[simp] theorem guarded_bwFault {k : Grant} (hk : k.Discreet) (s : State) : (bwFault k s).guarded = s.guarded := by
  unfold bwFault
  simp [hk]

@[simp] theorem guarded_bwRotorFailed {k : Grant} (hk : k.Discreet) (s : State) :
    (bwRotorFailed k s).guarded = s.guarded := by
  unfold bwRotorFailed
  (repeat' split) <;> simp [hk]

@[simp] theorem guarded_enterBwHeld (phase : SeqState) (s : State) : (enterBwHeld phase s).guarded = s.guarded := by
  unfold enterBwHeld
  simp

@[simp] theorem guarded_fltHold (s : State) : (fltHold s).guarded = s.guarded := by
  unfold fltHold
  (repeat' split) <;> simp

@[simp] theorem guarded_bwRotorDone {k : Grant} (hk : k.Discreet) (p : Pos) (s : State) :
    (bwRotorDone k p s).guarded = s.guarded := by
  unfold bwRotorDone
  (repeat' split) <;> simp [hk]

@[simp] theorem guarded_bwRotorAsk {k : Grant} (hk : k.Discreet) (p : Pos) (s : State) :
    (bwRotorAsk k p s).guarded = s.guarded := by
  unfold bwRotorAsk
  dsimp only
  (repeat' split) <;> simp [hk]

@[simp] theorem guarded_askBwStep {k : Grant} (hk : k.Discreet) (s : State) :
    (askBwStep k s).guarded = s.guarded := by
  unfold askBwStep
  (repeat' split) <;> simp [hk]

@[simp] theorem guarded_enterBwPositioning {k : Grant} (hk : k.Discreet) (s : State) :
    (enterBwPositioning k s).guarded = s.guarded := by
  unfold enterBwPositioning
  (repeat' split) <;> simp [hk]

@[simp] theorem guarded_takeBwStep {k : Grant} (hk : k.Discreet) (i : Fin 4) (s : State) :
    (takeBwStep k i s).guarded = s.guarded := by
  unfold takeBwStep
  simp [hk]

@[simp] theorem guarded_fltGranted {k : Grant} (hk : k.Discreet) (s : State) :
    (fltGranted k s).guarded = s.guarded := by
  unfold fltGranted
  dsimp only
  (repeat' split) <;> simp [hk]

@[simp] theorem guarded_fltResume {k : Grant} (hk : k.Discreet) (s : State) :
    (fltResume k s).guarded = s.guarded := by
  unfold fltResume
  (repeat' split) <;> simp [hk]

@[simp] theorem guarded_fltSecond (s : State) : (fltSecond s).guarded = s.guarded := by
  unfold fltSecond
  dsimp only
  (repeat' split) <;> simp

@[simp] theorem guarded_queueSecond (s : State) : (queueSecond s).guarded = s.guarded := by
  unfold queueSecond
  simp

/-! ### LKG -/

@[simp] theorem guarded_setMain (m : MainState) (s : State) : (setMain m s).guarded = s.guarded := by
  unfold setMain
  simp

@[simp] theorem guarded_setMainShut (m : MainState) (s : State) : (setMainShut m s).guarded = s.guarded := by
  unfold setMainShut
  dsimp only
  (repeat' split) <;> simp

@[simp] theorem guarded_setMainOpen {k : Grant} (hk : k.Discreet) (s : State) :
    (setMainOpen k s).guarded = s.guarded := by
  unfold setMainOpen
  (repeat' split) <;> simp [hk]

@[simp] theorem guarded_setTest (t : TestState) (s : State) : (setTest t s).guarded = s.guarded := by
  unfold setTest
  simp

@[simp] theorem guarded_putTest (t : DecayTest) (s : State) : (putTest t s).guarded = s.guarded := by
  unfold putTest
  simp

@[simp] theorem guarded_updateTestRecord (f : TestRecord → TestRecord) (s : State) :
    (updateTestRecord f s).guarded = s.guarded := by
  unfold updateTestRecord
  simp

@[simp] theorem guarded_setResult (r : TestResult) (s : State) : (setResult r s).guarded = s.guarded := by
  unfold setResult
  simp

@[simp] theorem guarded_testIdle (s : State) : (testIdle s).guarded = s.guarded := by
  unfold testIdle
  simp

@[simp] theorem guarded_testRelease {k : Grant} (hk : k.Discreet) (s : State) :
    (testRelease k s).guarded = s.guarded := by
  unfold testRelease
  simp [hk]

@[simp] theorem guarded_testStop {k : Grant} (hk : k.Discreet) (r : TestResult) (s : State) :
    (testStop k r s).guarded = s.guarded := by
  unfold testStop
  (repeat' split) <;> simp [hk]

@[simp] theorem guarded_testValve {k : Grant} (hk : k.Discreet) (s : State) :
    (testValve k s).guarded = s.guarded := by
  unfold testValve
  (repeat' split) <;> simp [hk]

@[simp] theorem guarded_mainRefused {k : Grant} (hk : k.Discreet) (a : Answer) (s : State) :
    (mainRefused k a s).guarded = s.guarded := by
  unfold mainRefused
  (repeat' split) <;> simp [hk]

@[simp] theorem guarded_closeMainFor {k : Grant} (hk : k.Discreet) (r : CloseReason) (s : State) :
    (closeMainFor k r s).guarded = s.guarded := by
  unfold closeMainFor
  dsimp only
  (repeat' split) <;> simp [hk]

@[simp] theorem guarded_openMainAsk {k : Grant} (hk : k.Discreet) (s : State) :
    (openMainAsk k s).guarded = s.guarded := by
  unfold openMainAsk
  dsimp only
  (repeat' split) <;> simp [hk]

@[simp] theorem guarded_latchClose {k : Grant} (hk : k.Discreet) (s : State) :
    (latchClose k s).guarded = s.guarded := by
  unfold latchClose
  (repeat' split) <;> simp [hk]

@[simp] theorem guarded_enterSettle (s : State) : (enterSettle s).guarded = s.guarded := by
  unfold enterSettle
  simp

@[simp] theorem guarded_testClosed (s : State) : (testClosed s).guarded = s.guarded := by
  unfold testClosed
  (repeat' split) <;> simp

@[simp] theorem guarded_testOpened {k : Grant} (hk : k.Discreet) (s : State) :
    (testOpened k s).guarded = s.guarded := by
  unfold testOpened
  (repeat' split) <;> simp [hk]

@[simp] theorem guarded_testGranted {k : Grant} (hk : k.Discreet) (s : State) :
    (testGranted k s).guarded = s.guarded := by
  unfold testGranted
  (repeat' split) <;> simp [hk]

@[simp] theorem guarded_testReopen {k : Grant} (hk : k.Discreet) (s : State) :
    (testReopen k s).guarded = s.guarded := by
  unfold testReopen
  simp [hk]

@[simp] theorem guarded_testAbortReopen {k : Grant} (hk : k.Discreet) (r : TestResult) (s : State) :
    (testAbortReopen k r s).guarded = s.guarded := by
  unfold testAbortReopen
  simp [hk]

@[simp] theorem guarded_measureCheck {k : Grant} (hk : k.Discreet) (s : State) :
    (measureCheck k s).guarded = s.guarded := by
  unfold measureCheck
  (repeat' split) <;> simp [hk]

@[simp] theorem guarded_measureSecond {k : Grant} (hk : k.Discreet) (s : State) :
    (measureSecond k s).guarded = s.guarded := by
  unfold measureSecond
  dsimp only
  (repeat' split) <;> simp [hk]

@[simp] theorem guarded_testSecond {k : Grant} (hk : k.Discreet) (s : State) :
    (testSecond k s).guarded = s.guarded := by
  unfold testSecond
  (repeat' split) <;> simp [hk]

@[simp] theorem guarded_drawSecond (s : State) : (drawSecond s).guarded = s.guarded := by
  unfold drawSecond
  dsimp only
  (repeat' split) <;> simp

@[simp] theorem guarded_lossSecond (s : State) : (lossSecond s).guarded = s.guarded := by
  unfold lossSecond
  dsimp only
  (repeat' split) <;> simp

@[simp] theorem guarded_retrySecond (s : State) : (retrySecond s).guarded = s.guarded := by
  unfold retrySecond
  simp

@[simp] theorem guarded_saltSecond (s : State) : (saltSecond s).guarded = s.guarded := by
  unfold saltSecond
  simp

/-! ### Grants as every event makes them -/

theorem discreet_granted (n : Nat) : (granted n).Discreet := by
  induction n with
  | zero => exact ⟨fun r s => by cases r <;> rfl⟩
  | succ n ih =>
    refine ⟨fun r s => ?_⟩
    cases r
    · exact guarded_rgsGranted ih s
    · exact guarded_fltGranted ih s
    · exact guarded_testGranted ih s

theorem discreet_onGrant : onGrant.Discreet := discreet_granted 16

/-- The latch set: the cause and the second are latched, unless the latch was set before (R151). -/
theorem guarded_latchSet {k : Grant} (hk : k.Discreet) (c : LatchCause) (s : State) : (latchSet k c s).guarded =
    { s.guarded with latch := some (s.lkg.latch.getD { cause := c, seconds := s.mgu.seconds }) } := by
  unfold latchSet
  cases h : s.lkg.latch with
  | some x => simp [State.guarded, h]
  | none =>
    have leak (t : State) : (raise .leak t).guarded = t.guarded := guarded_raise t (by decide)
    have set (x : Latch) : State.guarded { s with lkg := { s.lkg with latch := some x } }
        = { s.guarded with latch := some x } := rfl
    dsimp only
    rw [if_neg (by simp)]
    split <;> simp [hk, leak, set]
end Sys2Proof.Machine
end

section
/-! PROOFS. The rules judged at a zone's condition, the notices of freshness and the moisture sample, by what they change
of the guarded part. -/

namespace Sys2Proof.Machine

variable {s t u : State}

/-! ### TRK and the notices of freshness -/

@[simp] theorem guarded_moveTracker (i : Fin 7) (r : TrackerRun) (s : State) :
    (moveTracker i r s).guarded = s.guarded := by
  unfold moveTracker setTracker
  dsimp only
  split <;> simp

theorem guarded_foldl {α : Type} {f : State → α → State} (hf : ∀ s a, (f s a).guarded = s.guarded) (l : List α)
    (s : State) : (l.foldl f s).guarded = s.guarded := by
  induction l generalizing s with
  | nil => rfl
  | cons a l ih => rw [List.foldl_cons, ih, hf]

@[simp] theorem guarded_trkFresh (s : State) : (trkFresh s).guarded = s.guarded := by
  refine guarded_foldl (fun s i => ?_) _ s
  split <;> simp

/-- A zone at the notice of freshness (R159). -/
def Zone.freshened (now : Nat) (z : Zone) : Zone := { z with lastReport := now, silentDue := false }

theorem guarded_zonesReported (s : State) : (zonesReported s).guarded
    = { s.guarded with zones := Vector.ofFn fun i => s.guarded.zones[i].freshened s.guarded.seconds } := rfl

/-- The guarded part after a good field frame has been counted and the link made FRESH (R4, R159). -/
theorem guarded_linkFresh (s : State) : (linkFresh s).guarded = { s.guarded with
    fieldFresh := true
    zones := if s.link.fieldFresh then s.lkg.zones
      else Vector.ofFn fun i => s.lkg.zones[i].freshened s.mgu.seconds } := by
  cases h : s.link.fieldFresh
  · have back : (fieldBack s).guarded = { s.guarded with fieldFresh := true } := guarded_raise _ (by decide)
    have notices : (freshNotices (fieldBack s)).guarded = { (fieldBack s).guarded with
        zones := Vector.ofFn fun i => (fieldBack s).guarded.zones[i].freshened (fieldBack s).guarded.seconds } := by
      rw [freshNotices, lkgFresh, guarded_zonesReported]
      simp [discreet_onGrant]
    rw [linkFresh_stale h, notices, back]
    rfl
  · rw [linkFresh, if_pos h]
    simp [State.guarded, h]

/-! ### The rules judged at a zone's condition (R157) -/

/-- A rule of kind MOISTURE or SILENCE that is enabled. -/
abbrev Rule.watchesZones (x : Rule) : Prop := x.conf.enabled = true ∧ (x.conf.kind = .moisture ∨ x.conf.kind = .silence)

/-- A zone rule's judgement: it trips, or is ARMED again, or stays. -/
def Rule.zoneJudged (x : Rule) (shows : Bool) (now : Nat) : Rule :=
  if x.watchesZones then
    if x.st = .armed ∧ shows = true then { x with st := .tripped, lastTrip := some now, trips := satAdd 255 x.trips 1 }
    else if x.st = .tripped ∧ x.conf.action = .notify ∧ shows = false then { x with st := .armed, timer := 0 }
    else x
  else x

/-- The condition of a zone rule, of the zones as they stand. -/
def zonesShow (zones : Vector Zone 8) (c : LeakRule) : Bool :=
  match c.zone with
  | some z => if h : z < 8 then zoneShows c.kind zones[z] else false
  | none => zones.toList.any (zoneShows c.kind)

theorem zoneCondition_eq (s : State) (c : LeakRule) : zoneCondition s c = zonesShow s.lkg.zones c := rfl

/-- A trip changes its rule, raises LEAK and, of a SHUT rule, leaves the latch set (R157). -/
theorem tripRule_spec {k : Grant} (hk : k.Discreet) (hs : SafeGrant k) (i : Fin 16) (s : State) :
    ∃ latch, (tripRule k i s).guarded = { s.guarded with
        rules := s.lkg.rules.set i { s.lkg.rules[i] with
          st := .tripped, lastTrip := some s.mgu.seconds, trips := satAdd 255 s.lkg.rules[i].trips 1 }
        latch := latch }
      ∧ (s.lkg.latch.isSome → latch.isSome) ∧ (s.lkg.rules[i].conf.action = .shut → latch.isSome)
      ∧ (tripRule k i s).flagSet .leak := by
  unfold tripRule
  dsimp only
  split
  · refine ⟨_, (guarded_latchSet hk _ _).trans (by rw [guarded_raise _ (by decide)]; rfl), fun _ => rfl, fun _ => rfl, ?_⟩
    exact reach_flagSet (reach_latchSet _ _ hs .same) _ (flagSet_raise _ _)
  · exact ⟨s.lkg.latch, by rw [guarded_raise _ (by decide)]; rfl, id, fun h => absurd h ‹_›, flagSet_raise _ _⟩

/-- A zone rule that its judgement trips. -/
abbrev Rule.tripsOn (x : Rule) (shows : Bool) : Prop := x.watchesZones ∧ x.st = .armed ∧ shows = true

/-- What a judgement of the zone rules in a list of indices does to `s`, leaving `t` (R157). -/
structure ZoneJudgement (l : List (Fin 16)) (s t : State) : Prop where
  guarded : t.guarded = { s.guarded with rules := t.lkg.rules, latch := t.lkg.latch }
  rules : ∀ j : Fin 16, t.lkg.rules[j] = if j ∈ l
    then s.lkg.rules[j].zoneJudged (zonesShow s.lkg.zones s.lkg.rules[j].conf) s.mgu.seconds else s.lkg.rules[j]
  latch : s.lkg.latch.isSome → t.lkg.latch.isSome
  leak : s.flagSet .leak → t.flagSet .leak
  tripped : ∀ j ∈ l, s.lkg.rules[j].tripsOn (zonesShow s.lkg.zones s.lkg.rules[j].conf) →
    t.flagSet .leak ∧ (s.lkg.rules[j].conf.action = .shut → t.lkg.latch.isSome)

/-- A zone rule's judgement trips it, arms it again or leaves the state. -/
theorem judgeZoneRule_cases (k : Grant) (i : Fin 16) (s : State) :
    let x := s.lkg.rules[i]
    let shows := zonesShow s.lkg.zones x.conf
    (x.tripsOn shows ∧ judgeZoneRule k i s = tripRule k i s)
      ∨ (¬ x.tripsOn shows ∧ judgeZoneRule k i s = setRule i (x.zoneJudged shows s.mgu.seconds) s) := by
  intro x shows
  have judge : judgeZoneRule k i s =
      if x.watchesZones then
        if x.st = .armed ∧ shows = true then tripRule k i s
        else if x.st = .tripped ∧ x.conf.action = .notify ∧ (!shows) = true then
          setRule i { x with st := .armed, timer := 0 } s
        else s
      else s := rfl
  have same : setRule i x s = s := by simp [x, setRule]
  unfold Rule.zoneJudged
  rw [judge]
  by_cases hw : x.watchesZones
  · by_cases ht : x.st = .armed ∧ shows = true
    · exact .inl ⟨⟨hw, ht⟩, by rw [if_pos hw, if_pos ht]⟩
    · refine .inr ⟨fun h => ht h.2, ?_⟩
      rw [if_pos hw, if_neg ht, if_pos hw, if_neg ht]
      by_cases ha : x.st = .tripped ∧ x.conf.action = .notify ∧ shows = false
      · rw [if_pos ha, if_pos (by simpa using ha)]
      · rw [if_neg ha, if_neg (by simpa using ha), same]
  · exact .inr ⟨fun h => hw h.1, by rw [if_neg hw, if_neg hw, same]⟩

theorem zoneJudged_of_trips {x : Rule} {shows : Bool} (h : x.tripsOn shows) (now : Nat) : x.zoneJudged shows now
    = { x with st := .tripped, lastTrip := some now, trips := satAdd 255 x.trips 1 } := by
  rw [Rule.zoneJudged, if_pos h.1, if_pos h.2]

theorem getElem_set_ite {α : Type} {n : Nat} (v : Vector α n) (i j : Fin n) (x : α) :
    (v.set i x)[j] = if j = i then x else v[j] := by
  by_cases h : j = i
  · subst h; simp
  · have : ¬ i.val = j.val := fun e => h (Fin.ext e.symm)
    simp [h, this]

theorem judgeZoneRule_judgement (i : Fin 16) (s : State) : ZoneJudgement [i] s (judgeZoneRule onGrant i s) := by
  rcases judgeZoneRule_cases onGrant i s with ⟨ht, e⟩ | ⟨hn, e⟩
  · obtain ⟨latch, g, mono, shut, leak⟩ := tripRule_spec discreet_onGrant reach_onGrant i s
    rw [e]
    have hr : (tripRule onGrant i s).lkg.rules = _ := congrArg Guarded.rules g
    have hl : (tripRule onGrant i s).lkg.latch = latch := congrArg Guarded.latch g
    refine ⟨by rw [g, hr, hl], fun j => ?_, fun h => hl ▸ mono h, fun _ => leak, fun j hj _ => ?_⟩
    · rw [hr, ← zoneJudged_of_trips ht, getElem_set_ite]
      by_cases h : j = i
      · subst h; simp
      · simp [h]
    · rw [List.mem_singleton.1 hj]
      exact ⟨leak, fun h => hl ▸ shut h⟩
  · rw [e]
    refine ⟨rfl, fun j => ?_, id, id, fun j hj h => ?_⟩
    · rw [setRule_lkg, getElem_set_ite]
      by_cases h : j = i
      · subst h; simp
      · simp [h]
    · rw [List.mem_singleton.1 hj] at h
      exact absurd h hn

theorem ZoneJudgement.zones {l : List (Fin 16)} (h : ZoneJudgement l s t) : t.lkg.zones = s.lkg.zones :=
  congrArg Guarded.zones h.guarded

theorem ZoneJudgement.seconds {l : List (Fin 16)} (h : ZoneJudgement l s t) : t.mgu.seconds = s.mgu.seconds :=
  congrArg Guarded.seconds h.guarded

/-- The zone rules of a list without repetition are judged each once, as the zones stand. -/
theorem foldl_judgement (l : List (Fin 16)) (hl : l.Nodup) (s : State) :
    ZoneJudgement l s (l.foldl (fun s i => judgeZoneRule onGrant i s) s) := by
  induction l generalizing s with
  | nil => exact ⟨rfl, fun _ => rfl, id, id, fun _ h => nomatch h⟩
  | cons i l ih =>
    obtain ⟨hi, hl⟩ := List.nodup_cons.1 hl
    have first := judgeZoneRule_judgement i s
    have rest := ih hl (judgeZoneRule onGrant i s)
    have other (j : Fin 16) (h : j ≠ i) : (judgeZoneRule onGrant i s).lkg.rules[j] = s.lkg.rules[j] := by
      rw [first.rules, if_neg (by simpa using h)]
    rw [List.foldl_cons]
    refine ⟨by rw [rest.guarded, first.guarded], fun j => ?_, fun h => rest.latch (first.latch h),
      fun h => rest.leak (first.leak h), fun j hj ht => ?_⟩
    · rw [rest.rules, first.zones, first.seconds]
      by_cases h : j = i
      · subst h
        rw [if_neg hi, first.rules]
        simp
      · simp [other j h, h]
    · rcases List.mem_cons.1 hj with rfl | hj
      · obtain ⟨leak, shut⟩ := first.tripped j (by simp) ht
        exact ⟨rest.leak leak, fun h => rest.latch (shut h)⟩
      · have h : j ≠ i := fun e => hi (e ▸ hj)
        have := rest.tripped j hj
        rw [other j h, first.zones] at this
        exact this ht

theorem judgeZoneRules_judgement (s : State) : ZoneJudgement (List.finRange 16) s (judgeZoneRules onGrant s) :=
  foldl_judgement _ (List.nodup_finRange 16) s

end Sys2Proof.Machine
end

section
/-! PROOFS. The lanes at a good field frame, and the flag LANE. -/

namespace Sys2Proof.Machine

variable {s t u : State}

/-! ### The moisture sample, by what it leaves -/

/-- A zone after a report (R159). -/
def reportedZone (low now : Nat) : Zone :=
  { wet := low.testBit 0, lowBattery := low.testBit 1, tamper := low.testBit 2, lastReport := now, reported := true
    silent := false, silentDue := false }

/-- The state in which the rules are judged at a zone's report: the zone stored, ZONE raised at a change (R159). -/
def zoneStored (i : Fin 8) (low : Nat) (s : State) : State :=
  let z := s.lkg.zones[i]
  raiseIf (low.testBit 0 != z.wet || low.testBit 1 != z.lowBattery || low.testBit 2 != z.tamper || z.silent) .zone
    (setZone i (reportedZone low s.mgu.seconds) s)

theorem zoneReport_eq (i : Fin 8) (low : Nat) (s : State) :
    zoneReport onGrant i low s = judgeZoneRules onGrant (zoneStored i low s) := rfl

theorem guarded_zoneStored (i : Fin 8) (low : Nat) (s : State) : (zoneStored i low s).guarded
    = { s.guarded with zones := s.lkg.zones.set i (reportedZone low s.mgu.seconds) } := by
  unfold zoneStored
  dsimp only
  rw [guarded_raiseIf _ _ (by decide)]
  rfl

theorem lane_moistureSample (v : Nat) (s : State) : (moistureSample onGrant v s).guarded.lane = s.guarded.lane := by
  unfold moistureSample
  split
  · split
    · rw [zoneReport_eq, (judgeZoneRules_judgement _).guarded, guarded_zoneStored]
    · rfl
  · rw [guarded_raise _ (by decide)]
    rfl

theorem lane_moistureFrame (outs : Vector LaneOut 32) (s : State) :
    (moistureFrame outs s).guarded.lane = s.guarded.lane := by
  unfold moistureFrame
  split
  · exact lane_moistureSample ..
  · rfl

/-! ### LANE (R14) -/

theorem flagSet_framed (slots : Vector Byte 20) (s : State) :
    (framed slots s).flagSet .lane = (s.flagSet .lane || anyMisaligned s.lanes slots) := by
  obtain ⟨a, b, c, d, e⟩ := framed_eq slots s
  rw [e, ← flagSet_raiseIf]
  rfl

/-- LANE after a good frame: set before, or raised by a MISALIGN set in the frame. -/
theorem flagSet_fieldFrame (slots : Vector Byte 20) (s : State) :
    (fieldFrame slots s).flagSet .lane = (s.flagSet .lane || anyMisaligned s.lanes slots) := by
  have lane (v : State) : v.guarded.lane = v.flagSet .lane := rfl
  have fresh : (linkFresh (frameCounted s)).flagSet .lane = s.flagSet .lane := by
    rw [← lane, guarded_linkFresh]
    rfl
  have kept (v : State) : (frameKept slots v).flagSet .lane = v.flagSet .lane := rfl
  have lanes : (frameKept slots (linkFresh (frameCounted s))).lanes = s.lanes := (parts_linkFresh (frameCounted s)).2.1
  rw [fieldFrame_eq, flagSet_emissionTrigger, lanesFrame_eq, ← lane, lane_moistureFrame, lane, flagSet_framed, lanes,
    kept, fresh]

/-- The lanes after a good frame. -/
theorem lanes_fieldFrame (slots : Vector Byte 20) (s : State) :
    (fieldFrame slots s).lanes = lanesAfter s.lanes slots := by
  have lanes : (frameKept slots (linkFresh (frameCounted s))).lanes = s.lanes := (parts_linkFresh (frameCounted s)).2.1
  obtain ⟨e, -⟩ := parts_emissionTrigger (lanesFrame slots (frameKept slots (linkFresh (frameCounted s))))
  obtain ⟨-, l, -⟩ := parts_lanesFrame slots (frameKept slots (linkFresh (frameCounted s)))
  rw [fieldFrame_eq, e, l, lanes]

/-! ### One lane's act, kind by kind (R10 to R12) -/

section

variable {lanes : Vector Lane 32} {slots : Vector Byte 20} {l : Lane}

theorem laneFrame_desc (lanes : Vector Lane 32) (slots : Vector Byte 20) (l : Lane) :
    (laneFrame lanes slots l).1.desc = l.desc := by
  unfold laneFrame
  split
  · dsimp only
    split <;> rfl
  · rfl

theorem laneFrame_disabled (h : l.desc.enabled = false) : laneFrame lanes slots l = (l, LaneOut.silent, false) := by
  simp [laneFrame, h]

theorem laneFrame_levelLike (h : l.desc.enabled = true) (hk : l.desc.kind = .level ∨ l.desc.kind = .mark) :
    laneFrame lanes slots l = ({ l with run := { l.run with level := laneField l.desc slots == 1 } },
      { LaneOut.silent with level := laneField l.desc slots == 1 }, false) := by
  rcases hk with hk | hk <;> simp [laneFrame, h, hk]

theorem laneFrame_count (h : l.desc.enabled = true) (hk : l.desc.kind = .count) :
    laneFrame lanes slots l = ({ l with run := { l.run with reference := laneField l.desc slots, refValid := true } },
      { LaneOut.silent with delta := some (countFrame l.desc (laneField l.desc slots) l.run).2 }, false) := by
  simp [laneFrame, h, hk, countFrame]

theorem laneFrame_value (h : l.desc.enabled = true) (hk : l.desc.kind = .value) :
    let v := valueFrame l.desc (markLevel lanes slots l.desc.mark) (laneField l.desc slots) l.run
    laneFrame lanes slots l = ({ l with run := v.run }, { LaneOut.silent with sample := v.sample }, v.misaligned) := by
  simp [laneFrame, h, hk]

end

/-! ### The assembler of a VALUE lane (R12) -/

section

variable {d : LaneDesc} {r : LaneRun} {field : Nat} {mark : Bool}

theorem appendField_below (h : r.h + d.width < d.w) : appendField d field r
    = ({ r with assembler := r.assembler + field * 2 ^ r.h, h := r.h + d.width, waiting := false }, none) := by
  simp [appendField, h]

theorem appendField_full (h : d.w ≤ r.h + d.width) : appendField d field r
    = ({ r with assembler := 0, h := 0, waiting := d.mark.isSome, lastSample := some (r.assembler + field * 2 ^ r.h) },
        some (r.assembler + field * 2 ^ r.h)) := by
  simp [appendField, h]

/-- Without a mark lane the field is appended. -/
theorem valueFrame_free (h : d.mark = none) : valueFrame d mark field r
    = { run := (appendField d field r).1, sample := (appendField d field r).2, misaligned := false } := by
  simp [valueFrame, h]

/-- A lane that waits for its mark does nothing while the mark is 0. -/
theorem valueFrame_waits {m : Nat} (h : d.mark = some m) (hw : r.waiting = true) :
    valueFrame d false field r = { run := r, sample := none, misaligned := false } := by
  simp [valueFrame, h, hw]

/-- The run state that a marked lane appends to: afresh at its mark, its own otherwise; `broken` is a mark within a
sample. -/
def markedRun (r : LaneRun) (broken : Bool) : LaneRun :=
  { r with assembler := if r.waiting || broken then 0 else r.assembler, h := if r.waiting || broken then 0 else r.h
           misalign := r.misalign || broken }

/-- A marked lane with its mark, or within a sample, appends. -/
theorem valueFrame_marked {m : Nat} (h : d.mark = some m) (ha : r.waiting = false ∨ mark = true) :
    let broken := !r.waiting && mark && decide (0 < r.h)
    valueFrame d mark field r
      = { run := (appendField d field (markedRun r broken)).1, sample := (appendField d field (markedRun r broken)).2
          misaligned := broken } := by
  obtain ⟨level, reference, refValid, a, n, waiting, lastSample, misalign⟩ := r
  cases waiting with
  | true =>
    have : mark = true := by simpa using ha
    simp [valueFrame, markedRun, h, this]
  | false =>
    by_cases hb : mark = true ∧ 0 < n
    · simp [valueFrame, markedRun, h, hb]
    · have : (mark && decide (0 < n)) = false := by simpa using hb
      simp [valueFrame, markedRun, h, this]

end

/-- A VALUE lane whose sample a mark breaks in a good frame (R12). -/
abbrev Lane.brokenBy (l : Lane) (mark : Bool) : Prop :=
  l.desc.enabled = true ∧ l.desc.kind = .value ∧ l.run.waiting = false ∧ 0 < l.run.h ∧ mark = true

/-- MISALIGN is set by a mark within a sample and by nothing else. -/
theorem laneFrame_misaligned (lanes : Vector Lane 32) (slots : Vector Byte 20) (l : Lane) :
    (laneFrame lanes slots l).2.2 = true ↔ l.brokenBy (markLevel lanes slots l.desc.mark) := by
  cases he : l.desc.enabled
  · simp [laneFrame_disabled he, Lane.brokenBy, he]
  · cases hk : l.desc.kind
    case level => simp [laneFrame_levelLike he (.inl hk), Lane.brokenBy, hk]
    case mark => simp [laneFrame_levelLike he (.inr hk), Lane.brokenBy, hk]
    case count => simp [laneFrame_count he hk, Lane.brokenBy, hk]
    case value =>
      rw [laneFrame_value he hk]
      cases hm : l.desc.mark with
      | none => simp [valueFrame_free hm, Lane.brokenBy, markLevel]
      | some m =>
        cases hw : l.run.waiting <;> cases ha : markLevel lanes slots (some m)
        case true.false => simp [valueFrame_waits hm hw, Lane.brokenBy, hw]
        all_goals rw [valueFrame_marked hm (by simp [hw])]; simp [Lane.brokenBy, he, hk, hw]

theorem anyMisaligned_iff (lanes : Vector Lane 32) (slots : Vector Byte 20) : anyMisaligned lanes slots = true ↔
    ∃ j : Fin 32, lanes[j].brokenBy (markLevel lanes slots lanes[j].desc.mark) := by
  simp only [anyMisaligned, List.any_eq_true, List.mem_finRange, true_and, laneFrame_misaligned]

end Sys2Proof.Machine

namespace Sys2Proof.Proofs

open Sys2Proof Sys2Proof.Machine

/-- Settles O4. -/
theorem lanesActOnAGoodFieldFrame : Obligations.LanesActOnAGoodFieldFrame := by
  unfold Obligations.LanesActOnAGoodFieldFrame
  intro slots s i
  refine ⟨_, exec_goodFieldFrame slots s, ?_⟩
  generalize settle s = u
  intro v l raw field out delta breaks
  have lane : (fieldFrame slots u).lanes[i] = (laneFrame u.lanes slots l).1 := by
    rw [lanes_fieldFrame, lanesAfter, Fin.getElem_fin, Vector.getElem_ofFn]
  have offers : out = (laneFrame u.lanes slots l).2.1 := by
    show (laneOuts u.lanes slots)[i] = _
    rw [laneOuts, Fin.getElem_fin, Vector.getElem_ofFn]
  rw [lane, offers]
  refine ⟨laneFrame_desc .., ?flag, fun he => ?off, fun he hk => ?level, fun he hk => ?count, fun he hk hm hw => ?below,
    fun he hk hm hw => ?full, fun he hk m hm => ?marked⟩
  case flag => rw [flagSet_fieldFrame, Bool.or_eq_true, anyMisaligned_iff]
  case off => rw [laneFrame_disabled he]; exact ⟨rfl, rfl⟩
  case level => rw [laneFrame_levelLike he hk]; exact ⟨rfl, rfl⟩
  case count => rw [laneFrame_count he hk]; exact ⟨rfl, rfl⟩
  case below => rw [laneFrame_value he hk, valueFrame_free hm, appendField_below hw]; exact ⟨rfl, rfl⟩
  case full => rw [laneFrame_value he hk, valueFrame_free hm, appendField_full hw, hm]; exact ⟨rfl, rfl⟩
  case marked =>
    intro mark broken afresh a h
    have hmark : markLevel u.lanes slots l.desc.mark = mark := by rw [hm]
    refine ⟨fun hw hz => ?waits, fun ha => ?appends⟩
    case waits =>
      rw [laneFrame_value he hk, hmark, hz, valueFrame_waits hm hw]
      exact ⟨rfl, rfl⟩
    case appends =>
      have hb : (!l.run.waiting && mark && decide (0 < l.run.h)) = decide broken := by
        simp [broken, Bool.and_assoc]
      have hafresh : (l.run.waiting || decide broken) = decide afresh := by simp [afresh]
      have assembler : (markedRun l.run (decide broken)).assembler = a := by simp [markedRun, hafresh, a]
      have count : (markedRun l.run (decide broken)).h = h := by simp [markedRun, hafresh, h]
      rw [laneFrame_value he hk, hmark, valueFrame_marked hm ha, hb]
      refine ⟨fun hlt => ?below, fun hle => ?full⟩
      case below =>
        rw [appendField_below (count ▸ hlt), assembler, count]
        exact ⟨rfl, rfl⟩
      case full =>
        rw [appendField_full (count ▸ hle), assembler, count, hm]
        exact ⟨rfl, rfl⟩

end Sys2Proof.Proofs
end

section
/-! PROOFS. Zones and their rules: at a good field frame, at the internal second and at ZONE_SILENT. -/

namespace Sys2Proof.Machine

variable {s t u : State}

/-! ### What a judgement of the zone rules shows of a rule (R157) -/

/-- A zone shows the condition that a MOISTURE or SILENCE rule watches (R157). -/
abbrev Shows (t : State) (c : LeakRule) : Prop := ∃ z : Fin 8, (c.zone = none ∨ c.zone = some z.val)
  ∧ (if c.kind = .moisture then t.lkg.zones[z].wet else t.lkg.zones[z].silent) = true

theorem zonesShow_iff {c : LeakRule} (h : c.kind = .moisture ∨ c.kind = .silence) (t : State) :
    zonesShow t.lkg.zones c = true ↔ Shows t c := by
  have shows (z : Zone) : zoneShows c.kind z = if c.kind = .moisture then z.wet else z.silent := by
    rcases h with h | h <;> simp [zoneShows, h]
  unfold zonesShow Shows
  cases hz : c.zone with
  | none =>
    simp only [List.any_eq_true, Vector.mem_toList_iff, Vector.mem_iff_getElem, shows, true_or, true_and]
    exact ⟨fun ⟨_, ⟨i, hi, rfl⟩, h⟩ => ⟨⟨i, hi⟩, h⟩, fun ⟨z, h⟩ => ⟨_, ⟨z.val, z.isLt, rfl⟩, h⟩⟩
  | some n =>
    by_cases hn : n < 8
    · simp only [hn, dite_true, shows, reduceCtorEq, Option.some.injEq, false_or]
      exact ⟨fun h => ⟨⟨n, hn⟩, rfl, h⟩, fun ⟨z, e, h⟩ => by subst e; exact h⟩
    · simp only [hn, dite_false, Bool.false_eq_true, reduceCtorEq, Option.some.injEq, false_or, false_iff]
      rintro ⟨z, rfl, -⟩
      exact hn z.isLt

/-- What comes of a judged zone rule: `x` before, `y` after, in the state `t`. -/
abbrev JudgedAs (x y : Rule) (t : State) : Prop :=
  (x.watchesZones → x.st = .armed → Shows t x.conf → t.flagSet .leak
      ∧ y = { x with st := .tripped, lastTrip := some t.mgu.seconds, trips := min 255 (x.trips + 1) }
      ∧ (x.conf.action = .shut → t.lkg.latch.isSome))
    ∧ (x.watchesZones → x.st = .tripped → x.conf.action = .notify → ¬ Shows t x.conf →
      y = { x with st := .armed, timer := 0 })
    ∧ (¬ x.watchesZones ∨ (x.st = .armed ∧ ¬ Shows t x.conf)
        ∨ (x.st = .tripped ∧ (x.conf.action = .shut ∨ Shows t x.conf)) ∨ x.st = .dormant ∨ x.st = .timing → y = x)

/-- A zone rule stays that neither trips nor is armed again. -/
theorem zoneJudged_stays {x : Rule} {shows : Bool} (now : Nat) (h : x.watchesZones → (x.st = .armed ∧ shows = false)
    ∨ (x.st = .tripped ∧ (x.conf.action = .shut ∨ shows = true)) ∨ x.st = .dormant ∨ x.st = .timing) :
    x.zoneJudged shows now = x := by
  unfold Rule.zoneJudged
  split
  · rcases h ‹_› with ⟨hs, hf⟩ | ⟨hs, hf | hf⟩ | hs | hs
    · simp [hs, hf]
    · simp [hs, hf]
    · simp [hs, hf]
    · simp [hs]
    · simp [hs]
  · rfl

theorem judgedAs_zoneJudged {x : Rule} {shows : Bool} (hs : x.watchesZones → (shows = true ↔ Shows t x.conf))
    (ht : x.tripsOn shows → t.flagSet .leak ∧ (x.conf.action = .shut → t.lkg.latch.isSome)) :
    JudgedAs x (x.zoneJudged shows t.mgu.seconds) t := by
  refine ⟨fun hw ha hc => ?trips, fun hw hst ha hc => ?rearms, fun h => ?stays⟩
  case trips =>
    have on : x.tripsOn shows := ⟨hw, ha, (hs hw).2 hc⟩
    exact ⟨(ht on).1, zoneJudged_of_trips on _, (ht on).2⟩
  case rearms =>
    have : shows = false := Bool.eq_false_of_not_eq_true fun e => hc ((hs hw).1 e)
    rw [Rule.zoneJudged, if_pos hw, if_neg (by simp [this]), if_pos ⟨hst, ha, this⟩]
  case stays =>
    refine zoneJudged_stays _ fun hw => ?_
    rcases h with h | ⟨ha, hc⟩ | ⟨hst, h⟩ | h
    · exact absurd hw h
    · exact .inl ⟨ha, Bool.eq_false_of_not_eq_true fun e => hc ((hs hw).1 e)⟩
    · exact .inr (.inl ⟨hst, h.imp id (hs hw).2⟩)
    · exact .inr (.inr h)

/-- A judgement of all zone rules is one in a later state that keeps the guarded part and the flags. -/
theorem ZoneJudgement.after {l : List (Fin 16)} (h : ZoneJudgement l s t) (g : u.guarded = t.guarded)
    (hf : t.flagSet .leak → u.flagSet .leak) : ZoneJudgement l s u := by
  have rules : u.lkg.rules = t.lkg.rules := congrArg Guarded.rules g
  have latch : u.lkg.latch = t.lkg.latch := congrArg Guarded.latch g
  refine ⟨by rw [g, h.guarded, rules, latch], fun j => by rw [rules, h.rules], fun e => latch ▸ h.latch e,
    fun e => hf (h.leak e), fun j hj e => ⟨hf (h.tripped j hj e).1, fun a => latch ▸ (h.tripped j hj e).2 a⟩⟩

theorem ZoneJudgement.judgedAs (h : ZoneJudgement (List.finRange 16) s t) (r : Fin 16) :
    JudgedAs s.lkg.rules[r] t.lkg.rules[r] t := by
  have judged := h.rules r
  rw [if_pos (List.mem_finRange r), ← h.zones, ← h.seconds] at judged
  rw [judged]
  have tripped := h.tripped r (List.mem_finRange r)
  rw [← h.zones] at tripped
  exact judgedAs_zoneJudged (fun hw => zonesShow_iff hw.2 t) tripped

/-! ### ZONE_SILENT (R157, R159) -/

/-- The state in which the rules are judged when a zone falls SILENT. -/
def zoneSilenced (i : Fin 8) (s : State) : State :=
  raise .zone (setZone i { s.lkg.zones[i] with silent := true, silentDue := false } s)

theorem guarded_zoneSilenced (i : Fin 8) (s : State) : (zoneSilenced i s).guarded = { s.guarded with
    zones := s.lkg.zones.set i { s.lkg.zones[i] with silent := true, silentDue := false } } := by
  unfold zoneSilenced
  rw [guarded_raise _ (by decide)]
  rfl

theorem zoneSilentEvent_due {i : Fin 8} (h : s.lkg.zones[i].silentDue = true) :
    zoneSilentEvent i s = judgeZoneRules onGrant (zoneSilenced i s) := if_pos h

theorem zoneSilentEvent_idle {i : Fin 8} (h : s.lkg.zones[i].silentDue = false) : zoneSilentEvent i s = s :=
  if_neg (Bool.eq_false_iff.1 h)

theorem flagSet_judgeZoneRules (f : Flag) (h : s.flagSet f) : (judgeZoneRules onGrant s).flagSet f :=
  reach_flagSet (reach_judgeZoneRules _ reach_onGrant .same) f h

/-! ### The internal second (R155, R159, R174) -/

/-- The state in which a second's rules and zones are judged: time, calendar and the counters have gone on. -/
def secondCounted (s : State) : State := countersSecond (calendarSecond (nextSecond s))

/-- The state in which the zone rules are judged at a second. -/
def zonesJudged (s : State) : State := zonesSecond (rulesSecond (secondCounted s))

theorem secondPassed_eq (s : State) : secondPassed s = queueSecond (retrySecond (testSecond onGrant
    (lossSecond (drawSecond (judgeZoneRules onGrant (zonesJudged s)))))) := rfl

theorem guarded_actsSecond (s : State) : (actsSecond s).guarded = s.guarded :=
  guarded_foldl (fun s a => guarded_tickActuator a s) _ s

theorem guarded_countersSecond (s : State) : (countersSecond s).guarded = s.guarded := by
  unfold countersSecond
  simp [guarded_actsSecond]

/-- Time and calendar change the seconds and the hour of the guarded part. -/
theorem guarded_secondCounted (s : State) : (secondCounted s).guarded = { s.guarded with
    seconds := (secondCounted s).mgu.seconds, hour := (secondCounted s).hour } := by
  have time (v : State) : (calendarSecond v).guarded = { v.guarded with
      seconds := (calendarSecond v).mgu.seconds, hour := (calendarSecond v).hour } := by
    unfold calendarSecond
    split <;> rfl
  have seconds (v : State) : v.mgu.seconds = v.guarded.seconds := rfl
  have hour (v : State) : v.hour = v.guarded.hour := rfl
  rw [seconds, hour, secondCounted, guarded_countersSecond, time]
  rfl

theorem judgeRate_zoneRule {x : Rule} (h : x.watchesZones) (q : Nat) : judgeRate q x = x := by
  have : rateCondition x.conf q = none := by
    unfold rateCondition
    rcases h.2 with hk | hk <;> rw [hk]
  rw [judgeRate, this]

theorem judgeHours_inside {hour : Option Nat} {x : Rule} (he : x.conf.enabled = true)
    (hh : insideHours x.conf hour = true) (hd : x.st ≠ .dormant) : judgeHours hour x = x := by
  rw [judgeHours, if_pos he, if_pos hh, if_neg hd]

/-- A zone rule that is inside its hours and not DORMANT is left to the judgement of the zones. -/
theorem rulesSecond_zoneRule {r : Fin 16} (h : s.lkg.rules[r].watchesZones)
    (hh : insideHours s.lkg.rules[r].conf s.hour = true) (hd : s.lkg.rules[r].st ≠ .dormant) :
    (rulesSecond s).lkg.rules[r] = s.lkg.rules[r] := by
  rw [rulesSecond, Fin.getElem_fin, Vector.getElem_ofFn]
  dsimp only
  rw [judgeHours_inside h.1 hh hd, judgeRate_zoneRule h, ite_self]

theorem guarded_rulesSecond (s : State) : (rulesSecond s).guarded
    = { s.guarded with rules := (rulesSecond s).lkg.rules } := rfl

theorem guarded_zonesSecond (s : State) : (zonesSecond s).guarded
    = { s.guarded with zones := Vector.ofFn fun i => zoneSecond s i } := by
  unfold zonesSecond
  rw [guarded_raiseIf _ _ (by decide)]
  rfl

theorem flagSet_zonesSecond {i : Fin 8} (h : (zoneSecond s i).silent ≠ s.lkg.zones[i].silent) :
    (zonesSecond s).flagSet .zone := by
  unfold zonesSecond
  rw [flagSet_raiseIf, Bool.or_eq_true]
  exact .inr (List.any_eq_true.2 ⟨i, List.mem_finRange i, by simpa using h⟩)

theorem flagSet_testSecond (f : Flag) (h : s.flagSet f) : (testSecond onGrant s).flagSet f := by
  unfold testSecond measureSecond
  dsimp only
  split
  · split
    · split
      · exact reach_flagSet (reach_measureCheck _ reach_onGrant .same) f h
      · exact h
    · exact reach_flagSet (reach_measureCheck _ reach_onGrant (reach_putTest _ .same)) f h
  · exact h
  · exact h
  · exact h

/-- After the zone rules are judged, the rest of a second leaves the guarded part and the flags. -/
theorem secondPassed_after (s : State) :
    (secondPassed s).guarded = (judgeZoneRules onGrant (zonesJudged s)).guarded
      ∧ ∀ f, (judgeZoneRules onGrant (zonesJudged s)).flagSet f → (secondPassed s).flagSet f := by
  rw [secondPassed_eq]
  refine ⟨by simp [discreet_onGrant], fun f h => ?_⟩
  have flags (v : State) : (queueSecond (retrySecond v)).flagSet f = v.flagSet f := rfl
  rw [flags]
  exact flagSet_testSecond f (reach_flagSet (reach_lossSecond (reach_drawSecond .same)) f h)

/-- Silence as R159 says it: an enabled window maps to the zone, the link is FRESH, and the limit has passed. -/
abbrev SilentBy (s : State) (now : Nat) (z : Fin 8) : Prop :=
  (∃ j : Fin 8, s.lkg.windows[j].enabled = true ∧ s.lkg.windows[j].zone = z.val) ∧ s.link.fieldFresh = true
    ∧ ∃ l, s.lkg.config.silence = some l ∧ l < (now + 4294967296 - s.lkg.zones[z].lastReport) % 4294967296

theorem zoneMapped_iff (s : State) (z : Fin 8) : zoneMapped s z = true ↔
    ∃ j : Fin 8, s.lkg.windows[j].enabled = true ∧ s.lkg.windows[j].zone = z.val := by
  simp only [zoneMapped, List.any_eq_true, Vector.mem_toList_iff, Vector.mem_iff_getElem, Bool.and_eq_true, beq_iff_eq]
  exact ⟨fun ⟨_, ⟨i, hi, rfl⟩, h⟩ => ⟨⟨i, hi⟩, h⟩, fun ⟨j, h⟩ => ⟨_, ⟨j.val, j.isLt, rfl⟩, h⟩⟩

theorem zoneSilentNow_iff (s : State) (z : Fin 8) : zoneSilentNow s z = true ↔ SilentBy s s.mgu.seconds z := by
  unfold zoneSilentNow SilentBy
  cases s.lkg.config.silence with
  | none => simp
  | some l =>
    simp only [Bool.and_eq_true, zoneMapped_iff, decide_eq_true_eq, and_assoc, Option.some.injEq, exists_eq_left']
    rfl

/-- What the judgement of the zones reads stands as at the start of the second, but for the time. -/
theorem parts_rulesSecond (s : State) : (rulesSecond (secondCounted s)).lkg.windows = s.lkg.windows
    ∧ (rulesSecond (secondCounted s)).lkg.config = s.lkg.config
    ∧ (rulesSecond (secondCounted s)).lkg.zones = s.lkg.zones
    ∧ (rulesSecond (secondCounted s)).link.fieldFresh = s.link.fieldFresh := by
  have g := guarded_secondCounted s
  exact ⟨congrArg Guarded.windows g, congrArg Guarded.config g, congrArg Guarded.zones g, congrArg Guarded.fieldFresh g⟩

theorem judgement_secondPassed (s : State) : ZoneJudgement (List.finRange 16) (zonesJudged s) (secondPassed s) :=
  (judgeZoneRules_judgement _).after (secondPassed_after s).1 ((secondPassed_after s).2 .leak)

theorem guarded_zonesJudged (s : State) : (zonesJudged s).guarded = { (secondCounted s).guarded with
    rules := (rulesSecond (secondCounted s)).lkg.rules
    zones := Vector.ofFn fun i => zoneSecond (rulesSecond (secondCounted s)) i } := by
  rw [zonesJudged, guarded_zonesSecond, guarded_rulesSecond]

/-- Seconds and hour after a second are those the second was judged at. -/
theorem time_secondPassed (s : State) : (secondPassed s).mgu.seconds = (secondCounted s).mgu.seconds
    ∧ (secondPassed s).hour = (secondCounted s).hour := by
  have g := (judgement_secondPassed s).guarded
  rw [guarded_zonesJudged] at g
  have seconds (v : State) : v.mgu.seconds = v.guarded.seconds := rfl
  have hour (v : State) : v.hour = v.guarded.hour := rfl
  rw [seconds, seconds (secondCounted s), hour, hour (secondCounted s), g]
  exact ⟨rfl, rfl⟩

theorem zones_secondPassed (s : State) (z : Fin 8) :
    (secondPassed s).lkg.zones[z] = zoneSecond (rulesSecond (secondCounted s)) z := by
  have zones : (secondPassed s).lkg.zones = _ :=
    (judgement_secondPassed s).zones.trans (congrArg Guarded.zones (guarded_zonesJudged s))
  rw [zones, Fin.getElem_fin, Vector.getElem_ofFn]

/-- SILENT judged at a second, of the state it begins in. -/
theorem zoneSecond_eq (s : State) (z : Fin 8) [Decidable (SilentBy s (secondPassed s).mgu.seconds z)] :
    zoneSecond (rulesSecond (secondCounted s)) z =
      if SilentBy s (secondPassed s).mgu.seconds z then
        { s.lkg.zones[z] with silentDue := s.lkg.zones[z].silentDue || !s.lkg.zones[z].silent }
      else { s.lkg.zones[z] with silent := false, silentDue := false } := by
  obtain ⟨windows, config, zones, fresh⟩ := parts_rulesSecond s
  have seconds : (secondPassed s).mgu.seconds = (rulesSecond (secondCounted s)).mgu.seconds := (time_secondPassed s).1
  have silent : zoneSilentNow (rulesSecond (secondCounted s)) z = true
      ↔ SilentBy s (secondPassed s).mgu.seconds z := by
    rw [zoneSilentNow_iff, seconds, SilentBy, SilentBy, windows, config, zones, fresh]
  unfold zoneSecond
  dsimp only
  simp only [silent]
  rw [zones]

/-- The rules that a second's zones are judged by. -/
theorem zonesJudged_rule {s : State} {r : Fin 16} (h : s.lkg.rules[r].watchesZones)
    (hh : insideHours s.lkg.rules[r].conf (secondPassed s).hour = true) (hd : s.lkg.rules[r].st ≠ .dormant) :
    (zonesJudged s).lkg.rules[r] = s.lkg.rules[r] := by
  have counted : (secondCounted s).lkg.rules = s.lkg.rules := congrArg Guarded.rules (guarded_secondCounted s)
  have rules : (zonesJudged s).lkg.rules = (rulesSecond (secondCounted s)).lkg.rules :=
    congrArg Guarded.rules (guarded_zonesJudged s)
  rw [(time_secondPassed s).2] at hh
  rw [← counted] at h hh hd ⊢
  rw [rules, rulesSecond_zoneRule h hh hd]

/-! ### The moisture sample of a good field frame (R15, R158) -/

/-- The first index of a table that has a property. -/
theorem find_finRange_some {n : Nat} {p : Fin n → Bool} {i : Fin n} (h : p i = true) (hl : ∀ j < i, ¬ p j = true) :
    (List.finRange n).find? p = some i := by
  rw [← Fin.find?_eq_find?_finRange, Fin.find?_eq_some_iff]
  exact ⟨h, fun j hj => Bool.eq_false_of_not_eq_true (hl j hj)⟩

theorem find_finRange_none {n : Nat} {p : Fin n → Bool} (h : ∀ i, ¬ p i = true) : (List.finRange n).find? p = none := by
  simpa using h

/-- A lane with the moisture-intake flag that reads samples (R8, R15). -/
abbrev Intake (d : LaneDesc) : Prop := d.enabled = true ∧ d.kind = .value ∧ d.moisture = true

theorem intake_iff (d : LaneDesc) : (d.is .value && d.moisture) = true ↔ Intake d := by
  simp [LaneDesc.is, Intake, and_assoc]

theorem moistureOut_some {s : State} {outs : Vector LaneOut 32} {i : Fin 32} (h : Intake s.lanes[i].desc)
    (hl : ∀ j < i, ¬ Intake s.lanes[j].desc) : moistureOut s outs = outs[i].sample := by
  rw [moistureOut, find_finRange_some ((intake_iff _).2 h) fun j hj e => hl j hj ((intake_iff _).1 e)]

theorem moistureOut_none {s : State} {outs : Vector LaneOut 32} (h : ∀ i : Fin 32, ¬ Intake s.lanes[i].desc) :
    moistureOut s outs = none := by
  rw [moistureOut, find_finRange_none fun i e => h i ((intake_iff _).1 e)]

/-- A window takes a sensor address (R158). -/
abbrev Takes (w : ZoneWindow) (a : Nat) : Prop := w.enabled = true ∧ a &&& w.mask = w.base &&& w.mask

theorem windowTakes_iff (w : ZoneWindow) (a : Nat) : windowTakes w a = true ↔ Takes w a := by
  simp only [windowTakes, Bool.and_eq_true, decide_eq_true_eq]
  rfl

theorem zoneOf_some {s : State} {a : Nat} {j : Fin 8} (h : Takes s.lkg.windows[j] a)
    (hl : ∀ k < j, ¬ Takes s.lkg.windows[k] a) : zoneOf s a = some s.lkg.windows[j].zone := by
  rw [zoneOf, find_finRange_some ((windowTakes_iff _ _).2 h) fun k hk e => hl k hk ((windowTakes_iff _ _).1 e)]
  rfl

theorem zoneOf_none {s : State} {a : Nat} (h : ∀ j : Fin 8, ¬ Takes s.lkg.windows[j] a) : zoneOf s a = none := by
  rw [zoneOf, find_finRange_none fun j e => h j ((windowTakes_iff _ _).1 e)]
  rfl

/-- The state in which the moisture sample of a good field frame is taken. -/
def sampled (slots : Vector Byte 20) (s : State) : State :=
  framed slots (frameKept slots (linkFresh (frameCounted s)))

theorem fieldFrame_sampled (slots : Vector Byte 20) (s : State) : fieldFrame slots s
    = emissionTrigger (moistureFrame (laneOuts s.lanes slots) (sampled slots s)) := by
  have lanes : (frameKept slots (linkFresh (frameCounted s))).lanes = s.lanes := (parts_linkFresh (frameCounted s)).2.1
  rw [fieldFrame_eq, lanesFrame_eq, lanes]
  rfl

theorem guarded_emissionTrigger (s : State) : (emissionTrigger s).guarded = s.guarded := by
  rw [emissionTrigger_eq]
  rfl

/-- The zones before the sample: at a freshness notice every last report is the present second (R159). -/
def zonesBefore (s : State) : Vector Zone 8 :=
  if s.link.fieldFresh then s.lkg.zones else Vector.ofFn fun i => s.lkg.zones[i].freshened s.mgu.seconds

theorem guarded_sampled (slots : Vector Byte 20) (s : State) : (sampled slots s).guarded = { s.guarded with
    fieldFresh := true, zones := zonesBefore s, lane := (sampled slots s).flagSet .lane } := by
  have frame (v : State) : (framed slots v).guarded = { v.guarded with lane := (framed slots v).flagSet .lane } := by
    obtain ⟨a, b, c, d, e⟩ := framed_eq slots v
    rw [e]
    rfl
  have kept (v : State) : (frameKept slots v).guarded = v.guarded := rfl
  rw [sampled, frame, kept, guarded_linkFresh]
  rfl

theorem desc_sampled (slots : Vector Byte 20) (s : State) (i : Fin 32) :
    (sampled slots s).lanes[i].desc = s.lanes[i].desc := by
  have lanes : (frameKept slots (linkFresh (frameCounted s))).lanes = s.lanes := (parts_linkFresh (frameCounted s)).2.1
  obtain ⟨a, b, c, d, e⟩ := framed_eq slots (frameKept slots (linkFresh (frameCounted s)))
  rw [sampled, e, lanes]
  simp [lanesAfter, laneFrame_desc]

/-- A frame without a sample of the intake lane. -/
theorem fieldFrame_unsampled {slots : Vector Byte 20} {s : State}
    (h : moistureOut (sampled slots s) (laneOuts s.lanes slots) = none) :
    (fieldFrame slots s).guarded = (sampled slots s).guarded := by
  rw [fieldFrame_sampled, guarded_emissionTrigger, moistureFrame, h]

/-- A frame whose sample comes of an address that no window takes. -/
theorem fieldFrame_unknown {slots : Vector Byte 20} {s : State} {v : Nat}
    (h : moistureOut (sampled slots s) (laneOuts s.lanes slots) = some v)
    (hz : zoneOf (sampled slots s) (v / 256 % 256) = none) :
    (fieldFrame slots s).guarded = { (sampled slots s).guarded with
        unknownSensor := true, lastUnknown := some (v / 256 % 256) }
      ∧ (fieldFrame slots s).flagSet .zone := by
  rw [fieldFrame_sampled, guarded_emissionTrigger, flagSet_emissionTrigger, moistureFrame, h]
  dsimp only
  rw [moistureSample, hz]
  exact ⟨guarded_raise _ (by decide), flagSet_raise _ _⟩

/-- A frame whose sample is a report to a zone. -/
theorem fieldFrame_reported {slots : Vector Byte 20} {s : State} {v : Nat} {z : Fin 8}
    (h : moistureOut (sampled slots s) (laneOuts s.lanes slots) = some v)
    (hz : zoneOf (sampled slots s) (v / 256 % 256) = some z.val) :
    ZoneJudgement (List.finRange 16) (zoneStored z (v % 256) (sampled slots s)) (fieldFrame slots s)
      ∧ ((zoneStored z (v % 256) (sampled slots s)).flagSet .zone → (fieldFrame slots s).flagSet .zone) := by
  have frame : fieldFrame slots s
      = emissionTrigger (judgeZoneRules onGrant (zoneStored z (v % 256) (sampled slots s))) := by
    rw [fieldFrame_sampled, moistureFrame, h]
    dsimp only
    rw [moistureSample, hz]
    dsimp only
    rw [dif_pos z.isLt, zoneReport_eq]
  rw [frame]
  refine ⟨(judgeZoneRules_judgement _).after (guarded_emissionTrigger _) fun e => ?_, fun e => ?_⟩
  · rw [flagSet_emissionTrigger]; exact e
  · rw [flagSet_emissionTrigger]; exact flagSet_judgeZoneRules _ e

/-- What the guarded part says of the zones, the rules and the marks of the sensors. -/
theorem parts_of_guarded {g : Guarded} (h : t.guarded = g) : t.lkg.zones = g.zones ∧ t.lkg.rules = g.rules
    ∧ t.lkg.unknownSensor = g.unknownSensor ∧ t.lkg.lastUnknown = g.lastUnknown ∧ t.lkg.windows = g.windows
    ∧ t.mgu.seconds = g.seconds :=
  ⟨congrArg Guarded.zones h, congrArg Guarded.rules h, congrArg Guarded.unknownSensor h,
    congrArg Guarded.lastUnknown h, congrArg Guarded.windows h, congrArg Guarded.seconds h⟩

theorem parts_sampled (slots : Vector Byte 20) (s : State) : (sampled slots s).lkg.zones = zonesBefore s
    ∧ (sampled slots s).lkg.rules = s.lkg.rules ∧ (sampled slots s).lkg.unknownSensor = s.lkg.unknownSensor
    ∧ (sampled slots s).lkg.lastUnknown = s.lkg.lastUnknown ∧ (sampled slots s).lkg.windows = s.lkg.windows
    ∧ (sampled slots s).mgu.seconds = s.mgu.seconds := parts_of_guarded (guarded_sampled slots s)

theorem zonesBefore_getElem (s : State) (z : Fin 8) : (zonesBefore s)[z] = if s.link.fieldFresh then s.lkg.zones[z]
    else { s.lkg.zones[z] with lastReport := s.mgu.seconds, silentDue := false } := by
  unfold zonesBefore
  split <;> simp [Zone.freshened]

/-- The freshness notice leaves a zone's flags and SILENT. -/
theorem zonesBefore_flags (s : State) (z : Fin 8) : (zonesBefore s)[z].wet = s.lkg.zones[z].wet
    ∧ (zonesBefore s)[z].lowBattery = s.lkg.zones[z].lowBattery ∧ (zonesBefore s)[z].tamper = s.lkg.zones[z].tamper
    ∧ (zonesBefore s)[z].silent = s.lkg.zones[z].silent := by
  rw [zonesBefore_getElem]
  split <;> exact ⟨rfl, rfl, rfl, rfl⟩

theorem flagSet_zoneStored {i : Fin 8} {low : Nat} {z : Zone} (hz : s.lkg.zones[i] = z)
    (h : low.testBit 0 ≠ z.wet ∨ low.testBit 1 ≠ z.lowBattery ∨ low.testBit 2 ≠ z.tamper ∨ z.silent = true) :
    (zoneStored i low s).flagSet .zone := by
  unfold zoneStored
  dsimp only
  rw [flagSet_raiseIf, hz, Bool.or_eq_true]
  exact .inr (by simpa [or_assoc] using h)

/-- The flags of a report are the low three bits of its sample. -/
theorem reportedZone_low (v now : Nat) : reportedZone (v % 256) now = reportedZone v now := by
  have bit (i : Nat) (h : i < 8) : (v % 256).testBit i = v.testBit i := by
    rw [show 256 = 2 ^ 8 from rfl, Nat.testBit_mod_two_pow]
    simp [h]
  simp [reportedZone, bit]

end Sys2Proof.Machine

namespace Sys2Proof.Proofs

open Sys2Proof Sys2Proof.Machine

/-- Settles O41. -/
theorem zonesAreReportedAndTheirRulesTrip : Obligations.ZonesAreReportedAndTheirRulesTrip := by
  unfold Obligations.ZonesAreReportedAndTheirRulesTrip
  intro shows watches judged intake
  refine ⟨fun slots s => ?frame, fun s => ?second, fun z s hd => ?silent,
    fun z s hd => congrArg Host.Outcome.next (zoneSilentEvent_idle hd)⟩
  case silent =>
    have J := judgeZoneRules_judgement (zoneSilenced z s)
    obtain ⟨zones, rules, -⟩ := parts_of_guarded (guarded_zoneSilenced z s)
    refine ⟨_, congrArg Host.Outcome.next (zoneSilentEvent_due hd), ?self, fun j hj => ?other,
      flagSet_judgeZoneRules _ (flagSet_raise _ _), fun r => ?rule⟩
    case self =>
      rw [J.zones, zones, getElem_set_ite, if_pos rfl]
    case other =>
      rw [J.zones, zones, getElem_set_ite, if_neg hj]
    case rule => exact J.judgedAs r
  case second =>
    refine ⟨secondPassed (settle s), rfl, ?_⟩
    generalize settle s = u
    intro v
    have J := judgement_secondPassed u
    refine ⟨fun z => ?zone, fun r hw hh hd => ?rule⟩
    case zone =>
      classical
      intro x silent
      have e := zoneSecond_eq u z
      rw [zones_secondPassed]
      refine ⟨fun h => e.trans (if_pos h), fun h => ⟨e.trans (if_neg h), fun hs => ?flag⟩⟩
      case flag =>
        refine (secondPassed_after u).2 .zone (flagSet_judgeZoneRules _ (flagSet_zonesSecond (i := z) ?_))
        have zones : (rulesSecond (secondCounted u)).lkg.zones = u.lkg.zones := (parts_rulesSecond u).2.2.1
        rw [e.trans (if_neg h), zones, hs]
        exact Bool.false_ne_true
    case rule =>
      have := J.judgedAs r
      rw [zonesJudged_rule hw hh hd] at this
      exact this
  case frame =>
    refine ⟨_, exec_goodFieldFrame slots s, ?_⟩
    generalize settle s = u
    intro v old untouched
    have before : ∀ z : Fin 8, (zonesBefore u)[z] = old z := zonesBefore_getElem u
    obtain ⟨zones, rules, unknown, last, windows, seconds⟩ := parts_sampled slots u
    have unsampled (h : moistureOut (sampled slots u) (laneOuts u.lanes slots) = none) : untouched
        ∧ (fieldFrame slots u).lkg.unknownSensor = u.lkg.unknownSensor
        ∧ (fieldFrame slots u).lkg.lastUnknown = u.lkg.lastUnknown := by
      obtain ⟨fz, fr, fu, fl, -⟩ := parts_of_guarded ((fieldFrame_unsampled h).trans (guarded_sampled slots u))
      exact ⟨⟨fun z => by rw [fz, ← before], fr⟩, fu, fl⟩
    refine ⟨fun h => unsampled (moistureOut_none fun i => by rw [desc_sampled]; exact h i), fun i hi hl => ?_⟩
    have sample : moistureOut (sampled slots u) (laneOuts u.lanes slots) = (laneOuts u.lanes slots)[i].sample :=
      moistureOut_some (by rw [desc_sampled]; exact hi) fun j hj => by rw [desc_sampled]; exact hl j hj
    refine ⟨fun h => unsampled (sample.trans h), fun n hn => ?_⟩
    intro a takes
    have out := sample.trans hn
    have window : ∀ k : Fin 8, (sampled slots u).lkg.windows[k] = u.lkg.windows[k] := fun k => by rw [windows]
    refine ⟨fun h => ?unknown, fun j z hj hk hz => ?report⟩
    case unknown =>
      obtain ⟨g, flag⟩ := fieldFrame_unknown out (zoneOf_none fun j => by rw [window]; exact h j)
      obtain ⟨fz, fr, fu, fl, -⟩ := parts_of_guarded g
      exact ⟨⟨fun z => by rw [fz.trans zones, ← before], fr.trans rules⟩, fu, fl, flag⟩
    case report =>
      obtain ⟨J, flag⟩ := fieldFrame_reported (z := z) out
        ((zoneOf_some (by rw [window]; exact hj) fun k hlt => by rw [window]; exact hk k hlt).trans
          (by rw [window, hz]))
      obtain ⟨sz, sr, su, sl, -⟩ := parts_of_guarded (guarded_zoneStored z (n % 256) (sampled slots u))
      obtain ⟨jz, -, ju, jl, -⟩ := parts_of_guarded J.guarded
      have stored : (fieldFrame slots u).lkg.zones = (zonesBefore u).set z (reportedZone (n % 256) u.mgu.seconds) := by
        rw [J.zones, sz, zones, seconds]
      refine ⟨?self, fun z' hne => ?other, fun hc => flag ?changed, ju.trans (su.trans unknown),
        jl.trans (sl.trans last), fun r => ?rule⟩
      case self => rw [stored, getElem_set_ite, if_pos rfl, reportedZone_low]; rfl
      case other => rw [stored, getElem_set_ite, if_neg hne, ← before]
      case changed =>
        obtain ⟨fw, fb, ft, fs⟩ := zonesBefore_flags u z
        refine flagSet_zoneStored (congrArg (·[z]) zones) ?_
        rw [stored, getElem_set_ite, if_pos rfl] at hc
        rw [fw, fb, ft, fs]
        exact hc
      case rule =>
        have := J.judgedAs r
        rwa [sr.trans rules] at this

end Sys2Proof.Proofs
end

section
/-! PROOFS. Frames: the bits of the slots, the bytes of a reply, and the end of a frame. -/

namespace Sys2Proof.Machine

variable {s t u : State}

/-! ### Bits laid over a slot (R17, R19) -/

/-- An overlay's bits are those of the number laid over in the field, and those of the slot outside it. -/
theorem testBit_overlay (v start width x b : Nat) : (overlay v start width x).testBit b
    = if start ≤ b ∧ b < start + width then x.testBit (b - start) else v.testBit b := by
  have low : v % 2 ^ start < 2 ^ start := Nat.mod_lt _ (Nat.two_pow_pos _)
  have field : 2 ^ start * (x % 2 ^ width) + v % 2 ^ start < 2 ^ (start + width) := by
    have : x % 2 ^ width < 2 ^ width := Nat.mod_lt _ (Nat.two_pow_pos _)
    calc 2 ^ start * (x % 2 ^ width) + v % 2 ^ start < 2 ^ start * (x % 2 ^ width) + 2 ^ start := by omega
      _ = 2 ^ start * (x % 2 ^ width + 1) := by ring
      _ ≤ 2 ^ start * 2 ^ width := Nat.mul_le_mul_left _ this
      _ = 2 ^ (start + width) := (pow_add ..).symm
  have parts : overlay v start width x
      = 2 ^ (start + width) * (v / 2 ^ (start + width)) + (2 ^ start * (x % 2 ^ width) + v % 2 ^ start) := by
    unfold overlay
    ring
  rw [parts, Nat.testBit_two_pow_mul_add _ field, Nat.testBit_two_pow_mul_add _ low]
  by_cases hs : b < start
  · simp [hs, show b < start + width by omega, show ¬ start ≤ b by omega]
  · by_cases hw : b < start + width
    · simp [hs, hw, show start ≤ b by omega, show b - start < width by omega]
    · simp [hw, Nat.testBit_div_two_pow, show b - (start + width) + (start + width) = b by omega]

section

variable {α : Type} {f : Nat → α → Nat} {covers : α → Prop} {b : Nat}
  (leaves : ∀ v a, ¬ covers a → (f v a).testBit b = v.testBit b)

include leaves

/-- A bit that nothing laid over a slot covers is the slot's. -/
theorem testBit_foldl_none {l : List α} (h : ∀ a ∈ l, ¬ covers a) (v : Nat) :
    (l.foldl f v).testBit b = v.testBit b := by
  induction l generalizing v with
  | nil => rfl
  | cons a l ih => rw [List.foldl_cons, ih fun c hc => h c (by simp [hc]), leaves v a (h a (by simp))]

/-- A bit that one thing alone covers is the bit it lays there. -/
theorem testBit_foldl_one {l : List α} {a : α} {bit : Bool} (ha : a ∈ l) (h : ∀ c ∈ l, c ≠ a → ¬ covers c)
    (lays : ∀ v, (f v a).testBit b = bit) (v : Nat) : (l.foldl f v).testBit b = bit := by
  induction l generalizing v with
  | nil => exact nomatch ha
  | cons c l ih =>
    rw [List.foldl_cons]
    by_cases hm : a ∈ l
    · exact ih hm (fun c hc => h c (by simp [hc])) _
    · obtain rfl : a = c := by simpa [hm] using ha
      rw [testBit_foldl_none leaves fun c hc => h c (by simp [hc]) fun e => hm (e ▸ hc), lays]

end

theorem getLsbD_toByte (n : Nat) {b : Nat} (h : b < 8) : (toByte n).getLsbD b = n.testBit b := by
  rw [toByte, BitVec.getLsbD_ofNat, decide_eq_true h, Bool.true_and]

/-! ### Report slots (R17) -/

/-- A descriptor covers a bit of a slot. -/
abbrev FieldCovers (f : ReportField) (slot b : Nat) : Prop :=
  f.enabled = true ∧ f.slot = slot ∧ f.start ≤ b ∧ b < f.start + f.width

theorem testBit_overlayField (s : State) (slot v b : Nat) (f : ReportField) : (overlayField s slot v f).testBit b
    = if FieldCovers f slot b then (indicator s f.source).testBit (b - f.start) else v.testBit b := by
  unfold overlayField
  by_cases h : f.enabled = true ∧ f.slot = slot
  · rw [if_pos h, testBit_overlay]
    simp [FieldCovers, h]
  · rw [if_neg h, if_neg fun c => h ⟨c.1, c.2.1⟩]

theorem reportSlot_eq (s : State) (i : Fin 6) : reportSlot s i = toByte ((List.finRange 24).foldl
    (fun v j => overlayField s i.val v s.link.reportFields[j]) (s.link.reportConst[i]).toNat) := by
  have list : s.link.reportFields.toList = (List.finRange 24).map fun j => s.link.reportFields[j] := by
    apply List.ext_getElem <;> simp
  rw [reportSlot, list, List.foldl_map]

theorem reportSlots_getD (s : State) (i : Fin 6) : (reportSlots s).getD i.val 0 = reportSlot s i := by
  simp [reportSlots]

theorem reportBit_none {i : Fin 6} {b : Nat} (hb : b < 8)
    (h : ∀ j : Fin 24, ¬ FieldCovers s.link.reportFields[j] i.val b) :
    ((reportSlots s).getD i.val 0).getLsbD b = s.link.reportConst[i].getLsbD b := by
  rw [reportSlots_getD, reportSlot_eq, getLsbD_toByte _ hb,
    testBit_foldl_none (covers := fun j : Fin 24 => FieldCovers s.link.reportFields[j] i.val b) ?_ fun j _ => h j]
  · rfl
  · intro v j hj
    rw [testBit_overlayField, if_neg hj]

theorem reportBit_one {i : Fin 6} {b : Nat} (hb : b < 8) {j : Fin 24} (hj : FieldCovers s.link.reportFields[j] i.val b)
    (h : ∀ k : Fin 24, k ≠ j → ¬ FieldCovers s.link.reportFields[k] i.val b) :
    ((reportSlots s).getD i.val 0).getLsbD b
      = (indicator s s.link.reportFields[j].source).testBit (b - s.link.reportFields[j].start) := by
  rw [reportSlots_getD, reportSlot_eq, getLsbD_toByte _ hb]
  refine testBit_foldl_one (covers := fun k : Fin 24 => FieldCovers s.link.reportFields[k] i.val b) ?_
    (List.mem_finRange j) (fun k _ => h k) (fun v => by rw [testBit_overlayField, if_pos hj]) _
  intro v k hk
  rw [testBit_overlayField, if_neg hk]

/-- The n-th bit of a number of flags is the n-th flag. -/
theorem testBit_flagBits (l : List Bool) (n : Nat) : (flagBits l).testBit n = l.getD n false := by
  induction l generalizing n with
  | nil => simp [flagBits]
  | cons b l ih =>
    cases n with
    | zero => cases b <;> simp [flagBits, yes, Nat.testBit_zero]
    | succ n =>
      rw [Nat.testBit_succ, show flagBits (b :: l) / 2 = flagBits l by cases b <;> simp [flagBits, yes]; omega, ih]
      rfl

/-! ### Drive slots (R19) -/

/-- An actuator's command field covers a bit of a slot. -/
abbrev CommandCovers (c : ActuatorRec) (slot b : Nat) : Prop :=
  c.enabled = true ∧ c.slot = slot ∧ c.start ≤ b ∧ b < c.start + c.width

theorem testBit_overlayDrive (s : State) (slot v b : Nat) (a : Actr) : (overlayDrive s slot v a).testBit b
    = if CommandCovers (s.act a).conf slot b then (driveCode a (s.act a)).testBit (b - (s.act a).conf.start)
      else v.testBit b := by
  unfold overlayDrive
  dsimp only
  by_cases h : (s.act a).conf.enabled = true ∧ (s.act a).conf.slot = slot
  · rw [if_pos h, testBit_overlay]
    simp [CommandCovers, h]
  · rw [if_neg h, if_neg fun c => h ⟨c.1, c.2.1⟩]

theorem driveSlots_getD (s : State) (i : Fin 6) : (driveSlots s).getD i.val 0 = driveSlot s i := by
  simp [driveSlots]

theorem mem_allActrs (a : Actr) : a ∈ allActrs := by cases a <;> decide

theorem driveBit_none {i : Fin 6} {b : Nat} (hb : b < 8) (h : ∀ a, ¬ CommandCovers (s.act a).conf i.val b) :
    ((driveSlots s).getD i.val 0).getLsbD b
      = if s.link.gwFresh then s.link.driveBytes[i].getLsbD b else s.link.driveMask[i].getLsbD b := by
  rw [driveSlots_getD, driveSlot, getLsbD_toByte _ hb,
    testBit_foldl_none (covers := fun a => CommandCovers (s.act a).conf i.val b) ?_ fun a _ => h a]
  · split <;> rfl
  · intro v a ha
    rw [testBit_overlayDrive, if_neg ha]

theorem driveBit_one {i : Fin 6} {b : Nat} (hb : b < 8) {a : Actr} (ha : CommandCovers (s.act a).conf i.val b)
    (h : ∀ c, c ≠ a → ¬ CommandCovers (s.act c).conf i.val b) : ((driveSlots s).getD i.val 0).getLsbD b
      = (driveCode a (s.act a)).testBit (b - (s.act a).conf.start) := by
  rw [driveSlots_getD, driveSlot, getLsbD_toByte _ hb]
  refine testBit_foldl_one (covers := fun c => CommandCovers (s.act c).conf i.val b) ?_ (mem_allActrs a) (fun c _ => h c)
    (fun v => by rw [testBit_overlayDrive, if_pos ha]) _
  intro v c hc
  rw [testBit_overlayDrive, if_neg hc]

/-! ### The bytes of a reply (R168, R177) -/

theorem crcShift_eq {w : Nat} (poly : BitVec w) (k : Nat) (c : BitVec w) : crcShift poly k c
    = (List.range k).foldl (fun x _ => if x.msb then (x <<< 1) ^^^ poly else x <<< 1) c := by
  rw [List.foldl_const, List.length_range]
  induction k generalizing c with
  | zero => rfl
  | succ k ih => rw [crcShift, ih, Function.iterate_succ_apply]

theorem escaped_eq (l : List Byte) :
    escaped l = l.flatMap fun b => if b = delimiter ∨ b = escapeByte then [escapeByte, b ^^^ 0x20] else [b] := by
  induction l with
  | nil => rfl
  | cons b l ih => rw [escaped, ih, List.flatMap_cons]

theorem num_two (n : Nat) : num 2 n = [toByte (n / 256), toByte (n % 256)] := by
  simp [num, toByte, BitVec.ofNat, Fin.ofNat]

theorem replyBytes_eq (r : Reply) : replyBytes r = delimiter :: (escaped (0x80 :: r.tag :: r.body
    ++ [toByte ((crc16 (0x80 :: r.tag :: r.body)).toNat / 256), toByte ((crc16 (0x80 :: r.tag :: r.body)).toNat % 256)])
    ++ [delimiter]) := by
  rw [replyBytes, encoded, messageOf, crc16Bytes, num_two]

theorem offerByte_next {r : Reply} {rest : List Reply} (h : s.mgu.replies = r :: rest)
    (hl : s.mgu.sent.getD 0 + 1 < (replyBytes r).length) :
    offerByte s = { s with mgu := { s.mgu with sent := some (s.mgu.sent.getD 0 + 1) } } := by
  rw [offerByte, h]
  exact if_neg (by omega)

theorem offerByte_last {r : Reply} {rest : List Reply} (h : s.mgu.replies = r :: rest)
    (hl : (replyBytes r).length ≤ s.mgu.sent.getD 0 + 1) :
    offerByte s = { s with mgu := { s.mgu with replies := rest, sent := none } } := by
  rw [offerByte, h]
  exact if_pos hl

theorem offeredByte_cons {r : Reply} {rest : List Reply} (h : s.mgu.replies = r :: rest) :
    offeredByte s = (replyBytes r).getD (s.mgu.sent.getD 0) delimiter := by
  rw [offeredByte, h]
  rfl

theorem offered_nil (h : s.mgu.replies = []) : offeredByte s = delimiter ∧ offerByte s = s := by
  rw [offeredByte, offerByte, h]
  exact ⟨rfl, rfl⟩

/-! ### The end of a frame (R6) -/

theorem frameEnd_idle {p : OutPort} (h : (s.transmitter p).sending = none) : frameEnd p s = s := by
  rw [frameEnd, if_neg (by simp [h])]

theorem frameEnd_sending {p : OutPort} (h : (s.transmitter p).sending ≠ none) (hr : p = .gtx → s.restartDue = false) :
    frameEnd p s = afterFrame p s := by
  rw [frameEnd, if_pos (Option.isSome_iff_ne_none.2 h), if_neg fun ⟨e, d⟩ => by simp [hr e] at d]

theorem afterFrame_done {p : OutPort} (h : (s.transmitter p).waiting = false) :
    afterFrame p s = setTransmitter p { sending := none, waiting := false } s := by
  rw [afterFrame, if_neg (by simp [h])]
  rfl

theorem afterFrame_pending {p : OutPort} (h : (s.transmitter p).waiting = true) : afterFrame p s = startFrame p s := by
  rw [afterFrame, if_pos h]

/-- The bit of an indicator that is a number, or one of a flag for each tracker or stage (R17, R176). -/
theorem testBit_locks (s : State) (n : Nat) :
    s.locks.testBit n = if h : n < 7 then decide (s.trackers[n].run.st = .locked) else false := by
  rw [State.locks, testBit_flagBits]
  by_cases h : n < 7 <;> simp [h, State.locked]

theorem testBit_filterDue (s : State) (n : Nat) :
    s.filterDue.testBit n = if h : n < 4 then s.flt.stages[n].due else false := by
  rw [State.filterDue, testBit_flagBits]
  by_cases h : n < 4 <;> simp [h]

end Sys2Proof.Machine

namespace Sys2Proof.Proofs

open Sys2Proof Sys2Proof.Machine

/-- Settles O11. -/
theorem framesAreComposedAsTheirTransmitterStartsThem : Obligations.FramesAreComposedAsTheirTransmitterStartsThem := by
  unfold Obligations.FramesAreComposedAsTheirTransmitterStartsThem
  intro s
  refine ⟨fun p h => ?idle, fun p h hw hr => ?done, fun h hw => ?drive, fun h hw hr => ?report, fun _ => rfl,
    fun h => offered_nil h, fun r rest h => ?reply, fun hf v hv => ?fresh, fun hf => ?stale,
    fun i b hb => ?reportBit, fun i b hb => ?driveBit, ?reports, ?drives⟩
  case idle => exact congrArg Host.Outcome.next (frameEnd_idle h)
  case done => exact congrArg Host.Outcome.next ((frameEnd_sending h hr).trans (afterFrame_done hw))
  case drive =>
    exact congrArg Host.Outcome.next
      ((frameEnd_sending (p := .ftx) h (fun e => nomatch e)).trans (afterFrame_pending (p := .ftx) hw))
  case report =>
    refine ⟨_, congrArg Host.Outcome.next
      ((frameEnd_sending (p := .gtx) h fun _ => hr).trans (afterFrame_pending (p := .gtx) hw)), ?_⟩
    rw [show startFrame .gtx s = startReport s from rfl, startReport_eq]
    exact ⟨rfl, rfl, rfl, rfl, rfl⟩
  case reply =>
    intro body shift crc message escaped sent i
    have hcrc : crc16 body = crc := by
      simp only [crc16, crcShift_eq]
      rfl
    have hsent : replyBytes r = sent := by
      rw [replyBytes_eq, hcrc, escaped_eq]
      rfl
    rw [offeredByte_cons h, hsent]
    exact ⟨rfl, fun hl => offerByte_next h (hsent ▸ hl), fun hl => offerByte_last h (hsent ▸ hl)⟩
  case fresh => rw [fieldSlots, hf, hv]
  case stale => rw [fieldSlots, hf]
  case reportBit =>
    intro covers number source
    refine ⟨fun h => reportBit_none hb h, fun j hj hk => ?_⟩
    rw [reportBit_one hb hj hk]
    cases s.link.reportFields[j].source
    case locks => exact testBit_locks s _
    case filterDue => exact testBit_filterDue s _
    case fieldStale =>
      show (yes (!s.link.fieldFresh)).testBit _ = (if s.link.fieldFresh then 0 else 1).testBit _
      cases s.link.fieldFresh <;> rfl
    all_goals rfl
  case driveBit =>
    intro covers
    refine ⟨fun h => driveBit_none hb h, fun a ha hc => ⟨fun p n hm => ?moving, fun hm => ?still⟩⟩
    case moving => rw [driveBit_one hb ha hc, driveCode, hm]
    case still =>
      rw [driveBit_one hb ha hc, driveCode]
      split
      · exact absurd ‹_› (hm _ _)
      · rfl
  case reports => simp [reportSlots]
  case drives => simp [driveSlots]

end Sys2Proof.Proofs
end

section
/-! PROOFS. Writes of lanes, channels and trackers: the checks of their contents, and what a write sets back. -/

namespace Sys2Proof.Machine

variable {s t u : State}

/-! ### Lanes (R8) -/

theorem lane_val (s : State) (i : Fin 32) : s.lane i.val = s.lanes[i] := dif_pos i.isLt

theorem lane_above {n : Nat} (h : ¬ n < 32) : s.lane n = Lane.reset := dif_neg h

theorem laneRange_eq_false (d : LaneDesc) : laneRange d = false ↔
    d.slot ≤ 19 ∧ d.start ≤ 7 ∧ (1 ≤ d.width ∧ d.width ≤ 8) ∧ d.start + d.width ≤ 8
      ∧ (d.kind = .level ∨ d.kind = .mark → d.width = 1)
      ∧ (d.kind = .value → (d.w = 8 ∨ d.w = 12 ∨ d.w = 16) ∧ d.w % d.width = 0) := by
  cases h : d.kind <;> simp [laneRange, notIn_eq_false, h, and_assoc]
  omega

theorem isMark_iff (s : State) (m : Nat) : s.isMark m = true ↔
    ∃ j : Fin 32, j.val = m ∧ s.lanes[j].desc.enabled = true ∧ s.lanes[j].desc.kind = .mark := by
  by_cases h : m < 32
  · have lane : s.lane m = s.lanes[(⟨m, h⟩ : Fin 32)] := dif_pos h
    simp only [State.isMark, LaneDesc.is, lane, Bool.and_eq_true, beq_iff_eq]
    exact ⟨fun e => ⟨⟨m, h⟩, rfl, e⟩, fun ⟨j, e, k⟩ => by subst e; exact k⟩
  · rw [State.isMark, lane_above h]
    exact ⟨(fun e => nomatch e), fun ⟨j, e, _⟩ => absurd (e ▸ j.isLt) h⟩

/-- The mark lane that a VALUE lane names is another enabled MARK lane. -/
theorem badMark_eq_false (s : State) (i : Fin 32) (d : LaneDesc) : badMark s i.val d = false ↔
    ∀ m, d.kind = .value → d.mark = some m →
      ∃ j : Fin 32, j.val = m ∧ j ≠ i ∧ s.lanes[j].desc.enabled = true ∧ s.lanes[j].desc.kind = .mark := by
  unfold badMark
  cases hm : d.mark with
  | none => simp
  | some m =>
    have mark : (m == i.val || !s.isMark m) = false ↔
        ∃ j : Fin 32, j.val = m ∧ j ≠ i ∧ s.lanes[j].desc.enabled = true ∧ s.lanes[j].desc.kind = .mark := by
      simp only [Bool.or_eq_false_iff, beq_eq_false_iff_ne, Bool.not_eq_false', isMark_iff]
      exact ⟨fun ⟨hne, j, e, k⟩ => ⟨j, e, fun h => hne (by rw [← e, h]), k⟩,
        fun ⟨j, e, hne, k⟩ => ⟨fun h => hne (Fin.ext (e.trans h)), j, e, k⟩⟩
    by_cases hk : d.kind = .value
    · simp only [hk, beq_self_eq_true, Bool.true_and, mark]
      exact ⟨fun h n _ e => by cases e; exact h, fun h => h m trivial rfl⟩
    · simp [hk]

theorem moistureTaken_eq_false (s : State) (i : Fin 32) : moistureTaken s i.val = false ↔
    ∀ j : Fin 32, j ≠ i → s.lanes[j].desc.enabled = true → s.lanes[j].desc.moisture = false := by
  simp [moistureTaken, Fin.ext_iff]

theorem namedAsMark_eq_false (s : State) (i : Nat) : namedAsMark s i = false ↔
    ∀ j : Fin 32, s.lanes[j].desc.enabled = true → s.lanes[j].desc.kind = .value → s.lanes[j].desc.mark ≠ some i := by
  simp [namedAsMark, LaneDesc.is]

theorem laneConflict_eq_false (s : State) (i : Fin 32) (d : LaneDesc) : laneConflict s i.val d = false ↔
    (∀ m, d.kind = .value → d.mark = some m →
        ∃ j : Fin 32, j.val = m ∧ j ≠ i ∧ s.lanes[j].desc.enabled = true ∧ s.lanes[j].desc.kind = .mark)
      ∧ (d.moisture = true → d.kind = .value ∧ d.w = 16
        ∧ ∀ j : Fin 32, j ≠ i → s.lanes[j].desc.enabled = true → s.lanes[j].desc.moisture = false)
      ∧ (¬ (d.enabled = true ∧ d.kind = .mark) → ∀ j : Fin 32, s.lanes[j].desc.enabled = true →
        s.lanes[j].desc.kind = .value → s.lanes[j].desc.mark ≠ some i.val) := by
  have moisture : ((d.moisture && (d.kind != .value || d.w != 16)) = false
      ∧ (d.moisture && moistureTaken s i.val) = false) ↔ (d.moisture = true → d.kind = .value ∧ d.w = 16
        ∧ ∀ j : Fin 32, j ≠ i → s.lanes[j].desc.enabled = true → s.lanes[j].desc.moisture = false) := by
    rw [← moistureTaken_eq_false]
    cases d.moisture <;> simp [and_assoc]
  have named : ((!d.enabled || d.kind != .mark) && namedAsMark s i.val) = false
      ↔ (¬ (d.enabled = true ∧ d.kind = .mark) → ∀ j : Fin 32, s.lanes[j].desc.enabled = true →
        s.lanes[j].desc.kind = .value → s.lanes[j].desc.mark ≠ some i.val) := by
    rw [← namedAsMark_eq_false]
    cases d.enabled <;> cases d.kind <;> simp
  rw [laneConflict, Bool.or_eq_false_iff, Bool.or_eq_false_iff, Bool.or_eq_false_iff, and_assoc, and_assoc,
    badMark_eq_false, named, ← moisture, and_assoc]

theorem storedLane_eq (d : LaneDesc) :
    storedLane d = if d.kind = .value then d else { d with w := 0, mark := none, moisture := false } := by
  unfold storedLane
  cases h : d.kind <;> simp

/-- The lanes after a write of one: its record stored, and each lane that the write hits reset (R9). -/
def lanesStored (i : Nat) (d : LaneDesc) (s : State) : Vector Lane 32 := Vector.ofFn fun j =>
  if j.val = i then laneReset { s.lanes[j] with desc := storedLane d }
  else if (laneHit s i d j.val) then laneReset s.lanes[j] else s.lanes[j]

/-- A channel at the reset notices of a lane's write (R27). -/
def channelNoticed (hit : Nat → Bool) (s : State) (c : Channel) : Channel :=
  if hit c.conf.inA || hits hit c.conf.inB then channelLaneReset (suits s c.conf) c else c

/-- The lanes' part of a lane's write. -/
def lanesReset (i : Nat) (d : LaneDesc) (s : State) : State := { s with lanes := lanesStored i d s }

theorem mchLaneReset_eq (hit : Nat → Bool) (s : State) : mchLaneReset hit s = { s with
    channels := Vector.ofFn fun j => channelNoticed hit s s.channels[j] } := rfl

theorem actsLaneReset_eq (hit : Nat → Bool) (s : State) : actsLaneReset hit s = { s with
    main := actLaneReset hit .main s.main, selector := actLaneReset hit .selector s.selector
    regenRotor := actLaneReset hit .regenRotor s.regenRotor
    filterRotor := actLaneReset hit .filterRotor s.filterRotor } := rfl

theorem storeLane_eq (i : Nat) (d : LaneDesc) (s : State) : storeLane i d s
    = actsLaneReset (laneHit s i d) (mchLaneReset (laneHit s i d) (lanesReset i d s)) := by
  unfold storeLane lanesReset lanesStored
  rfl

theorem storeLane_parts (i : Nat) (d : LaneDesc) (s : State) : storeLane i d s = { s with
    lanes := lanesStored i d s
    channels := Vector.ofFn fun j => channelNoticed (laneHit s i d) (lanesReset i d s) s.channels[j]
    main := actLaneReset (laneHit s i d) .main s.main
    selector := actLaneReset (laneHit s i d) .selector s.selector
    regenRotor := actLaneReset (laneHit s i d) .regenRotor s.regenRotor
    filterRotor := actLaneReset (laneHit s i d) .filterRotor s.filterRotor } := by
  rw [storeLane_eq, actsLaneReset_eq, mchLaneReset_eq]
  dsimp only [lanesReset]

theorem storeLane_frame (i : Nat) (d : LaneDesc) (s : State) : storeLane i d s = { s with
    lanes := (storeLane i d s).lanes, channels := (storeLane i d s).channels, main := (storeLane i d s).main
    selector := (storeLane i d s).selector, regenRotor := (storeLane i d s).regenRotor
    filterRotor := (storeLane i d s).filterRotor } := by
  rw [storeLane_parts]

theorem storeLane_lanes (i : Nat) (d : LaneDesc) (s : State) : (storeLane i d s).lanes = lanesStored i d s := by
  rw [storeLane_parts]

theorem storeLane_act (i : Nat) (d : LaneDesc) (s : State) (a : Actr) :
    (storeLane i d s).act a = actLaneReset (laneHit s i d) a (s.act a) := by
  rw [storeLane_parts]
  cases a <;> dsimp only [State.act]

theorem storeLane_self (i : Fin 32) (d : LaneDesc) (s : State) :
    (storeLane i.val d s).lanes[i] = { desc := storedLane d, run := LaneRun.reset (storedLane d) } := by
  rw [storeLane_lanes]
  simp [lanesStored, laneReset]

theorem storeLane_other {i j : Fin 32} (h : j ≠ i) (d : LaneDesc) (s : State) : (storeLane i.val d s).lanes[j]
    = if laneHit s i.val d j.val then { s.lanes[j] with run := LaneRun.reset s.lanes[j].desc } else s.lanes[j] := by
  have hv : ¬ j.val = i.val := fun e => h (Fin.ext e)
  rw [storeLane_lanes]
  simp [lanesStored, laneReset, hv]

theorem suits_congr (h : t.lanes = s.lanes) (c : ChannelRec) : suits t c = suits s c := by
  unfold suits State.lane
  rw [h]

theorem storeLane_channel (i : Nat) (d : LaneDesc) (s : State) (j : Fin 8) :
    (storeLane i d s).channels[j] = channelNoticed (laneHit s i d) (storeLane i d s) s.channels[j] := by
  have lanes : (storeLane i d s).lanes = (lanesReset i d s).lanes := storeLane_lanes i d s
  have channels : (storeLane i d s).channels
      = Vector.ofFn fun j => channelNoticed (laneHit s i d) (lanesReset i d s) s.channels[j] := by
    rw [storeLane_parts]
  rw [channels, channelNoticed, suits_congr lanes, Fin.getElem_fin, Vector.getElem_ofFn]
  rfl

/-! ### The reset notices (R27, R62) -/

/-- A mode takes its inputs, by the table of R21. -/
abbrev ModeTakes (s : State) (c : ChannelRec) : Prop :=
  let isOf := fun (n : Nat) (k : LaneKind) => (s.lane n).desc.enabled = true ∧ (s.lane n).desc.kind = k
  let isLevel := fun (n : Nat) => isOf n .level ∨ isOf n .mark
  (c.mode = .edgeCount ∨ c.mode = .period ∨ c.mode = .highTime → isLevel c.inA ∧ c.inB = none)
    ∧ (c.mode = .countDelta → isOf c.inA .count ∧ c.inB = none)
    ∧ (c.mode = .gatedCount → (isLevel c.inA ∨ isOf c.inA .count) ∧ ∃ b, c.inB = some b ∧ isLevel b)
    ∧ (c.mode = .valueMean → isOf c.inA .value ∧ c.inB = none)

theorem suits_iff_takes (s : State) (c : ChannelRec) : suits s c = true ↔ ModeTakes s c := by
  have level (n : Nat) : (s.lane n).desc.levelLike = true
      ↔ ((s.lane n).desc.enabled = true ∧ (s.lane n).desc.kind = .level)
        ∨ ((s.lane n).desc.enabled = true ∧ (s.lane n).desc.kind = .mark) := by
    simp [LaneDesc.levelLike, and_or_left]
  have kind (n : Nat) (k : LaneKind) : (s.lane n).desc.is k = true
      ↔ (s.lane n).desc.enabled = true ∧ (s.lane n).desc.kind = k := by
    simp [LaneDesc.is]
  rw [suits_iff]
  cases hm : c.mode <;> simp [ModeTakes, hm, level, kind]

/-- A channel names a reset lane as an input. -/
theorem namesHit_iff (hit : Nat → Bool) (c : ChannelRec) : (hit c.inA || hits hit c.inB) = true
    ↔ hit c.inA = true ∨ ∃ b, c.inB = some b ∧ hit b = true := by
  cases c.inB <;> simp [hits]

/-- A channel that drops its window (R27). -/
abbrev Channel.dropped (c : Channel) (x : ChanCond) : Channel := { c with run := { c.run with
  cond := x, fa := Filter.unadopted, fb := Filter.unadopted, g := 0, n := 0, k := 0, acc := 0, e := 0
  missing := 0, timing := false, f := 0, s := 0 } }

theorem channelNoticed_spec (hit : Nat → Bool) (s : State) (c : Channel) :
    let named := hit c.conf.inA = true ∨ ∃ b, c.conf.inB = some b ∧ hit b = true
    (named → c.run.cond ≠ .off → ModeTakes s c.conf → channelNoticed hit s c = c.dropped .unstarted)
      ∧ (named → c.run.cond ≠ .off → ¬ ModeTakes s c.conf → channelNoticed hit s c = c.dropped .suspended)
      ∧ (¬ named ∨ c.run.cond = .off → channelNoticed hit s c = c) := by
  intro named
  have on (h : named) : channelNoticed hit s c = channelLaneReset (suits s c.conf) c :=
    if_pos ((namesHit_iff hit c.conf).2 h)
  refine ⟨fun h hc ht => ?suits, fun h hc ht => ?unsuited, fun h => ?stays⟩
  case suits =>
    rw [on h, channelLaneReset, if_neg hc, (suits_iff_takes s c.conf).2 ht]
    rfl
  case unsuited =>
    rw [on h, channelLaneReset, if_neg hc, Bool.eq_false_of_not_eq_true (mt (suits_iff_takes s c.conf).1 ht)]
    rfl
  case stays =>
    by_cases hn : named
    · rw [on hn, channelLaneReset, if_pos (h.resolve_left (not_not_intro hn))]
    · exact if_neg (mt (namesHit_iff hit c.conf).1 hn)

theorem positions_length_le (a : Actr) : (positions a).length ≤ 6 := by cases a <;> decide

/-- What an actuator does at the reset notices of its lanes (R62): it recognises nothing and its filters that read a
reset lane are unadopted. -/
theorem actLaneReset_spec (hit : Nat → Bool) (a : Actr) (x : Actuator) :
    let atSwitch := fun k : Nat =>
      x.conf.kind = .switches ∧ k < (positions a).length ∧ hit (perPos x.conf.switchLanes k) = true
    let atEncoder := x.conf.kind = .encoder ∧ hit x.conf.encoderLane = true
    let atStall := ∃ l, x.conf.stallLane = some l ∧ hit l = true
    let r := (actLaneReset hit a x).run
    (∀ k : Fin 6, (atSwitch k.val → r.switches[k] = Filter.unadopted)
        ∧ (¬ atSwitch k.val → r.switches[k] = x.run.switches[k]))
      ∧ (atEncoder → r.enc = EncFilter.unadopted) ∧ (¬ atEncoder → r.enc = x.run.enc)
      ∧ (atStall → r.stall = Filter.unadopted) ∧ (¬ atStall → r.stall = x.run.stall)
      ∧ ((∃ k : Nat, atSwitch k) ∨ atEncoder ∨ atStall → actLaneReset hit a x = { x with run := { x.run with
          switches := r.switches, enc := r.enc, stall := r.stall, recognised := none } })
      ∧ (¬ ((∃ k : Nat, atSwitch k) ∨ atEncoder ∨ atStall) → actLaneReset hit a x = x) := by
  intro atSwitch atEncoder atStall
  have switch (k : Nat) : (x.conf.kind == .switches && decide (k < (positions a).length)
      && hit (perPos x.conf.switchLanes k)) = true ↔ atSwitch k := by
    simp [atSwitch, and_assoc]
  have encoder : (x.conf.kind == .encoder && hit x.conf.encoderLane) = true ↔ atEncoder := by simp [atEncoder]
  have stall : hits hit x.conf.stallLane = true ↔ atStall := by
    cases h : x.conf.stallLane <;> simp [hits, atStall, h]
  have any : ((List.finRange 6).any (fun i : Fin 6 => x.conf.kind == .switches
        && decide (i.val < (positions a).length) && hit (perPos x.conf.switchLanes i.val))
      || (x.conf.kind == .encoder && hit x.conf.encoderLane) || hits hit x.conf.stallLane) = true
      ↔ (∃ k : Nat, atSwitch k) ∨ atEncoder ∨ atStall := by
    simp only [Bool.or_eq_true, List.any_eq_true, List.mem_finRange, true_and, or_assoc, switch, encoder, stall]
    refine or_congr_left ⟨fun ⟨i, h⟩ => ⟨i.val, h⟩, fun ⟨k, h⟩ => ⟨⟨k, ?_⟩, h⟩⟩
    exact Nat.lt_of_lt_of_le h.2.1 (positions_length_le a)
  by_cases named : (∃ k : Nat, atSwitch k) ∨ atEncoder ∨ atStall
  · have e : actLaneReset hit a x = { x with run := { x.run with
        switches := Vector.ofFn fun i : Fin 6 => if x.conf.kind == .switches && decide (i.val < (positions a).length)
          && hit (perPos x.conf.switchLanes i.val) then Filter.unadopted else x.run.switches[i]
        enc := if x.conf.kind == .encoder && hit x.conf.encoderLane then EncFilter.unadopted else x.run.enc
        stall := if hits hit x.conf.stallLane then Filter.unadopted else x.run.stall
        recognised := none } } := if_pos (any.2 named)
    rw [e]
    refine ⟨fun k => ⟨fun h => ?_, fun h => ?_⟩, fun h => if_pos (encoder.2 h), fun h => if_neg (mt encoder.1 h),
      fun h => if_pos (stall.2 h), fun h => if_neg (mt stall.1 h), fun _ => rfl, fun h => absurd named h⟩
    · rw [Fin.getElem_fin, Vector.getElem_ofFn]
      exact if_pos ((switch k.val).2 h)
    · rw [Fin.getElem_fin, Vector.getElem_ofFn]
      exact if_neg (mt (switch k.val).1 h)
  · have e : actLaneReset hit a x = x := if_neg (mt any.1 named)
    rw [e]
    exact ⟨fun k => ⟨fun h => absurd (.inl ⟨k.val, h⟩) named, fun _ => rfl⟩, fun h => absurd (.inr (.inl h)) named,
      fun _ => rfl, fun h => absurd (.inr (.inr h)) named, fun _ => rfl, fun h => absurd h named, fun _ => rfl⟩

/-! ### Channels and trackers (R21, R22, R40 to R42) -/

theorem channelRange_eq_false (c : ChannelRec) : channelRange c = false ↔
    c.inA ≤ 31 ∧ (∀ b, c.inB = some b → b ≤ 31) ∧ (∀ p, c.preset = some p → p ≤ 3)
      ∧ (c.mode ≠ .off → c.x ≠ 0) ∧ (c.mode = .valueMean → c.x ≤ 64) := by
  simp [channelRange, above_eq_false, and_assoc]

theorem trackerRange_eq_false (i : Fin 7) (c : TrackerRec) : trackerRange (maxOf i.val) c = false ↔
    c.source ≤ 7 ∧ c.gain ≠ 0 ∧ c.lo ≤ roleMax i ∧ c.hi ≤ roleMax i ∧ c.lo ≤ c.hi ∧ c.bw ≤ roleMax i
      ∧ c.bn ≤ roleMax i ∧ c.nHi ≤ roleMax i ∧ c.nLo ≤ roleMax i ∧ (2 ≤ c.mLock ∧ c.mLock ≤ 63)
      ∧ (2 ≤ c.kLose ∧ c.kLose ≤ 63) ∧ (1 ≤ c.j ∧ c.j ≤ 62) := by
  have top : maxOf i.val = roleMax i := dif_pos i.isLt
  simp [trackerRange, top, notIn_eq_false, and_assoc]

theorem trackerOrder_eq_false (c : TrackerRec) :
    (decide (c.kLose ≤ c.j) || decide (c.nHi ≤ c.nLo)) = false ↔ c.j < c.kLose ∧ c.nLo < c.nHi := by
  simp

/-- A tracker's run state after its own moves: those of the others stay, and SLT unless it is BRINE_LEVEL. -/
theorem moveTracker_slt {i : Fin 7} (h : i ≠ brineLevel) (r : TrackerRun) (s : State) :
    (moveTracker i r s).slt = s.slt := by
  unfold moveTracker
  dsimp only
  rw [if_neg h]
  simp

/-- What a rebinding of one tracker leaves: the other trackers, its record, and SLT unless it is BRINE_LEVEL. -/
theorem rebindAfterChannel_cases (i : Fin 7) (s : State) :
    rebindAfterChannel i s = s ∨ ∃ r, rebindAfterChannel i s = moveTracker i r s := by
  unfold rebindAfterChannel
  split <;> split
  · exact .inr ⟨_, rfl⟩
  · exact .inl rfl
  · exact .inl rfl
  · exact .inr ⟨_, rfl⟩

/-- What the rebinding of the trackers that a channel feeds leaves of `s` in `t` (R42). -/
structure Rebound (ch : Nat) (s t : State) : Prop where
  off : t.offTracks = s.offTracks
  conf : ∀ k : Fin 7, t.trackers[k].conf = s.trackers[k].conf
  unfed : ∀ k : Fin 7, s.trackers[k].conf.source ≠ ch → t.trackers[k] = s.trackers[k]
  slt : s.trackers[brineLevel].conf.source ≠ ch → t.slt = s.slt

theorem Rebound.refl (ch : Nat) (s : State) : Rebound ch s s := ⟨rfl, fun _ => rfl, fun _ _ => rfl, fun _ => rfl⟩

theorem Rebound.trans {ch : Nat} (h : Rebound ch s t) (g : Rebound ch t u) : Rebound ch s u :=
  ⟨g.off.trans h.off, fun k => (g.conf k).trans (h.conf k),
    fun k e => (g.unfed k (by rwa [h.conf])).trans (h.unfed k e), fun e => (g.slt (by rwa [h.conf])).trans (h.slt e)⟩

theorem rebound_moveTracker {ch : Nat} {i : Fin 7} (h : s.trackers[i].conf.source = ch) (r : TrackerRun) :
    Rebound ch s (moveTracker i r s) := by
  refine ⟨offTracks_moveTracker i r s, fun k => ?_, fun k e => ?_, fun e => moveTracker_slt ?_ r s⟩
  · rw [moveTracker_trackers, getElem_set_ite]
    split
    · subst k; rfl
    · rfl
  · rw [moveTracker_trackers, getElem_set_ite, if_neg (by rintro rfl; exact e h)]
  · rintro rfl
    exact e h

theorem rebound_rebindChannel (ch : Nat) (s : State) : Rebound ch s (rebindChannel ch s) := by
  unfold rebindChannel
  refine List.foldlRecOn (motive := fun (t : State) => Rebound ch s t) _ _ (.refl ch s) fun t h i _ => ?_
  split
  · rcases rebindAfterChannel_cases i t with e | ⟨r, e⟩ <;> rw [e]
    · exact h
    · exact h.trans (rebound_moveTracker ‹_› r)
  · exact h

theorem bound_iff (s : State) (i : Fin 7) : bound s i = true ↔ s.trackers[i].conf.enabled = true
    ∧ modeSuits i (s.channel s.trackers[i].conf.source).conf.mode = true
    ∧ (i = flow → 1 ≤ s.acc.settings.k ∧ s.acc.settings.k ≤ 60000) := by
  unfold bound
  by_cases h : i = flow <;> simp [h, and_assoc]

end Sys2Proof.Machine
end

section
/-! PROOFS. Writes of lanes, channels and trackers, settled. -/

namespace Sys2Proof.Machine

variable {s t u : State}

/-- A stored channel is set back, and the trackers it feeds are rebound (R22, R42). -/
theorem storeChannel_eq (i : Fin 8) (c : ChannelRec) (s : State) : storeChannel i.val c s = rebindChannel i.val
    (setChannel i { conf := c, run := ChannelRun.reset (if c.mode = .off then .off else .unstarted) } s) :=
  dif_pos i.isLt

/-- The state in which a stored tracker's binding is judged. -/
def trackerStored (i : Fin 7) (c : TrackerRec) (s : State) : State := setTracker i { s.trackers[i] with conf := c } s

theorem storeTracker_eq (i : Fin 7) (c : TrackerRec) (s : State) : storeTracker i.val c s
    = moveTracker i (freshRun (trackerStored i c s) i) (trackerStored i c s) := dif_pos i.isLt

theorem trackerStored_trackers (i : Fin 7) (c : TrackerRec) (s : State) :
    (trackerStored i c s).trackers = s.trackers.set i { s.trackers[i] with conf := c } := rfl

theorem storeTracker_trackers (i : Fin 7) (c : TrackerRec) (s : State) : (storeTracker i.val c s).trackers
    = s.trackers.set i { conf := c, run := freshRun (trackerStored i c s) i } := by
  rw [storeTracker_eq, moveTracker_trackers, trackerStored_trackers]
  simp

/-- The run state of a written tracker: SEARCH when it is bound, IDLE when not (R41, R42). -/
theorem freshRun_trackerStored (i : Fin 7) (c : TrackerRec) (s : State)
    [Decidable (c.enabled = true ∧ modeSuits i (s.channel c.source).conf.mode = true
      ∧ (i = flow → 1 ≤ s.acc.settings.k ∧ s.acc.settings.k ≤ 60000))] :
    freshRun (trackerStored i c s) i =
      if c.enabled = true ∧ modeSuits i (s.channel c.source).conf.mode = true
        ∧ (i = flow → 1 ≤ s.acc.settings.k ∧ s.acc.settings.k ≤ 60000)
      then { TrackerRun.idle with st := .search, awaiting := true } else TrackerRun.idle := by
  have conf : (trackerStored i c s).trackers[i].conf = c := by simp [trackerStored, setTracker]
  have rest : (trackerStored i c s).channel = s.channel ∧ (trackerStored i c s).acc = s.acc := ⟨rfl, rfl⟩
  have bound := bound_iff (trackerStored i c s) i
  rw [conf, rest.1, rest.2] at bound
  unfold freshRun
  by_cases h : c.enabled = true ∧ modeSuits i (s.channel c.source).conf.mode = true
      ∧ (i = flow → 1 ≤ s.acc.settings.k ∧ s.acc.settings.k ≤ 60000)
  · rw [if_pos (bound.2 h), if_pos h]
    rfl
  · rw [if_neg (mt bound.1 h), if_neg h]

theorem freshRun_not_locked (s : State) (i : Fin 7) : (freshRun s i).st ≠ .locked := by
  rcases freshRun_cases s i with e | e <;> rw [e] <;> exact nofun

/-- A LOCKED tracker that leaves LOCKED raises LOCK (R52). -/
theorem flagSet_lock {i : Fin 7} {r : TrackerRun} (h : s.trackers[i].run.st = .locked) (hr : r.st ≠ .locked) :
    (moveTracker i r s).flagSet .lock := by
  have crossed : ((s.trackers[i].run.st == .locked) != (r.st == .locked)) = true := by
    rw [h]
    simpa using hr
  have raised : (raiseIf ((s.trackers[i].run.st == .locked) != (r.st == .locked)) .lock
      (setTracker i { s.trackers[i] with run := r } s)).flagSet .lock := by
    rw [flagSet_raiseIf, crossed, Bool.or_true]
  unfold moveTracker
  dsimp only
  split
  · exact reach_flagSet (reach_judgeSalt .same) _ raised
  · exact raised

theorem storeTracker_offTracks (i : Fin 7) (c : TrackerRec) (s : State) :
    (storeTracker i.val c s).offTracks = s.offTracks := by
  rw [storeTracker_eq, offTracks_moveTracker]
  rfl

/-- The lane that a write names, and the VALUE lanes it is the mark of, when it is a MARK lane before or after. -/
theorem laneHit_iff_of_fin (s : State) (i : Fin 32) (d : LaneDesc) : (fun n => laneHit s i.val d n = true)
    = fun n => n = i.val ∨ ((d.kind = .mark ∨ s.lanes[i].desc.kind = .mark)
      ∧ (s.lane n).desc.kind = .value ∧ (s.lane n).desc.mark = some i.val) := by
  funext n
  rw [eq_iff_iff, laneHit_iff, lane_val]

theorem modeTakes_congr (h : t.lanes = s.lanes) (c : ChannelRec) : ModeTakes t c ↔ ModeTakes s c := by
  rw [← suits_iff_takes, ← suits_iff_takes, suits_congr h]

theorem pushReply_act (a : Actr) (tag : Byte) (body : List Byte) (s : State) :
    (pushReply tag body s).act a = s.act a := by
  cases a <;> rfl

end Sys2Proof.Machine

namespace Sys2Proof.Proofs

open Sys2Proof Sys2Proof.Machine

/-- Settles O46. -/
theorem lanesChannelsAndTrackersAreWritten : Obligations.LanesChannelsAndTrackersAreWritten := by
  unfold Obligations.LanesChannelsAndTrackersAreWritten
  intro isOf isLevel takes tag s hs
  refine ⟨fun i d => ?lane, fun i d hi => ?laneIndex, fun i c => ⟨fun hr ht => ?channel, fun hr => ?channelRange,
    fun hr ht => ?channelConflict⟩, fun i c hi => ?channelIndex, fun i c => ?tracker, fun i c hi => ?trackerIndex⟩
  case laneIndex =>
    exact exec_refused (h := writeLane i d) hs rfl rfl (checkTyped_above hi (fun _ => checks_badIndex hi _) d)
  case channelIndex =>
    exact exec_refused (h := writeChannel i c) hs rfl rfl (checkTyped_above hi (fun _ => checks_badIndex hi _) c)
  case trackerIndex =>
    exact exec_refused (h := writeTracker i c) hs rfl rfl (checkTyped_above hi (fun _ => checks_badIndex hi _) c)
  case lane =>
    intro inRange agrees d' hit
    have stored : storedLane d = d' := storedLane_eq d
    have hhit : hit = fun n => laneHit s i.val d n = true := (laneHit_iff_of_fin s i d).symm
    clear_value hit
    subst hhit
    refine ⟨fun hr ha => ?stored, fun hr => ?range, fun hr ha => ?conflict⟩
    case range =>
      exact exec_refused (h := writeLane i.val (some d)) hs rfl rfl
        (checks_range (Nat.le_of_lt_succ i.isLt) (mt (laneRange_eq_false d).1 hr) _)
    case conflict =>
      exact exec_refused (h := writeLane i.val (some d)) hs rfl rfl
        (checks_conflict (Nat.le_of_lt_succ i.isLt) ((laneRange_eq_false d).2 hr)
          (mt (laneConflict_eq_false s i d).1 ha))
    case stored =>
      refine ⟨pushReply tag [0] (storeLane i.val d s), exec_stored (h := writeLane i.val (some d)) hs rfl rfl (checks_passed (Nat.le_of_lt_succ i.isLt)
        ((laneRange_eq_false d).2 hr) ((laneConflict_eq_false s i d).2 ha)) rfl, ?self, fun j hj => ?other,
        fun j => ?noticed, fun a => ?actuator, ?frame⟩
      case self => rw [pushReply_lanes, storeLane_self, stored]
      case other =>
        rw [pushReply_lanes, storeLane_other hj]
        exact ⟨by split <;> rfl, fun h => by rw [if_pos h], fun h => if_neg h⟩
      case noticed =>
        have takes_iff := modeTakes_congr (pushReply_lanes tag [0] (storeLane i.val d s)) s.channels[j].conf
        rw [pushReply_channels, storeLane_channel]
        obtain ⟨suited, unsuited, stays⟩ := channelNoticed_spec (laneHit s i.val d) (storeLane i.val d s) s.channels[j]
        exact ⟨fun h hc ht => suited h hc (takes_iff.1 ht), fun h hc ht => unsuited h hc (mt takes_iff.2 ht), stays⟩
      case actuator =>
        have spec := actLaneReset_spec (laneHit s i.val d) a (s.act a)
        rw [← storeLane_act, ← pushReply_act a tag [0] (storeLane i.val d s)] at spec
        exact spec
      case frame =>
        have frame := storeLane_frame i.val d s
        generalize storeLane i.val d s = v at frame ⊢
        rw [frame]
        rfl
  case channel =>
    have rebound := rebound_rebindChannel i.val
      (setChannel i { conf := c, run := ChannelRun.reset (if c.mode = .off then .off else .unstarted) } s)
    rw [← storeChannel_eq] at rebound
    refine ⟨pushReply tag [0] (storeChannel i.val c s), exec_stored (h := writeChannel i.val (some c)) hs rfl rfl (checks_passed (Nat.le_of_lt_succ i.isLt)
      ((channelRange_eq_false c).2 hr) (by simpa using (suits_iff_takes s c).2 ht)) rfl, ?_⟩
    generalize storeChannel i.val c s = v at rebound ⊢
    obtain ⟨off, conf, unfed, slt⟩ := rebound
    have frame := eq_of_offTracks off
    have channels : v.channels = s.channels.set i
        { conf := c, run := ChannelRun.reset (if c.mode = .off then .off else .unstarted) } := by rw [frame]; rfl
    have replies : v.mgu.replies = s.mgu.replies := by rw [frame]; rfl
    rw [pushReply_channels, pushReply_trackers, pushReply_slt, pushReply_mgu, channels]
    refine ⟨by rw [getElem_set_ite, if_pos rfl], fun j hj => by rw [getElem_set_ite, if_neg hj],
      fun k => ⟨conf k, unfed k⟩, slt, by rw [replies], ?frame⟩
    case frame => rw [frame]; rfl
  case channelRange =>
    exact exec_refused (h := writeChannel i.val (some c)) hs rfl rfl
      (checks_range (Nat.le_of_lt_succ i.isLt) (mt (channelRange_eq_false c).1 hr) _)
  case channelConflict =>
    exact exec_refused (h := writeChannel i.val (some c)) hs rfl rfl
      (checks_conflict (Nat.le_of_lt_succ i.isLt) ((channelRange_eq_false c).2 hr) (by simpa using mt (suits_iff_takes s c).1 ht))
  case tracker =>
    intro top inRange ordered
    refine ⟨fun hr ho => ?stored, fun hr => ?range, fun hr ho => ?conflict⟩
    case range =>
      exact exec_refused (h := writeTracker i.val (some c)) hs rfl rfl
        (checks_range (Nat.le_of_lt_succ i.isLt) (mt (trackerRange_eq_false i c).1 hr) _)
    case conflict =>
      exact exec_refused (h := writeTracker i.val (some c)) hs rfl rfl
        (checks_conflict (Nat.le_of_lt_succ i.isLt) ((trackerRange_eq_false i c).2 hr) (mt (trackerOrder_eq_false c).1 ho))
    case stored =>
      have frame := eq_of_offTracks (storeTracker_offTracks i c s)
      have trackers := storeTracker_trackers i c s
      have lock : s.trackers[i].run.st = .locked → (storeTracker i.val c s).flagSet .lock := fun h => by
        rw [storeTracker_eq]
        exact flagSet_lock (by simpa [trackerStored, setTracker] using h) (freshRun_not_locked _ i)
      have salt : i ≠ brineLevel → (storeTracker i.val c s).slt = s.slt := fun h => by
        rw [storeTracker_eq, moveTracker_slt h]
        rfl
      refine ⟨pushReply tag [0] (storeTracker i.val c s), exec_stored (h := writeTracker i.val (some c)) hs rfl rfl
        (checks_passed (Nat.le_of_lt_succ i.isLt) ((trackerRange_eq_false i c).2 hr)
          ((trackerOrder_eq_false c).2 ho)) rfl, ?_⟩
      generalize storeTracker i.val c s = v at frame trackers lock salt ⊢
      have replies : v.mgu.replies = s.mgu.replies := by rw [frame]
      rw [pushReply_trackers, pushReply_slt, pushReply_mgu]
      refine ⟨?self, fun j hj => ?other, lock, salt, by rw [replies], ?frame⟩
      case self => rw [trackers, getElem_set_ite, if_pos rfl, freshRun_trackerStored]
      case other => rw [trackers, getElem_set_ite, if_neg hj]
      case frame => rw [frame]; rfl

end Sys2Proof.Proofs
end

section
/-! PROOFS. An OPEN channel at a good field frame. -/

namespace Sys2Proof.Machine

/-! ### What an open channel measures from (R24, R25) -/

theorem rising_iff (f g : Filter) : rising f g = true ↔ f.level = some false ∧ g.level = some true := by
  simp [rising]

/-- Filtered input A after a good frame: a COUNT lane and VALUE_MEAN have none to update (R24). -/
def filteredA (presets : Vector Nat 4) (a : LaneOut) (c : Channel) : Filter :=
  if a.delta.isNone && c.conf.mode != .valueMean then filterStep (runLength presets c.conf.preset) a.level c.run.fa
  else c.run.fa

theorem filteredA_eq {presets : Vector Nat 4} {a : LaneOut} {c : Channel} (hd : a.delta = none)
    (hm : c.conf.mode ≠ .valueMean) :
    filteredA presets a c = filterStep (runLength presets c.conf.preset) a.level c.run.fa := by
  simp [filteredA, hd, hm]

/-- Filtered input B after a good frame (R24). -/
def filteredB (presets : Vector Nat 4) (b : LaneOut) (c : Channel) : Filter :=
  if c.conf.inB.isSome then filterStep (runLength presets c.conf.preset) b.level c.run.fb else c.run.fb

/-- The run state an OPEN channel measures from: the frame counted, the filters updated (R24, R25). -/
def beforeMeasure (presets : Vector Nat 4) (a b : LaneOut) (c : Channel) : ChannelRun :=
  { c.run with
    e := satAdd max32 c.run.e 1, missing := 0, fa := filteredA presets a c, fb := filteredB presets b c }

/-- The run state an OPEN channel has after a good frame, before any close (R25). -/
def measuredRun (presets : Vector Nat 4) (a b : LaneOut) (c : Channel) : ChannelRun :=
  measure c.conf a (rising c.run.fa (filteredA presets a c)) (beforeMeasure presets a b c)

theorem channelFrame_opened {presets : Vector Nat 4} {a b : LaneOut} {c : Channel} (h : c.run.cond = .opened) :
    channelFrame presets a b c = { c with run := measuredRun presets a b c } := by
  simp [channelFrame, measuredRun, beforeMeasure, filteredA, filteredB, h]

/-! ### Measuring, mode by mode (R28 to R34) -/

section
variable {c : ChannelRec} {a : LaneOut} {edge : Bool} {r : ChannelRun}

theorem addDelta_counted {y d : Nat} (h : y = 0 ∨ d ≤ y) : r.addDelta y d = r.add d :=
  if_neg (by omega)

theorem addDelta_glitch {y d : Nat} (hy : 0 < y) (hd : y < d) : r.addDelta y d = { r with glitch := true } :=
  if_pos ⟨hy, hd⟩

theorem measure_edgeCount (h : c.mode = .edgeCount) :
    measure c a edge r = { r.add (if edge then 1 else 0) with g := r.g + 1 } := by
  simp only [measure, h]

theorem measure_countDelta {d : Nat} (h : c.mode = .countDelta) (hd : a.delta = some d) :
    measure c a edge r = { r.addDelta c.y d with g := r.g + 1 } := by
  simp only [measure, h, hd, Option.getD_some]

theorem measure_highTime (h : c.mode = .highTime) :
    measure c a edge r = { r.add (if r.fa.level = some true then 1 else 0) with g := r.g + 1 } := by
  simp only [measure, h]

theorem measure_valueMean_some {v : Nat} (h : c.mode = .valueMean) (hv : a.sample = some v) :
    measure c a edge r = { r.add v with k := r.k + 1 } := by
  simp only [measure, h, hv]

theorem measure_valueMean_none (h : c.mode = .valueMean) (hv : a.sample = none) : measure c a edge r = r := by
  simp only [measure, h, hv]

theorem measure_gated_shut (h : c.mode = .gatedCount) (hb : r.fb.level ≠ some true) :
    measure c a edge r = { r with g := r.g + 1 } := by
  simp only [measure, h, if_neg hb]

theorem measure_gated_edge (h : c.mode = .gatedCount) (hb : r.fb.level = some true) (hd : a.delta = none) :
    measure c a edge r = { r.add (if edge then 1 else 0) with g := r.g + 1 } := by
  simp only [measure, h, if_pos hb, hd]

theorem measure_gated_delta {d : Nat} (h : c.mode = .gatedCount) (hb : r.fb.level = some true)
    (hd : a.delta = some d) : measure c a edge r = { r.addDelta c.y d with g := r.g + 1 } := by
  simp only [measure, h, if_pos hb, hd]

theorem measure_period_first (h : c.mode = .period) (ht : r.timing = false) :
    measure c a true r = { r with timing := true, f := 0, n := 0, s := 0 } := by
  simp [measure, h, ht]

theorem measure_period_next (h : c.mode = .period) (ht : r.timing = true) :
    measure c a true r = { r with f := satAdd max32 r.f 1, n := r.n + 1, s := 0 } := by
  simp only [measure, h, ht, if_true]

theorem measure_period_between (h : c.mode = .period) :
    measure c a false r = { r with f := if r.timing then satAdd max32 r.f 1 else r.f, s := r.s + 1 } := by
  cases ht : r.timing <;> simp [measure, h, ht]

theorem addDelta_keeps (y d : Nat) (r : ChannelRun) : (r.addDelta y d).e = r.e ∧ (r.addDelta y d).missing = r.missing
    ∧ (r.addDelta y d).cond = r.cond ∧ (r.addDelta y d).fb = r.fb := by
  unfold ChannelRun.addDelta
  split <;> exact ⟨rfl, rfl, rfl, rfl⟩

/-- No mode measures on the frame count, the missing count, the condition or filter B, and GATED_COUNT counts every
frame in g, the gate open or not. -/
theorem measure_keeps (c : ChannelRec) (a : LaneOut) (edge : Bool) (r : ChannelRun) :
    (measure c a edge r).e = r.e ∧ (measure c a edge r).missing = r.missing ∧ (measure c a edge r).cond = r.cond
      ∧ (measure c a edge r).fb = r.fb ∧ (c.mode = .gatedCount → (measure c a edge r).g = r.g + 1) := by
  cases h : c.mode
  case off => simp [measure, h]
  case edgeCount => simp [measure_edgeCount h, ChannelRun.add]
  case highTime => simp [measure_highTime h, ChannelRun.add]
  case countDelta => simp [measure, h, addDelta_keeps]
  case gatedCount =>
    by_cases hb : r.fb.level = some true
    · cases hd : a.delta
      · simp [measure_gated_edge h hb hd, ChannelRun.add]
      · simp [measure_gated_delta h hb hd, addDelta_keeps]
    · simp [measure_gated_shut h hb]
  case period =>
    cases edge
    · simp [measure_period_between h]
    · cases ht : r.timing
      · simp [measure_period_first h ht]
      · simp [measure_period_next h ht]
  case valueMean =>
    cases hv : a.sample
    · simp [measure_valueMean_none h hv]
    · simp [measure_valueMean_some h hv, ChannelRun.add]

end

end Sys2Proof.Machine

namespace Sys2Proof.Proofs

open Sys2Proof Sys2Proof.Machine

/-- Settles O5: the frame is O3's, and each mode measures from the frame counted and the filters updated. -/
theorem openChannelsMeasureAGoodFieldFrame : Obligations.OpenChannelsMeasureAGoodFieldFrame := by
  unfold Obligations.OpenChannelsMeasureAGoodFieldFrame
  intro slots s i
  obtain ⟨t, taken, -, -, -, -, channels, -⟩ := goodFieldFrameIsTaken slots s
  refine ⟨t, taken, ?_⟩
  generalize settle s = u at channels ⊢
  intro c o f r opened
  let presets := u.presets
  let b := outOfB (laneOuts u.lanes slots) c.conf.inB
  have channel : t.channels[i] = { c with run := measuredRun presets o b c } :=
    (channels i).trans (channelFrame_opened opened)
  have run : r = measure c.conf o (rising c.run.fa (filteredA presets o c)) (beforeMeasure presets o b c) :=
    congrArg Channel.run channel
  have filter (hd : o.delta = none) (hm : c.conf.mode ≠ .valueMean) : filteredA presets o c = f :=
    filteredA_eq hd hm
  obtain ⟨he, hmissing, hcond, hfb, hg⟩ :=
    measure_keeps c.conf o (rising c.run.fa (filteredA presets o c)) (beforeMeasure presets o b c)
  rw [← run] at he hmissing hcond hfb hg
  refine ⟨by rw [channel], he, hmissing, hcond.trans opened, fun hm hd => ?edgeCount,
    fun hm d hd small => ?countDelta, fun hm d hd hy large => ?glitch, fun hm hd => ?highTime,
    fun hm v hv => ?sample, fun hm hv => ?noSample, fun hm l hl => ?gatedCount, fun hm hd => ?period⟩
  case edgeCount =>
    rw [run, measure_edgeCount hm, filter hd (by simp [hm])]
    simp only [rising_iff]
    exact ⟨rfl, filter hd (by simp [hm]), rfl⟩
  case countDelta =>
    rw [run, measure_countDelta hm hd, addDelta_counted small]
    exact ⟨rfl, rfl, rfl⟩
  case glitch =>
    rw [run, measure_countDelta hm hd, addDelta_glitch hy large]
    exact ⟨rfl, rfl, rfl⟩
  case highTime =>
    rw [run, measure_highTime hm, ← filter hd (by simp [hm])]
    exact ⟨rfl, rfl⟩
  case sample =>
    rw [run, measure_valueMean_some hm hv]
    exact ⟨rfl, rfl⟩
  case noSample =>
    rw [run, measure_valueMean_none hm hv]
    exact ⟨rfl, rfl⟩
  case gatedCount =>
    intro fb
    have gate : filteredB presets b c = fb := by
      simp [filteredB, hl, outOfB, fb, b, presets]
    clear_value fb
    subst gate
    refine ⟨hg hm, hfb, fun shut => ?shut, fun opn hd => ?edge, fun opn d hd =>
      ⟨fun small => ?counted, fun hy large => ?limit⟩⟩
    case shut =>
      rw [run, measure_gated_shut hm shut]
      exact ⟨rfl, rfl⟩
    case edge =>
      rw [run, measure_gated_edge hm opn hd, filter hd (by simp [hm])]
      simp only [rising_iff]
      rfl
    case counted =>
      rw [run, measure_gated_delta hm opn hd, addDelta_counted small]
      exact ⟨rfl, rfl⟩
    case limit =>
      rw [run, measure_gated_delta hm opn hd, addDelta_glitch hy large]
      exact ⟨rfl, rfl⟩
  case period =>
    rw [filter hd (by simp [hm])] at run
    refine ⟨fun edge ht => ?first, fun edge ht => ?next, fun between => ?between⟩
    case first =>
      rw [run, (rising_iff ..).2 edge, measure_period_first (r := beforeMeasure presets o b c) hm ht]
      exact ⟨rfl, rfl, rfl, rfl⟩
    case next =>
      rw [run, (rising_iff ..).2 edge, measure_period_next (r := beforeMeasure presets o b c) hm ht]
      exact ⟨rfl, rfl, rfl⟩
    case between =>
      rw [run, Bool.eq_false_of_not_eq_true (mt (rising_iff ..).1 between), measure_period_between hm]
      exact ⟨rfl, rfl, rfl⟩

end Sys2Proof.Proofs
end

section
/-! PROOFS. The close of a channel's window. -/

namespace Sys2Proof.Machine

variable {s t u : State}

/-! ### What the consumers of a result leave (R35) -/

/-- What the consumers of a published result leave: the link, the lanes, the channels and every flag that is set. -/
structure Handed (s t : State) : Prop where
  link : t.link = s.link
  lanes : t.lanes = s.lanes
  channels : t.channels = s.channels
  flags : ∀ f, s.flagSet f → t.flagSet f

theorem Handed.refl (s : State) : Handed s s := ⟨rfl, rfl, rfl, fun _ => id⟩

theorem Handed.trans (h : Handed s t) (g : Handed t u) : Handed s u :=
  ⟨g.link.trans h.link, g.lanes.trans h.lanes, g.channels.trans h.channels, fun f => g.flags f ∘ h.flags f⟩

theorem Handed.of_reach (h : Reach s t) : Handed s t := by
  obtain ⟨link, lanes, channels, -⟩ := reach_parts h
  exact ⟨link, lanes, channels, reach_flagSet h⟩

theorem Handed.reach (h : Handed s t) (g : Reach t u) : Handed s u := h.trans (.of_reach g)

/-- Figures of ACC replaced. -/
theorem handed_acc (a : Account) (s : State) : Handed s { s with acc := a } := ⟨rfl, rfl, rfl, fun _ => id⟩

theorem handed_setTracker (i : Fin 7) (x : Tracker) (s : State) : Handed s (setTracker i x s) :=
  ⟨rfl, rfl, rfl, fun _ => id⟩

theorem Handed.ite {p : Prop} [Decidable p] (h : p → Handed s t) : Handed s (if p then t else s) := by
  split
  · exact h ‹_›
  · exact .refl s

theorem foldl_handed {α : Type} (f : State → α → State) (hf : ∀ s a, Handed s (f s a)) (l : List α) (s : State) :
    Handed s (l.foldl f s) :=
  List.foldlRecOn (motive := Handed s) _ _ (.refl s) fun t h a _ => h.trans (hf t a)

/-! ### ACC's stages (R83 to R93) -/

theorem handed_noteClamp (q : Nat) (s : State) : Handed s (noteClamp q s) :=
  .ite fun _ => (handed_acc _ s).reach (reach_raiseIf _ _ .same)

theorem handed_addSlip (x : Nat) (s : State) : Handed s (addSlip x s) := by
  unfold addSlip
  split
  · exact .refl s
  · exact (handed_acc _ s).reach (reach_raiseIf _ _ .same)

theorem handed_chargeTank (x : TankId) (dl : Nat) (s : State) : Handed s (chargeTank x dl s) := by
  unfold chargeTank
  dsimp only
  split
  · refine .trans (.of_reach (reach_setTank x .same ?_)) (handed_addSlip ..)
    exact ⟨rfl, .inl (Nat.sub_le ..), id⟩
  · exact handed_addSlip ..

theorem handed_charge (dvt dl : Nat) (s : State) : Handed s (charge dvt dl s) := by
  unfold charge
  split
  · exact handed_chargeTank ..
  · split
    · exact handed_acc ..
    · exact handed_addSlip ..

theorem handed_chargeStage (dvt : Nat) (s : State) : Handed s (chargeStage dvt s) :=
  (handed_acc _ s).trans (handed_charge ..)

theorem reach_giveNotices (n : Option (TankId × Bool × Bool)) (s : State) : Reach s (giveNotices n s) := by
  obtain _ | ⟨x, reserve, exhausted⟩ := n
  · exact .same
  · have first : Reach s (if reserve then reserveNotice onGrant x s else s) := by
      split
      · exact reach_reserveNotice _ _ reach_onGrant .same
      · exact .same
    unfold giveNotices
    dsimp only
    split
    · exact reach_exhaustionNotice _ _ reach_onGrant first
    · exact first

theorem handed_inletResult (r : ChanResult) (s : State) : Handed s (inletResult r s) := by
  have volume : Handed s (volumeStage r.z s) := (handed_acc _ s).trans (handed_noteClamp ..)
  have hardness : Handed s (hardnessStage (allowanceStage r.e (volumeStage r.z s))) :=
    (volume.trans (handed_acc _ _)).trans (handed_acc _ _)
  exact ((hardness.trans (handed_chargeStage ..)).reach
    (reach_fltIncrement _ (reach_lkgIncrement _ _ _ reach_onGrant .same))).reach (reach_giveNotices ..)

theorem handed_brineIncrement (p : BrinePhase) (dv : Nat) (s : State) : Handed s (brineIncrement p dv s) := by
  have steps : Reach s (rgsIncrement dv s) := reach_rgsIncrement dv .same
  cases p with
  | none => exact .of_reach steps
  | draw => exact (Handed.of_reach steps).trans (handed_acc ..)
  | refill => exact .of_reach (reach_refillIncrement dv steps)

theorem handed_brineResult (r : ChanResult) (s : State) : Handed s (brineResult r s) :=
  ((handed_acc _ s).trans (handed_noteClamp ..)).trans (handed_brineIncrement ..)

/-! ### The trackers, and the publication (R35, R43) -/

theorem handed_trackerResult (i : Fin 7) (c : ChannelRec) (r : ChanResult) (s : State) :
    Handed s (trackerResult i c r s) :=
  .ite fun _ => (handed_setTracker i _ s).reach (reach_raiseIf _ _ (reach_moveTracker ..))

theorem handed_toTracker (ch : Fin 8) (c : ChannelRec) (r : ChanResult) (i : Fin 7) (s : State) :
    Handed s (toTracker ch c r i s) := by
  refine .ite fun _ => ?_
  dsimp only
  split
  · exact (handed_trackerResult ..).reach (reach_fltFlowUpdate .same)
  · exact handed_trackerResult ..

theorem handed_deliver (ch : Fin 8) (c : ChannelRec) (r : ChanResult) (s : State) : Handed s (deliver ch c r s) := by
  have inlet : Handed s (toInlet ch c.mode r s) := .ite fun _ => handed_inletResult r s
  have brine (u : State) : Handed u (toBrine ch c.mode r u) := .ite fun _ => handed_brineResult r u
  exact (inlet.trans (brine _)).trans (foldl_handed _ (fun s i => handed_toTracker ch c r i s) _ _)

/-- A publication closes its channel and nothing more of the channels, the lanes and the link; CHANNEL is raised when
READY was set already (R35, R36). -/
theorem publication_parts (ch : Fin 8) (c : Channel) (r : ChanResult) (s : State) :
    (publication ch c r s).channels[ch] = c
      ∧ (∀ j : Fin 8, j ≠ ch → (publication ch c r s).channels[j] = s.channels[j])
      ∧ (publication ch c r s).lanes = s.lanes ∧ (publication ch c r s).link = s.link
      ∧ (s.channels[ch].run.ready = true → (publication ch c r s).flagSet .channel) := by
  obtain ⟨link, lanes, channels, flags⟩ := handed_deliver ch s.channels[ch].conf r
    (raiseIf s.channels[ch].run.ready .channel (setChannel ch c s))
  rw [← publication] at link lanes channels flags
  rw [raiseIf_link] at link
  rw [raiseIf_lanes] at lanes
  rw [raiseIf_channels, setChannel] at channels
  rw [channels]
  refine ⟨by rw [getElem_set_ite, if_pos rfl], fun j hj => by rw [getElem_set_ite, if_neg hj], lanes, link,
    fun ready => flags _ ?_⟩
  rw [flagSet_raiseIf, ready, Bool.or_true]

/-! ### The events of a window (R25, R26, R33) -/

theorem exec_channelResult (ch : Fin 8) (s : State) :
    exec (.channelResult ch) s = .next (channelResult ch s) := rfl

theorem exec_periodTimeout (ch : Fin 8) (s : State) :
    exec (.periodTimeout ch) s = .next (periodTimeout ch s) := rfl

theorem exec_windowAbandoned (ch : Fin 8) (s : State) :
    exec (.windowAbandoned ch) s = .next (windowAbandoned ch s) := rfl

section
variable {c : Channel}

/-- The lengths at which a window is full, by mode (R28 to R34). -/
theorem windowFull_iff : windowFull c = true ↔ c.run.cond = .opened
    ∧ ((c.conf.x ≤ c.run.g ∧ (c.conf.mode = .edgeCount ∨ c.conf.mode = .countDelta ∨ c.conf.mode = .gatedCount
          ∨ c.conf.mode = .highTime))
        ∨ (c.conf.x ≤ c.run.k ∧ c.conf.mode = .valueMean)
        ∨ (c.conf.x ≤ c.run.n ∧ c.run.timing = true ∧ c.conf.mode = .period)) := by
  unfold windowFull
  cases c.conf.mode <;> simp

theorem timedOut_iff : timedOut c = true ↔
    c.run.cond = .opened ∧ c.conf.mode = .period ∧ 0 < c.conf.y ∧ c.conf.y ≤ c.run.s := by
  simp [timedOut, and_assoc]

theorem toAbandon_iff : toAbandon c = true ↔ c.run.cond = .opened ∧ 250 ≤ c.run.missing
    ∧ ¬ (c.conf.mode = .period ∧ 0 < c.conf.y ∧ c.conf.y ≤ c.run.s) := by
  rw [toAbandon, Bool.and_eq_true, Bool.and_eq_true, Bool.not_eq_true', ← Bool.not_eq_true, timedOut_iff]
  simp +contextual [and_assoc]

end

/-- A window closed full publishes, and opens anew with the channel's condition kept; in PERIOD the closing edge is the
next first edge (R25, R32, R35). -/
theorem closeFull_frame (c : Channel) : (closeFull c).conf = c.conf ∧ (closeFull c).run.last = some (fullResult c)
    ∧ (closeFull c).run.ready = true ∧ (closeFull c).run.overrun = (c.run.overrun || c.run.ready)
    ∧ (closeFull c).run.cond = c.run.cond ∧ (closeFull c).run.e = 0 ∧ (closeFull c).run.acc = 0 := by
  unfold closeFull
  dsimp only
  split <;> exact ⟨rfl, rfl, rfl, rfl, rfl, rfl, rfl⟩

end Sys2Proof.Machine

namespace Sys2Proof.Proofs

open Sys2Proof Sys2Proof.Machine

/-- Settles O13: each event is taken exactly when it is due, and a publication's consumers leave channels, lanes, link
and flags. -/
theorem windowsCloseAndPublishOneResult : Obligations.WindowsCloseAndPublishOneResult := by
  unfold Obligations.WindowsCloseAndPublishOneResult
  intro ch s c
  refine ⟨fun opened full => ?full, fun opened period limit reached => ?timeout, fun opened missing silent => ?abandoned,
    fun shut => ⟨?_, ?_, ?_⟩⟩
  case full =>
    have taken : channelResult ch s = publication ch (closeFull c) (fullResult c) s :=
      if_pos (windowFull_iff.2 ⟨opened, full⟩)
    obtain ⟨closed, others, lanes, link, flag⟩ := publication_parts ch (closeFull c) (fullResult c) s
    obtain ⟨conf, last, ready, overrun, cond, e, acc⟩ := closeFull_frame c
    rw [exec_channelResult, taken]
    refine ⟨_, rfl, ?_⟩
    rw [closed]
    exact ⟨conf, last, ready, overrun, cond.trans opened, e, acc, flag, others, lanes, link⟩
  case timeout =>
    have taken : periodTimeout ch s = publication ch (closeTimeout c) (timeoutResult c) s :=
      if_pos (timedOut_iff.2 ⟨opened, period, limit, reached⟩)
    obtain ⟨closed, others, lanes, link, -⟩ := publication_parts ch (closeTimeout c) (timeoutResult c) s
    rw [exec_periodTimeout, taken]
    refine ⟨_, rfl, ?_⟩
    rw [closed]
    exact ⟨rfl, rfl, rfl, rfl, rfl, rfl, rfl, rfl, rfl, others, lanes, link⟩
  case abandoned =>
    have taken : windowAbandoned ch s = setChannel ch (abandonWindow c) s :=
      if_pos (toAbandon_iff.2 ⟨opened, missing, silent⟩)
    rw [exec_windowAbandoned, taken]
    rfl
  · exact congrArg Host.Outcome.next (if_neg fun h => shut (windowFull_iff.1 h).1)
  · exact congrArg Host.Outcome.next (if_neg fun h => shut (timedOut_iff.1 h).1)
  · exact congrArg Host.Outcome.next (if_neg fun h => shut (toAbandon_iff.1 h).1)

end Sys2Proof.Proofs
end

section
/-! PROOFS. The trackers at a published result: the account leaves FLOW's K and the trackers as they were, each tracker
takes it on its own. -/

namespace Sys2Proof.Machine

variable {s t u : State}

/-! ### The account keeps its settings (R81 to R95) -/

theorem settings_noteClamp (q : Nat) (s : State) : (noteClamp q s).acc.settings = s.acc.settings := by
  unfold noteClamp
  split <;> simp

theorem settings_addSlip (x : Nat) (s : State) : (addSlip x s).acc.settings = s.acc.settings := by
  unfold addSlip
  split <;> simp

theorem settings_chargeTank (x : TankId) (dl : Nat) (s : State) :
    (chargeTank x dl s).acc.settings = s.acc.settings := by
  unfold chargeTank
  dsimp only
  split <;> simp [settings_addSlip]

theorem settings_charge (dvt dl : Nat) (s : State) : (charge dvt dl s).acc.settings = s.acc.settings := by
  unfold charge
  split
  · exact settings_chargeTank ..
  · split
    · rfl
    · exact settings_addSlip ..

theorem settings_of_reach (h : Reach s t) : t.acc.settings = s.acc.settings := (apart_acc (reach_apart h)).1

theorem settings_inletResult (r : ChanResult) (s : State) : (inletResult r s).acc.settings = s.acc.settings := by
  unfold inletResult
  dsimp only
  rw [settings_of_reach (reach_giveNotices ..),
    settings_of_reach (reach_fltIncrement _ (reach_lkgIncrement _ _ _ reach_onGrant .same)), chargeStage, settings_charge]
  exact settings_noteClamp ..

theorem settings_brineIncrement (p : BrinePhase) (dv : Nat) (s : State) :
    (brineIncrement p dv s).acc.settings = s.acc.settings := by
  have steps : Reach s (rgsIncrement dv s) := reach_rgsIncrement dv .same
  cases p with
  | none => exact settings_of_reach steps
  | draw =>
    have kept := settings_of_reach steps
    exact kept
  | refill => exact settings_of_reach (reach_refillIncrement dv steps)

theorem settings_brineResult (r : ChanResult) (s : State) : (brineResult r s).acc.settings = s.acc.settings :=
  (settings_brineIncrement ..).trans (settings_noteClamp ..)

/-! ### What a result's other consumers leave of one tracker's view (R35, R43) -/

/-- What one tracker reads of the state stands as it did: itself and the settings; a flag that is set stays set. -/
structure Aside (i : Fin 7) (s t : State) : Prop where
  tracker : t.trackers[i] = s.trackers[i]
  settings : t.acc.settings = s.acc.settings
  flags : ∀ f, s.flagSet f → t.flagSet f

variable {i : Fin 7}

theorem Aside.refl (s : State) : Aside i s s := ⟨rfl, rfl, fun _ => id⟩

theorem Aside.trans (h : Aside i s t) (g : Aside i t u) : Aside i s u :=
  ⟨g.tracker.trans h.tracker, g.settings.trans h.settings, fun f => g.flags f ∘ h.flags f⟩

theorem Aside.ite {p : Prop} [Decidable p] (h : Aside i s t) : Aside i s (if p then t else s) := by
  split
  · exact h
  · exact .refl s

theorem Aside.of_calm (calm : Calm s t) (handed : Handed s t) (settings : t.acc.settings = s.acc.settings) :
    Aside i s t := ⟨by rw [calm.trackers], settings, handed.flags⟩

theorem Aside.of_reach (h : Reach s t) : Aside i s t := .of_calm (reach_calm h) (.of_reach h) (settings_of_reach h)

theorem aside_toInlet (ch : Fin 8) (m : ChannelMode) (r : ChanResult) (s : State) : Aside i s (toInlet ch m r s) :=
  .ite (.of_calm (calm_inletResult r s) (handed_inletResult r s) (settings_inletResult r s))

theorem aside_toBrine (ch : Fin 8) (m : ChannelMode) (r : ChanResult) (s : State) : Aside i s (toBrine ch m r s) :=
  .ite (.of_calm ((calm_brineStage ..).trans (calm_brineIncrement ..)) (handed_brineResult r s)
    (settings_brineResult r s))

theorem trackerResult_offTracks (i : Fin 7) (c : ChannelRec) (r : ChanResult) (s : State) :
    (trackerResult i c r s).offTracks = s.offTracks := by
  unfold trackerResult
  split
  · dsimp only
    rw [offTracks_raiseIf, offTracks_moveTracker]
  · rfl

theorem aside_trackerResult {j : Fin 7} (h : j ≠ i) (c : ChannelRec) (r : ChanResult) (s : State) :
    Aside i s (trackerResult j c r s) := by
  refine ⟨?tracker, ?settings, (handed_trackerResult j c r s).flags⟩
  case tracker =>
    unfold trackerResult
    split
    · simp [moveTracker_trackers, Fin.val_inj, h]
    · rfl
  case settings => rw [eq_of_offTracks (trackerResult_offTracks j c r s)]

theorem aside_toTracker {j : Fin 7} (h : j ≠ i) (ch : Fin 8) (c : ChannelRec) (r : ChanResult) (s : State) :
    Aside i s (toTracker ch c r j s) := by
  refine .ite ?_
  dsimp only
  split
  · exact (aside_trackerResult h c r s).trans (.of_reach (reach_fltFlowUpdate .same))
  · exact aside_trackerResult h c r s

/-- The trackers before and after one of them leave its view of a result. -/
theorem aside_foldl {l : List (Fin 7)} (h : i ∉ l) (ch : Fin 8) (c : ChannelRec) (r : ChanResult) (s : State) :
    Aside i s (l.foldl (fun s j => toTracker ch c r j s) s) :=
  List.foldlRecOn (motive := Aside i s) _ _ (.refl s) fun t ht j hj =>
    ht.trans (aside_toTracker (fun e : j = i => h (e ▸ hj)) ch c r t)

/-- A publication comes to a tracker in a state that looks to it as the one published in, and what follows leaves the
tracker as it has become. -/
theorem publication_at (i : Fin 7) (ch : Fin 8) (c' : Channel) (r : ChanResult) (s : State) : ∃ u, Aside i s u
    ∧ Aside i (toTracker ch s.channels[ch].conf r i u) (publication ch c' r s) := by
  obtain ⟨before, after, parts⟩ := List.append_of_mem (List.mem_finRange i)
  have nodup : (before ++ i :: after).Nodup := parts ▸ List.nodup_finRange 7
  have first : i ∉ before := fun h => (List.nodup_append'.1 nodup).2.2 h List.mem_cons_self
  have last : i ∉ after := (List.nodup_cons.1 (List.nodup_append'.1 nodup).2.1).1
  have closed : Aside i s (raiseIf s.channels[ch].run.ready .channel (setChannel ch c' s)) :=
    .trans (⟨rfl, rfl, fun _ => id⟩ : Aside i s (setChannel ch c' s)) (.of_reach (reach_raiseIf _ _ .same))
  unfold publication deliver
  rw [parts, List.foldl_append, List.foldl_cons]
  exact ⟨_, ((closed.trans (aside_toInlet ..)).trans (aside_toBrine ..)).trans (aside_foldl first ..),
    aside_foldl last ..⟩

/-! ### One tracker takes a result or leaves it (R43, R45, R52) -/

theorem takesResults_iff (x : Tracker) : takesResults x = true ↔ x.run.st = .search ∨ x.run.st = .locked := by
  simp [takesResults]

/-- A tracker takes a channel's results (R43). -/
def Tracker.Fed (ch : Fin 8) (x : Tracker) : Prop :=
  x.conf.enabled = true ∧ x.conf.source = ch.val ∧ takesResults x = true

/-- An input's effect on a tracker (R43 to R50). -/
def State.updateOf (s : State) (i : Fin 7) (c : ChannelRec) (r : ChanResult) : Update :=
  applyInput s.trackers[i].conf (inputOf s i c r) s.trackers[i].run

theorem Aside.updateOf (h : Aside i s u) (c : ChannelRec) (r : ChanResult) : u.updateOf i c r = s.updateOf i c r := by
  unfold State.updateOf inputOf
  rw [h.tracker, h.settings]

theorem flagSet_lock_of_crossed {r : TrackerRun}
    (h : ((s.trackers[i].run.st == .locked) != (r.st == .locked)) = true) : (moveTracker i r s).flagSet .lock := by
  have raised : (raiseIf ((s.trackers[i].run.st == .locked) != (r.st == .locked)) .lock
      (setTracker i { s.trackers[i] with run := r } s)).flagSet .lock := by
    rw [flagSet_raiseIf, h, Bool.or_true]
  unfold moveTracker
  dsimp only
  split
  · exact reach_flagSet (reach_judgeSalt .same) _ raised
  · exact raised

theorem trackerResult_left (h : takesResults s.trackers[i] ≠ true) (c : ChannelRec) (r : ChanResult) :
    trackerResult i c r s = s := if_neg h

theorem trackerResult_taken (h : takesResults s.trackers[i] = true) (c : ChannelRec) (r : ChanResult) :
    (trackerResult i c r s).trackers[i] = { s.trackers[i] with run := (s.updateOf i c r).run }
      ∧ ((s.updateOf i c r).track = true → (trackerResult i c r s).flagSet .track)
      ∧ (((s.trackers[i].run.st == .locked) != ((s.updateOf i c r).run.st == .locked)) = true →
          (trackerResult i c r s).flagSet .lock) := by
  have taken : trackerResult i c r s
      = raiseIf (s.updateOf i c r).track .track (moveTracker i (s.updateOf i c r).run s) := if_pos h
  rw [taken]
  refine ⟨?_, fun track => ?_, fun crossed => ?_⟩
  · simp [moveTracker_trackers]
  · rw [flagSet_raiseIf, track, Bool.or_true]
  · exact reach_flagSet (reach_raiseIf _ _ .same) _ (flagSet_lock_of_crossed crossed)

/-- FLT's part of a result does not come back to the tracker. -/
theorem aside_toTracker_self {ch : Fin 8} (h : s.trackers[i].conf.enabled = true ∧ s.trackers[i].conf.source = ch.val)
    (c : ChannelRec) (r : ChanResult) : Aside i (trackerResult i c r s) (toTracker ch c r i s) := by
  unfold toTracker
  rw [if_pos h]
  exact .ite (.of_reach (reach_fltFlowUpdate .same))

theorem toTracker_left {ch : Fin 8} (h : ¬ s.trackers[i].Fed ch) (c : ChannelRec) (r : ChanResult) :
    (toTracker ch c r i s).trackers[i] = s.trackers[i] := by
  by_cases fed : s.trackers[i].conf.enabled = true ∧ s.trackers[i].conf.source = ch.val
  · rw [(aside_toTracker_self fed c r).tracker, trackerResult_left fun takes => h ⟨fed.1, fed.2, takes⟩]
  · rw [toTracker, if_neg fed]

/-- A tracker that a published result does not concern stays as it is (R43). -/
theorem publication_left {ch : Fin 8} (h : ¬ s.trackers[i].Fed ch) (c' : Channel) (r : ChanResult) :
    (publication ch c' r s).trackers[i] = s.trackers[i] := by
  obtain ⟨u, before, after⟩ := publication_at i ch c' r s
  rw [after.tracker, toTracker_left (by rwa [before.tracker]), before.tracker]

/-- A tracker fed by the channel applies its input, and raises TRACK and LOCK as the update says (R43, R45, R52). -/
theorem publication_taken {ch : Fin 8} (h : s.trackers[i].Fed ch) (c' : Channel) (r : ChanResult) :
    (publication ch c' r s).trackers[i]
        = { s.trackers[i] with run := (s.updateOf i s.channels[ch].conf r).run }
      ∧ ((s.updateOf i s.channels[ch].conf r).track = true → (publication ch c' r s).flagSet .track)
      ∧ (((s.trackers[i].run.st == .locked) != ((s.updateOf i s.channels[ch].conf r).run.st == .locked)) = true →
          (publication ch c' r s).flagSet .lock) := by
  obtain ⟨u, before, after⟩ := publication_at i ch c' r s
  obtain ⟨enabled, source, takes⟩ := h
  rw [← before.tracker] at enabled source takes
  obtain ⟨run, track, lock⟩ := trackerResult_taken takes s.channels[ch].conf r
  have rest := (aside_toTracker_self ⟨enabled, source⟩ s.channels[ch].conf r).trans after
  rw [before.updateOf, before.tracker] at run lock
  rw [before.updateOf] at track
  exact ⟨rest.tracker.trans run, fun h => rest.flags _ (track h), fun h => rest.flags _ (lock h)⟩

end Sys2Proof.Machine
end

section
/-! PROOFS. The input that a tracker forms of a published result, and its effect in SEARCH and in LOCKED. -/

namespace Sys2Proof.Machine

/-! ### The result of a window or a timeout, and the input formed of it (R33, R35, R44, R45) -/

/-- The result that a channel publishes (R33, R35). -/
def publishedResult (timeout : Bool) (c : Channel) : ChanResult := if timeout then timeoutResult c else fullResult c

/-- The closed channel of a publication (R25, R33). -/
def publishedClose (timeout : Bool) (c : Channel) : Channel := if timeout then closeTimeout c else closeFull c

theorem exec_publication (ch : Fin 8) (timeout : Bool) (s : State)
    (late : timeout = true → timedOut s.channels[ch] = true) (full : timeout = false → windowFull s.channels[ch] = true) :
    exec (if timeout then .periodTimeout ch else .channelResult ch) s
      = .next (publication ch (publishedClose timeout s.channels[ch]) (publishedResult timeout s.channels[ch]) s) := by
  cases timeout with
  | false => exact (exec_channelResult ch s).trans (congrArg Host.Outcome.next (if_pos (full rfl)))
  | true => exact (exec_periodTimeout ch s).trans (congrArg Host.Outcome.next (if_pos (late rfl)))

/-- The input of FLOW: pulses in the elapsed frames, or the period of X pulses (R44). -/
theorem flowInput_eq (k : Nat) (c : ChannelRec) (r : ChanResult) (h : r.timeout = true → r.z = 0) :
    flowInput k c r =
      let q := if c.mode = .period then (if r.z = 0 then 0 else 3000000 * c.x / (k * r.z))
        else 3000000 * r.z / (k * r.e)
      { x := min 6000 q, clamped := decide (6000 < q) } := by
  have zero : (r.timeout = true ∨ r.z = 0) ↔ r.z = 0 := or_iff_right_of_imp h
  unfold flowInput
  cases c.mode <;> simp [zero]

/-- The input of a tracker other than FLOW: scaled, then clamped to lo and hi (R45). -/
theorem scaledInput_eq (k : TrackerRec) (r : ChanResult) :
    scaledInput k r =
      let v : Int := ((r.z : Int) - k.offset) * k.gain / 4096
      { x := if v < (k.lo : Int) then k.lo else if (k.hi : Int) < v then k.hi else v.toNat
        clamped := decide (v < (k.lo : Int) ∨ (k.hi : Int) < v) } := by
  unfold scaledInput
  dsimp only
  split
  · simp [*]
  · split <;> simp [*]

/-! ### An input applied in SEARCH and LOCKED (R46 to R50) -/

section
variable (k : TrackerRec) (x : Nat) (r : TrackerRun)

/-- The run state with an input recorded (R43, R45). -/
def TrackerRun.recorded (i : Input) (r : TrackerRun) : TrackerRun :=
  { r with lastIn := some i.x, range := r.range || i.clamped }

theorem applyInput_search {r : TrackerRun} (h : r.st = .search) (i : Input) : applyInput k i r
    = { run := searchUpdate k i.x (r.recorded i), track := i.clamped && !r.range } := by
  cases r; cases h; rfl

theorem applyInput_locked {r : TrackerRun} (h : r.st = .locked) (i : Input) : applyInput k i r
    = { run := (lockedUpdate k i.x (r.recorded i)).run
        track := (lockedUpdate k i.x (r.recorded i)).track || i.clamped && !r.range } := by
  cases r; cases h; rfl

/-- The first input of a SEARCH (R46). -/
theorem searchUpdate_first {r : TrackerRun} (h : r.awaiting = true) : searchUpdate k x r
    = { r with awaiting := false, est := some x, nIn := 0 } := if_pos h

/-- The agreeing inputs in a row, the wide band judged (R46). -/
def TrackerRun.agreeing : Nat := if distance x (r.est.getD 0) ≤ k.bw then r.nIn + 1 else 0

theorem searchUpdate_searches {r : TrackerRun} (h : r.awaiting = false) (few : r.agreeing k x < k.mLock) :
    searchUpdate k x r = { r with est := some x, nIn := r.agreeing k x } := by
  unfold searchUpdate
  rw [h]
  exact if_neg (Nat.not_le.2 few)

theorem searchUpdate_locks {r : TrackerRun} (h : r.awaiting = false) (enough : k.mLock ≤ r.agreeing k x) :
    searchUpdate k x r = { r with
      st := .locked, est := some x, nIn := r.agreeing k x, nOut := 0, nStep := 0, m := 0, sign := none, noise := false } := by
  unfold searchUpdate
  rw [h]
  exact if_pos enough

/-- x − e, whose sign and size LOCKED judges (R47, R48). -/
def TrackerRun.off : Int := (x : Int) - ((r.est.getD 0 : Nat) : Int)

/-- The inputs outside the narrow band in a row (R48). -/
def TrackerRun.outAfter : Nat := if (r.off x).natAbs ≤ k.bn then 0 else r.nOut + 1

/-- Those of them of one sign (R48). -/
def TrackerRun.stepAfter : Nat :=
  if (r.off x).natAbs ≤ k.bn then 0 else if r.sign = some (decide (r.off x < 0)) then r.nStep + 1 else 1

/-- The input completes J same-signed differences outside the band (R48, assumption 12). -/
def TrackerRun.steps : Bool := decide (¬ (r.off x).natAbs ≤ k.bn ∧ r.stepAfter k x = k.j)

/-- The NOISE flag after an input in LOCKED (R47). -/
def TrackerRun.noiseAfter : Bool := noiseFlag k (noiseMeasure r.m (r.off x).natAbs) r.noise

/-- The run state after an input in LOCKED, the lock not judged yet (R47 to R49). -/
def TrackerRun.followed : TrackerRun :=
  { r with
    m := noiseMeasure r.m (r.off x).natAbs
    noise := r.noiseAfter k x
    nOut := r.outAfter k x
    nStep := r.stepAfter k x
    sign := if (r.off x).natAbs ≤ k.bn then none else some (decide (r.off x < 0))
    step := r.step || r.steps k x
    est := some (((r.est.getD 0 : Nat) : Int)
      + Int.tdiv (r.off x) (2 ^ shiftOf k (r.stepAfter k x) (r.noiseAfter k x))).toNat }

theorem bandJudgement_eq (m : Nat) (noise : Bool) : bandJudgement k (r.off x) { r with m := m, noise := noise }
    = { r with
      m := m
      noise := noise
      nOut := r.outAfter k x
      nStep := r.stepAfter k x
      sign := if (r.off x).natAbs ≤ k.bn then none else some (decide (r.off x < 0)) } := by
  unfold bandJudgement TrackerRun.outAfter TrackerRun.stepAfter
  split <;> rfl

/-- An input in LOCKED is followed; at K_lose inputs outside the band the lock is lost (R47 to R50). -/
theorem lockedUpdate_eq : lockedUpdate k x r =
    { run := if k.kLose ≤ r.outAfter k x then
        { r.followed k x with
          st := .search, awaiting := true, nIn := 0, nOut := 0, nStep := 0, sign := none, noise := false }
        else r.followed k x
      track := r.steps k x || decide (r.noiseAfter k x ≠ r.noise) } := by
  have steps : r.steps k x = decide (k.bn < (r.off x).natAbs ∧ r.stepAfter k x = k.j) := by
    simp only [TrackerRun.steps, Nat.not_le]
  unfold lockedUpdate
  dsimp only
  rw [← TrackerRun.off, bandJudgement_eq, TrackerRun.followed, steps]
  simp only [truncDiv, Nat.cast_pow, Nat.cast_ofNat]
  rfl

end

end Sys2Proof.Machine

namespace Sys2Proof.Proofs

open Sys2Proof Sys2Proof.Machine

/-- Settles O16: the publication comes to each tracker as if it were the only consumer, and the tracker's update is read
off by its state. -/
theorem trackersTakeThePublishedResult : Obligations.TrackersTakeThePublishedResult := by
  unfold Obligations.TrackersTakeThePublishedResult
  intro ch timeout s i c k r z v rate x clamped e d took r0 opened late full
  rw [exec_publication ch timeout s (fun h => timedOut_iff.2 ⟨opened, late h⟩) fun h => windowFull_iff.2 ⟨opened, full h⟩]
  refine ⟨_, rfl, ?_⟩
  generalize publishedClose timeout s.channels[ch] = c'
  have input : inputOf s i c.conf (publishedResult timeout c) = { x := x, clamped := clamped } := by
    have hz : (publishedResult timeout c).z = z := by cases timeout <;> rfl
    have he : (publishedResult timeout c).e = c.run.e := by cases timeout <;> rfl
    have silent : (publishedResult timeout c).timeout = true → (publishedResult timeout c).z = 0 := by
      cases timeout
      · exact nofun
      · exact fun _ => rfl
    rw [inputOf, flowInput_eq _ _ _ silent, scaledInput_eq, hz, he]
    by_cases isFlow : i = flow
    · simp only [x, clamped, rate, if_pos isFlow]
    · simp only [x, clamped, if_neg isFlow]
      rfl
  have taken (h : took) (st : r.st = .search ∨ r.st = .locked) := publication_taken
    (s := s) (i := i) (ch := ch) ⟨h.1, h.2.1, (takesResults_iff _).2 st⟩ c' (publishedResult timeout c)
  have update : s.updateOf i c.conf (publishedResult timeout c) = applyInput k { x := x, clamped := clamped } r := by
    rw [State.updateOf, input]
  rw [update] at taken
  clear_value x clamped
  refine ⟨?conf, fun h => ?left, fun h st clamps clear => ?ranged, fun h st awaits => ?first, fun h st waits => ?search,
    fun h st => ?locked⟩
  case conf =>
    by_cases fed : s.trackers[i].Fed ch
    · rw [(publication_taken fed ..).1]
    · rw [publication_left fed]
  case left =>
    rw [publication_left]
    rintro ⟨enabled, source, takes⟩
    rcases h with h | h | h | h
    · exact nomatch h.symm.trans enabled
    · exact h source
    · rcases (takesResults_iff _).1 takes with t | t <;> exact nomatch h.symm.trans t
    · rcases (takesResults_iff _).1 takes with t | t <;> exact nomatch h.symm.trans t
  case ranged =>
    refine (taken h st).2.1 ?_
    rcases st with st | st
    · rw [applyInput_search k st, clamps, clear]; rfl
    · rw [applyInput_locked k st, clamps, clear]; exact Bool.or_true _
  case first =>
    rw [(taken h (.inl st)).1, applyInput_search k st, searchUpdate_first]
    · rfl
    · exact awaits
  case search =>
    obtain ⟨run, -, lock⟩ := taken h (.inl st)
    rw [applyInput_search k st] at run lock
    rw [run]
    refine ⟨fun few => searchUpdate_searches k x waits few, fun enough => ?_⟩
    have locks := searchUpdate_locks k x (r := r.recorded ⟨x, clamped⟩) waits enough
    exact ⟨lock (by rw [locks, st]; rfl), locks⟩
  case locked =>
    obtain ⟨run, track, lock⟩ := taken h (.inr st)
    rw [applyInput_locked k st, lockedUpdate_eq] at run track lock
    rw [run]
    refine ⟨fun changed => track ?_, fun few => ?_, fun enough => ?_⟩
    · refine Bool.or_eq_true_iff.2 (.inl ?_)
      rcases changed with steps | noise
      · exact Bool.or_eq_true_iff.2 (.inl steps)
      · exact Bool.or_eq_true_iff.2 (.inr (decide_eq_true noise))
    · rw [if_neg]
      · rfl
      · exact Nat.not_le.2 few
    · have loses : k.kLose ≤ (r.recorded ⟨x, clamped⟩).outAfter k x := enough
      rw [if_pos loses] at lock ⊢
      exact ⟨lock (by rw [st]; rfl), rfl⟩

end Sys2Proof.Proofs
end

section
/-! PROOFS. The actuators: their events leave what is apart alone, moves arrive, time out and try again, and their faults
are recorded and offered. -/

namespace Sys2Proof.Machine

variable {s t u : State}

/-! ### Moves -/

theorem arrivalDue_target {x : Actuator} {p : Pos} (h : x.run.target = some p) :
    arrivalDue x = if x.run.recognised = some p then some p else none := by
  simp only [arrivalDue, h]

theorem target_of_moving {r : ActuatorRun} {p : Pos} {n : Nat} (h : r.st = .moving p n ∨ r.st = .paused p n) :
    r.target = some p := by
  rcases h with h | h <;> simp only [ActuatorRun.target, h]

theorem arrivalDue_none {x : Actuator} (h : x.run.recognised = none) : arrivalDue x = none := by
  unfold arrivalDue
  split <;> simp [h]

theorem adoptionDue_none {x : Actuator} (h : x.run.recognised = none) : adoptionDue x = none := by
  unfold adoptionDue
  split
  · exact h
  · rfl

theorem timeoutDue_moving {x : Actuator} {p : Pos} {n : Nat} (h : x.run.st = .moving p n) :
    timeoutDue x = if x.run.travel = some 0 then some (p, n) else none := by
  simp only [timeoutDue, h]

theorem timeoutDue_none {x : Actuator} (h : x.run.travel ≠ some 0) : timeoutDue x = none := by
  unfold timeoutDue
  split
  · exact if_neg h
  · rfl

theorem pauseDue_paused {x : Actuator} {p : Pos} {n : Nat} (h : x.run.st = .paused p n) :
    pauseDue x = if x.run.pause = some 0 then some (p, n) else none := by
  simp only [pauseDue, h]

theorem pauseDue_none {x : Actuator} (h : x.run.pause ≠ some 0) : pauseDue x = none := by
  unfold pauseDue
  split
  · exact if_neg h
  · rfl

theorem arrivalEvent_due {a : Actr} {p : Pos} (h : arrivalDue (s.act a) = some p) :
    arrivalEvent a s = notifyDone a s.confirmed p (enterPosition a p s) := by
  simp only [arrivalEvent, h]

theorem arrivalEvent_idle {a : Actr} (h : arrivalDue (s.act a) = none) : arrivalEvent a s = s := by
  simp only [arrivalEvent, h]

theorem adoptionEvent_due {a : Actr} {p : Pos} (h : adoptionDue (s.act a) = some p) :
    adoptionEvent a s = notifyAdopted a s.confirmed p (enterPosition a p s) := by
  simp only [adoptionEvent, h]

theorem adoptionEvent_idle {a : Actr} (h : adoptionDue (s.act a) = none) : adoptionEvent a s = s := by
  simp only [adoptionEvent, h]

theorem timeoutEvent_idle {a : Actr} (h : timeoutDue (s.act a) = none) : timeoutEvent a s = s := by
  simp only [timeoutEvent, h]

theorem pauseEvent_idle {a : Actr} (h : pauseDue (s.act a) = none) : pauseEvent a s = s := by
  simp only [pauseEvent, h]

@[simp] theorem enterPosition_act (a : Actr) (p : Pos) (s : State) :
    (enterPosition a p s).act a = { s.act a with run := (s.act a).run.enterAt p } := setAct_act_self ..

theorem apart_enterPosition (a : Actr) (p : Pos) (s : State) : (enterPosition a p s).apart = s.apart :=
  apart_setAct a rfl

theorem apart_nextAttempt (a : Actr) (p : Pos) (n : Nat) (s : State) : (nextAttempt a p n s).apart = s.apart :=
  apart_setAct a rfl

theorem apart_enterPaused (a : Actr) (p : Pos) (n : Nat) (s : State) : (enterPaused a p n s).apart = s.apart :=
  apart_setAct a rfl

/-- What the owner does at a position entered leaves the position confirmed, and the rest of the actuator's record as it
was. -/
theorem confirmed_of_enterPosition {a : Actr} {p : Pos} (hr : (s.act a).run.recognised = some p)
    (h : Reach (enterPosition a p s) t) : (t.act a).run.lastConfirmed = some p
      ∧ (t.act a).run.recognised = some p ∧ (t.act a).conf = (s.act a).conf
      ∧ (t.act a).run.lastFault = (s.act a).run.lastFault ∧ t.apart = s.apart := by
  obtain ⟨conf, recognised, fault⟩ := reach_act_parts h a
  have confirmed := reach_confirmed h a
  rw [enterPosition_act] at conf recognised fault confirmed
  refine ⟨?_, recognised.trans hr, conf, fault, (reach_apart h).trans (apart_enterPosition a p s)⟩
  exact confirmed.elim id fun e => e.trans hr

/-! ### Faults -/

/-- A fault was offered to the first-fault record: it fills a record that was not valid, and marks LOST in one that was
(R173). -/
structure FaultOffered (kind : FaultKind) (source : Nat) (detail : Vector Byte 4) (s t : State) : Prop where
  valid : t.mgu.fault.valid = true
  first : s.mgu.fault.valid = false → t.flagSet .fault ∧ t.mgu.fault.kind = kind ∧ t.mgu.fault.source = source
    ∧ t.mgu.fault.seconds = s.mgu.seconds ∧ t.mgu.fault.detail = detail
  later : s.mgu.fault.valid = true → t.mgu.fault = { s.mgu.fault with lost := true }

theorem faultOffered_offerFault (k : FaultKind) (n : Nat) (d : Vector Byte 4) (hf : u.mgu.fault = s.mgu.fault)
    (hs : u.mgu.seconds = s.mgu.seconds) : FaultOffered k n d s (offerFault k n d u) := by
  unfold offerFault
  split
  · exact ⟨‹_›, fun h => by simp_all, fun _ => by rw [← hf]⟩
  · exact ⟨rfl, fun _ => ⟨flagSet_raise _ _, rfl, rfl, hs, rfl⟩, fun h => by simp_all⟩

/-- What the machine's blocks do after an offer leaves it made. -/
theorem FaultOffered.reach {k : FaultKind} {n : Nat} {d : Vector Byte 4} (h : FaultOffered k n d s t) (r : Reach t u) :
    FaultOffered k n d s u := by
  obtain ⟨contents, lost⟩ := reach_fault r h.valid
  refine ⟨by rw [contents]; exact h.valid, fun i => ?_, fun v => ?_⟩
  · obtain ⟨flag, kind, source, seconds, detail⟩ := h.first i
    rw [contents]
    exact ⟨reach_flagSet r _ flag, kind, source, seconds, detail⟩
  · have := h.later v
    rw [contents, lost (by rw [this]), this]

theorem actFault_act (a : Actr) (q : ActState) (k : FaultKind) (d1 d2 : Byte) (s : State) :
    (actFault a q k d1 d2 s).act a = { s.act a with run := { (s.act a).run with
      st := q, travel := none, pause := none, displace := none, lastFault := some k, stallSeen := false
      adoptSeen := false } } := by
  simp only [actFault, offerFault_act, raise_act, setRun, setAct_act_self]

theorem actFault_act_other {a b : Actr} (h : b ≠ a) (q : ActState) (k : FaultKind) (d1 d2 : Byte) (s : State) :
    (actFault a q k d1 d2 s).act b = s.act b := by
  simp only [actFault, offerFault_act, raise_act, setRun, setAct_act_other _ _ _ _ h]

theorem actFault_flagSet (a : Actr) (q : ActState) (k : FaultKind) (d1 d2 : Byte) (s : State) :
    (actFault a q k d1 d2 s).flagSet .actuator :=
  reach_flagSet (reach_offerFault _ _ _ .same) _ (flagSet_raise _ _)

theorem actFault_offered (a : Actr) (q : ActState) (k : FaultKind) (d1 d2 : Byte) (s : State) :
    FaultOffered k a.index (detailBytes d1 d2) s (actFault a q k d1 d2 s) :=
  faultOffered_offerFault k a.index _ (by simp [raise]) (by simp [raise])

theorem apartFaults_actFault (a : Actr) (q : ActState) (k : FaultKind) (d1 d2 : Byte) (s : State) :
    (actFault a q k d1 d2 s).apartFaults = s.apartFaults :=
  (reach_apartFaults (reach_offerFault _ _ _ (reach_raise _ .same))).trans (apartFaults_setAct a rfl)

/-- A fault and what its owner does then leave what is apart of the faults alone, and the last fault of every other
actuator. -/
theorem apart_of_actFault {a : Actr} {q : ActState} {k : FaultKind} {d1 d2 : Byte}
    (h : Reach (actFault a q k d1 d2 s) t) : t.apartFaults = s.apartFaults
      ∧ ∀ b, b ≠ a → (t.act b).run.lastFault = (s.act b).run.lastFault := by
  refine ⟨(reach_apartFaults h).trans (apartFaults_actFault ..), fun b hb => ?_⟩
  rw [(reach_act_parts h b).2.2, actFault_act_other hb]

/-- A fault state entered outlives the owner's answer to the notice, with the fault recorded (R69, R173). -/
theorem recorded_of_actFault {a : Actr} {q : ActState} {k : FaultKind} {d1 d2 : Byte}
    (hq : q = .faultNoResponse ∨ q = .faultStall) (h : Reach (actFault a q k d1 d2 s) t) :
    (t.act a).run.st = q ∧ (t.act a).run.lastFault = some k ∧ (t.act a).run.travel = none ∧ t.flagSet .actuator
      ∧ FaultOffered k a.index (detailBytes d1 d2) s t := by
  have stays : t.act a = (actFault a q k d1 d2 s).act a := by
    refine reach_inFault h a ?_
    rw [actFault_act]
    rcases hq with rfl | rfl <;> rfl
  rw [stays, actFault_act]
  exact ⟨rfl, rfl, rfl, reach_flagSet h _ (actFault_flagSet ..), (actFault_offered ..).reach h⟩

theorem stallDue_moving {x : Actuator} {p : Pos} {n : Nat} (h : x.run.st = .moving p n) :
    stallDue x = if x.run.stallSeen ∧ x.run.recognised ≠ some p then some (p, n) else none := by
  simp only [stallDue, h]

theorem displacementDue_at {x : Actuator} {p : Pos} (h : x.run.st = .at p) :
    displacementDue x = if x.run.displace = some 0 then some p else none := by
  simp only [displacementDue, h]

theorem timeoutEvent_fault {a : Actr} {p : Pos} {n : Nat} (h : timeoutDue (s.act a) = some (p, n))
    (hn : (s.act a).conf.retry < n) : timeoutEvent a s = notifyFault a 0 (faultNoResponse a p n s) := by
  simp only [timeoutEvent, h]
  exact if_neg (by omega)

theorem timeoutEvent_pause {a : Actr} {p : Pos} {n : Nat} (h : timeoutDue (s.act a) = some (p, n))
    (hn : n ≤ (s.act a).conf.retry) : timeoutEvent a s = enterPaused a p n s := by
  simp only [timeoutEvent, h]
  exact if_pos hn

theorem stallEvent_due {a : Actr} {p : Pos} {n : Nat} (h : stallDue (s.act a) = some (p, n)) :
    stallEvent a s = notifyFault a 1 (faultStall a p n s) := by
  simp only [stallEvent, h]

theorem displacementEvent_due {a : Actr} {p : Pos} (h : displacementDue (s.act a) = some p) :
    displacementEvent a s = notifyDisplaced a (s.act a).run.recognised (displace a p s) := by
  simp only [displacementEvent, h]

/-! ### The events and what is apart -/

theorem apart_arrivalEvent (a : Actr) (s : State) : (arrivalEvent a s).apart = s.apart := by
  unfold arrivalEvent
  split
  · exact (reach_apart (reach_notifyDone a _ _ .same)).trans (apart_enterPosition ..)
  · rfl

theorem apart_adoptionEvent (a : Actr) (s : State) : (adoptionEvent a s).apart = s.apart := by
  unfold adoptionEvent
  split
  · exact (reach_apart (reach_notifyAdopted a _ _ .same)).trans (apart_enterPosition ..)
  · rfl

theorem apart_pauseEvent (a : Actr) (s : State) : (pauseEvent a s).apart = s.apart := by
  unfold pauseEvent
  split
  · exact apart_nextAttempt ..
  · rfl

/-- A change leaves what is apart of the faults alone, and the last fault of every actuator but one. -/
def FaultsApart (a : Actr) (s t : State) : Prop :=
  t.apartFaults = s.apartFaults ∧ ∀ b, b ≠ a → (t.act b).run.lastFault = (s.act b).run.lastFault

theorem faultsApart_timeoutEvent (a : Actr) (s : State) : FaultsApart a s (timeoutEvent a s) := by
  unfold timeoutEvent
  split
  · split
    · exact ⟨apartFaults_of_apart (apart_enterPaused ..), fun b hb => by rw [enterPaused, setRun, setAct_act_other _ _ _ _ hb]⟩
    · exact apart_of_actFault (reach_notifyFault a _ .same)
  · exact ⟨rfl, fun _ _ => rfl⟩

theorem faultsApart_stallEvent (a : Actr) (s : State) : FaultsApart a s (stallEvent a s) := by
  unfold stallEvent
  split
  · exact apart_of_actFault (reach_notifyFault a _ .same)
  · exact ⟨rfl, fun _ _ => rfl⟩

theorem faultsApart_displacementEvent (a : Actr) (s : State) : FaultsApart a s (displacementEvent a s) := by
  unfold displacementEvent
  split
  · exact apart_of_actFault (reach_notifyDisplaced a _ .same)
  · exact ⟨rfl, fun _ _ => rfl⟩

end Sys2Proof.Machine

namespace Sys2Proof.Proofs
open Sys2Proof Sys2Proof.Machine

/-- Settles O39: each event is an operation of the machine's blocks, after the actuator's own change at an arrival, an
adoption or a fault. -/
theorem machineEventsLeaveTheTablesAndTheLinkAlone : Obligations.MachineEventsLeaveTheTablesAndTheLinkAlone := by
  unfold Obligations.MachineEventsLeaveTheTablesAndTheLinkAlone
  refine ⟨fun c s h => ?_, fun a c s h => ?_⟩
  · obtain ⟨a, rfl | rfl | rfl⟩ | rfl | rfl | rfl | rfl | rfl | ⟨i, rfl⟩ | rfl | rfl | rfl | rfl | ⟨i, rfl⟩ | rfl | ⟨z, rfl⟩
      | rfl | rfl | rfl | rfl | rfl | rfl := h
    · exact ⟨_, rfl, apart_arrivalEvent a s⟩
    · exact ⟨_, rfl, apart_adoptionEvent a s⟩
    · exact ⟨_, rfl, apart_pauseEvent a s⟩
    · exact ⟨_, rfl, reach_apart (reach_drainGrantEvent .same)⟩
    · exact ⟨_, rfl, reach_apart (reach_calendarRegenEvent .same)⟩
    · exact ⟨_, rfl, reach_apart (reach_regenStepEndEvent .same)⟩
    · exact ⟨_, rfl, reach_apart (reach_settlingEvent .same)⟩
    · exact ⟨_, rfl, reach_apart (reach_regenHoldEvent .same)⟩
    · exact ⟨_, rfl, reach_apart (reach_stageDueEvent i .same)⟩
    · exact ⟨_, rfl, reach_apart (reach_demandEvent .same)⟩
    · exact ⟨_, rfl, reach_apart (reach_queueEvent .same)⟩
    · exact ⟨_, rfl, reach_apart (reach_bwStepEndEvent .same)⟩
    · exact ⟨_, rfl, reach_apart (reach_bwHoldEvent .same)⟩
    · exact ⟨_, rfl, reach_apart (reach_ruleTripEvent i .same)⟩
    · exact ⟨_, rfl, reach_apart (reach_drawEndEvent .same)⟩
    · exact ⟨_, rfl, reach_apart (reach_zoneSilentEvent z .same)⟩
    · exact ⟨_, rfl, reach_apart (reach_fieldLostEvent .same)⟩
    · exact ⟨_, rfl, reach_apart (reach_retryEvent .same)⟩
    · exact ⟨_, rfl, reach_apart (reach_testCalendarEvent .same)⟩
    · exact ⟨_, rfl, reach_apart (reach_testWindowEvent .same)⟩
    · exact ⟨_, rfl, reach_apart (reach_testSettleEvent .same)⟩
    · exact ⟨_, rfl, reach_apart (reach_testMeasureEvent .same)⟩
  · obtain rfl | rfl | rfl := h
    · exact ⟨_, rfl, faultsApart_timeoutEvent a s⟩
    · exact ⟨_, rfl, faultsApart_stallEvent a s⟩
    · exact ⟨_, rfl, faultsApart_displacementEvent a s⟩

/-- Settles O17: an arrival and an adoption enter the position and then leave it to the owner, who takes none but the
recognised position. -/
theorem movesArriveTimeOutAndTryAgain : Obligations.MovesArriveTimeOutAndTryAgain := by
  unfold Obligations.MovesArriveTimeOutAndTryAgain
  intro a p n s
  refine ⟨fun moves hr => ?_, fun unknown enabled seen hr => ?_, fun hr => ?_, fun moves hz hn => ?_, fun paused hz => ?_,
    fun h => congrArg _ (timeoutEvent_idle (timeoutDue_none h)), fun h => congrArg _ (pauseEvent_idle (pauseDue_none h))⟩
  · have due : arrivalDue (s.act a) = some p := by rw [arrivalDue_target (target_of_moving moves), if_pos hr]
    refine ⟨_, congrArg Host.Outcome.next (arrivalEvent_due due), confirmed_of_enterPosition hr (reach_notifyDone a _ _ .same)⟩
  · have due : adoptionDue (s.act a) = some p := by simp [adoptionDue, unknown, enabled, seen, hr]
    exact ⟨_, congrArg Host.Outcome.next (adoptionEvent_due due),
      confirmed_of_enterPosition hr (reach_notifyAdopted a _ _ .same)⟩
  · exact ⟨congrArg _ (arrivalEvent_idle (arrivalDue_none hr)), congrArg _ (adoptionEvent_idle (adoptionDue_none hr))⟩
  · have due : timeoutDue (s.act a) = some (p, n) := by rw [timeoutDue_moving moves, if_pos hz]
    exact congrArg Host.Outcome.next (timeoutEvent_pause due hn)
  · have due : pauseDue (s.act a) = some (p, n) := by rw [pauseDue_paused paused, if_pos hz]
    exact congrArg Host.Outcome.next (show pauseEvent a s = nextAttempt a p n s by simp only [pauseEvent, due])

/-- Settles O19: the fault is recorded before the owner's answer, which leaves a fault state and a valid record. -/
theorem actuatorFaultsAreRecordedAndOffered : Obligations.ActuatorFaultsAreRecordedAndOffered := by
  unfold Obligations.ActuatorFaultsAreRecordedAndOffered
  intro a p n s
  refine ⟨fun moves hz hn => ?_, fun moves seen hp => ?_, fun rests hz => ?_⟩
  · have due : timeoutDue (s.act a) = some (p, n) := by rw [timeoutDue_moving moves, if_pos hz]
    obtain ⟨st, fault, travel, flag, offered⟩ :=
      recorded_of_actFault (.inl rfl) (reach_notifyFault a 0 (s := faultNoResponse a p n s) .same)
    exact ⟨_, congrArg Host.Outcome.next (timeoutEvent_fault due hn), st, fault, travel, flag, offered.valid, offered.first,
      offered.later⟩
  · have due : stallDue (s.act a) = some (p, n) := by rw [stallDue_moving moves, if_pos ⟨seen, hp⟩]
    obtain ⟨st, fault, travel, flag, offered⟩ :=
      recorded_of_actFault (.inr rfl) (reach_notifyFault a 1 (s := faultStall a p n s) .same)
    exact ⟨_, congrArg Host.Outcome.next (stallEvent_due due), st, fault, travel, flag, offered.valid, offered.first,
      offered.later⟩
  · have due : displacementDue (s.act a) = some p := by rw [displacementDue_at rests, if_pos hz]
    have answered := reach_notifyDisplaced a (s.act a).run.recognised (s := displace a p s) .same
    have offered := (actFault_offered a .unknown .actDisplaced (posByte a (some p))
      (posByte a (s.act a).run.recognised) s).reach answered
    refine ⟨_, congrArg Host.Outcome.next (displacementEvent_due due), fun ha => ?_, ?_,
      reach_flagSet answered _ (actFault_flagSet ..), offered.valid, offered.first, offered.later⟩
    · subst ha
      have moved : (displace .selector p s).selector = _ := actFault_act .selector ..
      exact ⟨by rw [notifyDisplaced, moved], by rw [notifyDisplaced, moved]; rfl, by simp [notifyDisplaced, displace, actFault]⟩
    · rw [(reach_act_parts answered a).2.2, displace, actFault_act]

end Sys2Proof.Proofs
end

section
/-! PROOFS. The commands that act at once. -/

namespace Sys2Proof.Machine

variable {s : State}

/-! ### Commands that have one effect, or none (R167) -/

theorem exec_effect (hs : s.takesRequests) {c : Instr} {tag : Byte} {h : Handler}
    (hc : handlerOf c = some (tag, h)) {st : Status} {f : State → State} (hk : h s = effect st f s) :
    exec c s = .next (pushReply tag [st.byte] (f s)) := by
  rw [exec_taken hs hc, hk]; rfl

theorem exec_status (hs : s.takesRequests) {c : Instr} {tag : Byte} {h : Handler}
    (hc : handlerOf c = some (tag, h)) {st : Status} (hk : h s = status st s) :
    exec c s = .next (pushReply tag [st.byte] s) := by
  rw [exec_taken hs hc, hk]; rfl

/-! ### CLEAR_FAULT (R70, R173) -/

theorem inFault_iff (r : ActuatorRun) : r.inFault = true ↔ r.st = .faultNoResponse ∨ r.st = .faultStall := by
  unfold ActuatorRun.inFault
  split <;> simp_all

@[simp] theorem ofIndex_index (a : Actr) : Actr.ofIndex a.index = some a := by cases a <;> rfl

theorem ofIndex_none {n : Nat} (h : 3 < n) : Actr.ofIndex n = none := by
  match n, h with
  | n + 4, _ => rfl

theorem clearFaultCmd_fault {a : Actr} (h : (s.act a).run.st = .faultNoResponse ∨ (s.act a).run.st = .faultStall) :
    clearFaultCmd a.index s = effect .ok (clearActFault a) s := by
  rw [clearFaultCmd, ofIndex_index]
  exact if_pos ((inFault_iff _).2 h)

theorem clearFaultCmd_none {a : Actr} (h : ¬ ((s.act a).run.st = .faultNoResponse ∨ (s.act a).run.st = .faultStall)) :
    clearFaultCmd a.index s = status .wrongState s := by
  rw [clearFaultCmd, ofIndex_index]
  exact if_neg fun e => h ((inFault_iff _).1 e)

theorem clearFaultCmd_outside {n : Nat} (h : 4 < n) : clearFaultCmd n s = status .badIndex s := by
  rw [clearFaultCmd, ofIndex_none (by omega)]
  exact if_neg (by omega)

/-! ### ACK_CHANGES (R172) -/

theorem flagSet_clearFlags (lo hi : Byte) (s : State) (f : Flag) : (clearFlags lo hi s).flagSet f =
    (s.flagSet f && !(if f.number < 8 then lo.getLsbD f.number else hi.getLsbD (f.number - 8))) := by
  have bound : f.number < 16 := by cases f <;> decide
  simp only [State.flagSet, clearFlags, BitVec.getLsbD_and, BitVec.getLsbD_not, BitVec.getLsbD_append, bound,
    decide_true, Bool.true_and]

end Sys2Proof.Machine

namespace Sys2Proof.Proofs
open Sys2Proof Sys2Proof.Machine

/-- Settles O52, command by command: one effect, or a status alone. -/
theorem commandsThatActAtOnceAreTaken : Obligations.CommandsThatActAtOnceAreTaken := by
  unfold Obligations.CommandsThatActAtOnceAreTaken
  intro tag s hs
  refine ⟨fun a => ⟨fun h => ?_, fun h h' => ?_⟩, fun n h => ?_, ?_, ?_, ?_, fun d n h => ?_, fun d n h => ?_, ?_,
    fun lo hi => ⟨_, exec_taken hs rfl, fun f => ?_, rfl⟩⟩
  · exact exec_effect hs rfl (clearFaultCmd_fault h)
  · exact exec_status hs rfl (clearFaultCmd_none fun e => e.elim h h')
  · exact exec_status hs rfl (clearFaultCmd_outside h)
  · exact exec_effect hs (h := clearRecordCmd) (f := clearRecord) rfl rfl
  · rw [exec_taken hs (h := clearFaultCmd 4) rfl, exec_taken hs (c := .clearFaultRecord tag) rfl]; rfl
  · exact exec_effect hs (h := clearSlipCmd) (f := clearSlip) rfl rfl
  · exact exec_stored hs rfl rfl (by simp [firstFailing]; omega) rfl
  · exact exec_refused hs (st := .range) rfl rfl (by simp [firstFailing]; omega)
  · exact exec_effect hs (h := restartCmd) rfl rfl
  · exact flagSet_clearFlags lo hi s f

end Sys2Proof.Proofs
end

section
/-! PROOFS. The line: what the laws of the shut supply, of the drain allowance and of the line's holder speak of, and the
changes that keep these laws. -/

namespace Sys2Proof.Machine

variable {e : Requester → Prop} {s t u : State}

/-! ### The line and its laws -/

/-- What the laws of the supply, the drain allowance and the holder speak of (R73 to R77, R109, R112, R142, R143, R162). -/
structure Line where
  fieldFresh : Bool
  main : MainState
  seq : SeqState
  tank : Option TankId
  flt : SeqState
  decided : Bool
  test : TestState
  drain : Drain

/-- The line of a state. -/
def State.line (s : State) : Line :=
  { fieldFresh := s.link.fieldFresh, main := s.lkg.main, seq := s.rgs.seq, tank := s.rgs.run.tank, flt := s.flt.st
    decided := s.flt.run.decided, test := s.lkg.test.st, drain := s.drain }

/-- A regeneration in a state of the sequencer, with its tank, needs the line. -/
def regenNeeds (q : SeqState) (x : Option TankId) : Prop :=
  q = .positioning ∨ q = .running ∨ q = .held ∨ (q = .parking ∧ x ≠ none)

/-- A backwash in a state, its outcome decided or not, needs the line. -/
def backwashNeeds (q : SeqState) (decided : Bool) : Prop :=
  q = .positioning ∨ q = .running ∨ q = .held ∨ (q = .parking ∧ decided = false)

/-- A decay test in a state needs the line. -/
def testNeeds (q : TestState) : Prop := q ≠ .idle ∧ q ≠ .waiting

/-- A requester needs the line. -/
def Line.needs (l : Line) : Requester → Prop
  | .regen => regenNeeds l.seq l.tank
  | .backwash => backwashNeeds l.flt l.decided
  | .test => testNeeds l.test

/-- A requester holds the line while it needs it. -/
def Line.holds (l : Line) (r : Requester) : Prop := l.needs r → l.drain.holder = some r

/-- A change of the state that keeps the law of the supply, that of the drain allowance, and that of the holder for every
requester but those excused. -/
structure OrderlyBut (e : Requester → Prop) (s t : State) : Prop where
  supply : s.supplyLaw → t.supplyLaw
  drain : s.drainLaw → t.drainLaw
  holds : ∀ r, ¬ e r → s.line.holds r → t.line.holds r

/-- A change of the state that keeps the laws. -/
abbrev Orderly (s t : State) : Prop := OrderlyBut (fun _ => False) s t

theorem holderLaw_iff (s : State) : s.holderLaw ↔ ∀ r, s.line.holds r := by
  refine ⟨fun ⟨regen, backwash, test⟩ r => ?_, fun h => ⟨h .regen, h .backwash, fun hi hw => h .test ⟨hi, hw⟩⟩⟩
  cases r with
  | regen => exact regen
  | backwash => exact backwash
  | test => exact fun ⟨hi, hw⟩ => test hi hw

theorem OrderlyBut.refl (s : State) : OrderlyBut e s s := ⟨id, id, fun _ _ => id⟩

theorem OrderlyBut.trans (h : OrderlyBut e s t) (g : OrderlyBut e t u) : OrderlyBut e s u :=
  ⟨g.supply ∘ h.supply, g.drain ∘ h.drain, fun r hr => g.holds r hr ∘ h.holds r hr⟩

theorem OrderlyBut.after (h : OrderlyBut e t u) (g : OrderlyBut e s t) : OrderlyBut e s u := g.trans h

theorem OrderlyBut.excused (h : Orderly s t) : OrderlyBut e s t := ⟨h.supply, h.drain, fun r _ => h.holds r id⟩

theorem OrderlyBut.ite {p : Prop} [Decidable p] {t' : State} (h : p → OrderlyBut e s t) (h' : ¬ p → OrderlyBut e s t') :
    OrderlyBut e s (if p then t else t') := by
  split
  · exact h ‹_›
  · exact h' ‹_›

/-- An event that is only taken when it is due. -/
theorem OrderlyBut.due {p : Prop} [Decidable p] (h : p → OrderlyBut e s t) : OrderlyBut e s (if p then t else s) :=
  .ite h fun _ => .refl s

theorem orderly_foldl {α : Type} {f : State → α → State} (hf : ∀ s a, Orderly s (f s a)) (l : List α) (s : State) :
    Orderly s (l.foldl f s) := by
  induction l generalizing s with
  | nil => exact .refl s
  | cons a l ih => exact (hf s a).trans (ih _)

/-! ### The laws of a line -/

theorem Line.holds_beside (l : Line) (m : MainState) (f : Bool) (r : Requester) :
    ({ l with main := m, fieldFresh := f } : Line).holds r = l.holds r := by
  cases r <;> rfl

theorem supplyLaw_line (s : State) : s.supplyLaw ↔
    (s.line.seq = .running ∨ s.line.flt = .running → s.line.main = .opened ∧ s.line.fieldFresh = true) := Iff.rfl

theorem supplied_line (s : State) : s.supplied = true ↔ s.line.main = .opened ∧ s.line.fieldFresh = true := by
  simp [State.supplied, State.mainOpen, State.line]

theorem drainLaw_line (s : State) : s.drainLaw ↔ (∀ r, s.line.drain.kind = some r → s.line.drain.holder = some r)
    ∧ (s.line.drain.kind = none → s.line.drain.allowance = 0)
    ∧ ∀ r, s.line.drain.holder = some r → s.line.drain.waits r = false := Iff.rfl

/-- A change beside the line. -/
theorem OrderlyBut.of_line (h : t.line = s.line) : OrderlyBut e s t := by
  refine ⟨fun g => ?_, fun g => ?_, fun r _ g => ?_⟩
  · rw [supplyLaw_line] at g ⊢; rwa [h]
  · rw [drainLaw_line] at g ⊢; rwa [h]
  · rwa [h]

/-- A change of RGS alone, that of a step made RUNNING under supply, and to a state in which a regeneration needs the line
only from one in which it did or while it holds it. -/
theorem OrderlyBut.of_regen (q : SeqState) (x : Option TankId) (h : t.line = { s.line with seq := q, tank := x })
    (run : q = .running → s.supplied = true)
    (need : ¬ e .regen → regenNeeds q x → s.line.needs .regen ∨ s.drain.holder = some .regen) : OrderlyBut e s t := by
  refine ⟨fun g => ?_, fun g => ?_, fun r he g => ?_⟩
  · rw [supplyLaw_line] at g ⊢
    rw [h]
    rintro (hq | hf)
    · exact (supplied_line s).1 (run hq)
    · exact g (.inr hf)
  · rw [drainLaw_line] at g ⊢; rwa [h]
  · unfold Line.holds at g ⊢
    rw [h]
    cases r with
    | regen => exact fun n => (need he n).elim g id
    | backwash => exact g
    | test => exact g

/-- A change of FLT alone, likewise. -/
theorem OrderlyBut.of_backwash (q : SeqState) (d : Bool) (h : t.line = { s.line with flt := q, decided := d })
    (run : q = .running → s.supplied = true)
    (need : ¬ e .backwash → backwashNeeds q d → s.line.needs .backwash ∨ s.drain.holder = some .backwash) :
    OrderlyBut e s t := by
  refine ⟨fun g => ?_, fun g => ?_, fun r he g => ?_⟩
  · rw [supplyLaw_line] at g ⊢
    rw [h]
    rintro (hr | hq)
    · exact g (.inl hr)
    · exact (supplied_line s).1 (run hq)
  · rw [drainLaw_line] at g ⊢; rwa [h]
  · unfold Line.holds at g ⊢
    rw [h]
    cases r with
    | regen => exact g
    | backwash => exact fun n => (need he n).elim g id
    | test => exact g

/-- A change of the decay test's state alone, likewise. -/
theorem OrderlyBut.of_test (q : TestState) (h : t.line = { s.line with test := q })
    (need : ¬ e .test → testNeeds q → s.line.needs .test ∨ s.drain.holder = some .test) : OrderlyBut e s t := by
  refine ⟨fun g => ?_, fun g => ?_, fun r he g => ?_⟩
  · rw [supplyLaw_line] at g ⊢; rwa [h]
  · rw [drainLaw_line] at g ⊢; rwa [h]
  · unfold Line.holds at g ⊢
    rw [h]
    cases r with
    | regen => exact g
    | backwash => exact g
    | test => exact fun n => (need he n).elim g id

/-- What a release left out is made good when the requester no longer needs the line. -/
theorem OrderlyBut.done {x : Requester} (h : OrderlyBut (· = x) s t) (n : ¬ t.line.needs x) : Orderly s t := by
  refine ⟨h.supply, h.drain, fun r _ hr => ?_⟩
  by_cases e : r = x
  · subst e; exact fun m => absurd m n
  · exact h.holds r e hr

/-- A requester need not be excused when it needs the line and does not hold it. -/
theorem OrderlyBut.broken {x : Requester} (h : OrderlyBut (fun r => e r ∨ r = x) s t) (n : ¬ s.line.holds x) :
    OrderlyBut e s t := by
  refine ⟨h.supply, h.drain, fun r he hr => ?_⟩
  by_cases eq : r = x
  · subst eq; exact absurd hr n
  · exact h.holds r (not_or.2 ⟨he, eq⟩) hr

/-- A change of the drain line alone. -/
theorem OrderlyBut.of_drain (d : Drain) (h : t.line = { s.line with drain := d })
    (holds : ∀ r, ¬ e r → s.line.needs r → s.drain.holder = some r → d.holder = some r)
    (law : s.drainLaw → t.drainLaw) : OrderlyBut e s t := by
  refine ⟨fun g => ?_, law, fun r he g => ?_⟩
  · rw [supplyLaw_line] at g ⊢; rwa [h]
  · unfold Line.holds at g ⊢
    rw [h]
    cases r with
    | regen => exact fun n => holds _ he n (g n)
    | backwash => exact fun n => holds _ he n (g n)
    | test => exact fun n => holds _ he n (g n)

/-- The main or the field link lost, no step RUNNING then. -/
theorem orderly_lost (h : u.line = { s.line with main := u.line.main, fieldFresh := u.line.fieldFresh })
    (g : Orderly u t) (regen : t.line.seq ≠ .running) (backwash : t.line.flt ≠ .running) : Orderly s t := by
  refine ⟨fun _ => ?_, fun l => g.drain ?_, fun r _ l => g.holds r id ?_⟩
  · rw [supplyLaw_line]; exact fun e => (e.elim regen backwash).elim
  · rw [drainLaw_line] at l ⊢; rwa [h]
  · rwa [h, Line.holds_beside]

/-- The main or the field link back where it was lost. -/
theorem orderly_back (h : t.line = { s.line with main := t.line.main, fieldFresh := t.line.fieldFresh })
    (lost : ¬ (s.line.main = .opened ∧ s.line.fieldFresh = true)) : Orderly s t := by
  refine ⟨fun g => ?_, fun l => ?_, fun r _ l => ?_⟩
  · rw [supplyLaw_line] at g ⊢
    rw [h]
    exact fun e => absurd (g e) lost
  · rw [drainLaw_line] at l ⊢; rwa [h]
  · rwa [h, Line.holds_beside]

end Sys2Proof.Machine
end

section
/-! PROOFS. The operations that pass the line by. -/

namespace Sys2Proof.Machine

/-! ### Operations that pass the line by -/

@[simp] theorem line_raise (f : Flag) (s : State) : (raise f s).line = s.line := rfl

@[simp] theorem line_raiseIf (b : Bool) (f : Flag) (s : State) : (raiseIf b f s).line = s.line := by
  unfold raiseIf; split <;> rfl

@[simp] theorem line_offerFault (k : FaultKind) (n : Nat) (d : Vector Byte 4) (s : State) :
    (offerFault k n d s).line = s.line := by
  unfold offerFault; split <;> rfl

@[simp] theorem line_pushReply (tag : Byte) (b : List Byte) (s : State) : (pushReply tag b s).line = s.line := rfl

@[simp] theorem line_setAct (a : Actr) (x : Actuator) (s : State) : (setAct a x s).line = s.line := by cases a <;> rfl

@[simp] theorem line_setRun (a : Actr) (r : ActuatorRun) (s : State) : (setRun a r s).line = s.line := line_setAct ..

@[simp] theorem line_actRequest (a : Actr) (p : Pos) (s : State) : (actRequest a p s).line = s.line := line_setAct ..

@[simp] theorem line_actFault (a : Actr) (q : ActState) (k : FaultKind) (d1 d2 : Byte) (s : State) :
    (actFault a q k d1 d2 s).line = s.line := by simp [actFault]

theorem line_setLanes (lanes : Vector Lane 32) (s : State) : ({ s with lanes := lanes } : State).line = s.line := rfl

/-! ### ACC and SLT -/

@[simp] theorem line_noteClamp (q : Nat) (s : State) : (noteClamp q s).line = s.line := by
  unfold noteClamp
  split
  · rw [line_raiseIf]; rfl
  · rfl

@[simp] theorem line_volumeStage (z : Nat) (s : State) : (volumeStage z s).line = s.line := line_noteClamp ..

@[simp] theorem line_allowanceStage (e : Nat) (s : State) : (allowanceStage e s).line = s.line := rfl

@[simp] theorem line_hardnessStage (s : State) : (hardnessStage s).line = s.line := rfl

@[simp] theorem line_brineStage (z : Nat) (s : State) : (brineStage z s).line = s.line := line_noteClamp ..

@[simp] theorem line_accumulate (dv : Nat) (s : State) : (accumulate dv s).line = s.line := rfl

@[simp] theorem line_accOpen (s : State) : (accOpen s).line = s.line := rfl

@[simp] theorem line_accClosed (s : State) : (accClosed s).line = s.line := rfl

@[simp] theorem line_addSlip (x : Nat) (s : State) : (addSlip x s).line = s.line := by
  unfold addSlip
  split
  · rfl
  · rw [line_raiseIf]; rfl

@[simp] theorem line_setTank (t : TankId) (x : Tank) (s : State) : (setTank t x s).line = s.line := by
  refine (line_raiseIf ..).trans ?_; cases t <;> rfl

@[simp] theorem line_chargeTank (t : TankId) (dl : Nat) (s : State) : (chargeTank t dl s).line = s.line := by
  unfold chargeTank; dsimp only; split <;> simp

@[simp] theorem line_chargeStage (dvt : Nat) (s : State) : (chargeStage dvt s).line = s.line := by
  unfold chargeStage charge
  split
  · rw [line_chargeTank]; rfl
  · split
    · rfl
    · rw [line_addSlip]; rfl

@[simp] theorem line_setSalt (x : Salt) (s : State) : (setSalt x s).line = s.line := line_raiseIf ..

@[simp] theorem line_judgeSalt (s : State) : (judgeSalt s).line = s.line := line_setSalt ..

@[simp] theorem line_bridgeCheck (b : BridgeResult) (s : State) : (bridgeCheck b s).line = s.line := by
  cases b
  case weak => exact line_setSalt ..
  case normal => exact line_setSalt ..
  case notChecked => rfl

@[simp] theorem line_endRefillUnchecked (s : State) : (endRefillUnchecked s).line = s.line := rfl

@[simp] theorem line_sltClose (v : DrawValues) (warm : Bool) (s : State) : (sltClose v warm s).line = s.line := by
  have opened : ∀ u : State, (if 0 < v.volume then setSalt { u.slt with store := u.slt.store - v.saltG } u else u).line
      = u.line := fun u => by split <;> simp
  have refill : ∀ u : State, (if u.slt.refill.phase = .inRefill then endRefillUnchecked u else u).line = u.line :=
    fun u => by split <;> simp
  refine (refill _).trans ?_
  rw [line_bridgeCheck, line_judgeSalt, opened]

@[simp] theorem line_refillStart (s : State) : (refillStart s).line = s.line := rfl

@[simp] theorem line_refillIncrement (dv : Nat) (s : State) : (refillIncrement dv s).line = s.line := by
  unfold refillIncrement; split <;> rfl

@[simp] theorem line_refillEnd (short : Bool) (s : State) : (refillEnd short s).line = s.line := by
  unfold refillEnd
  repeat' split
  · simp
  all_goals rfl

@[simp] theorem line_settle600 (s : State) : (settle600 s).line = s.line := line_setSalt ..

@[simp] theorem line_saltRefilled (m : Nat) (s : State) : (saltRefilled m s).line = s.line := by
  simp [saltRefilled, setBridgeCount]

@[simp] theorem line_writeSalt (c : SaltSettings) (s : State) : (writeSalt c s).line = s.line := by simp [writeSalt]

/-! ### RGS -/

@[simp] theorem line_setMove (m : SelMove) (s : State) : (setMove m s).line = s.line := rfl

@[simp] theorem line_updateRecord (f : RegenRecord → RegenRecord) (s : State) : (updateRecord f s).line = s.line := rfl

@[simp] theorem line_recordEnd (o : RunOutcome) (s : State) : (recordEnd o s).line = s.line := rfl

@[simp] theorem line_countStep (i : Option (Fin 8)) (b : Bool) (s : State) : (countStep i b s).line = s.line := rfl

@[simp] theorem line_closeDraw (warm : Bool) (s : State) : (closeDraw warm s).line = s.line := by simp [closeDraw]

@[simp] theorem line_endTank (q : TankState) (n : Nat) (o : RunOutcome) (s : State) : (endTank q n o s).line = s.line := by
  unfold endTank; split <;> simp

@[simp] theorem line_exhaustTank (o : RunOutcome) (s : State) : (exhaustTank o s).line = s.line := line_endTank ..

@[simp] theorem line_keepTank (q : TankState) (o : RunOutcome) (s : State) : (keepTank q o s).line = s.line := by
  unfold keepTank; split <;> simp

@[simp] theorem line_restoreTank (t : TankId) (s : State) : (restoreTank t s).line = s.line := by simp [restoreTank]

@[simp] theorem line_offerRgs (k : FaultKind) (b : Byte) (s : State) : (offerRgs k b s).line = s.line := by
  unfold offerRgs; split <;> simp

@[simp] theorem line_tankLeft (t : TankId) (s : State) : (tankLeft t s).line = s.line := by
  unfold tankLeft; dsimp only; split <;> simp

@[simp] theorem line_tankReached (t : TankId) (s : State) : (tankReached t s).line = s.line := by
  unfold tankReached; dsimp only; split <;> simp

@[simp] theorem line_judgeTanks (old : Option Pos) (p : Pos) (s : State) : (judgeTanks old p s).line = s.line := by
  unfold judgeTanks
  repeat' split
  all_goals simp

@[simp] theorem line_selFailed (s : State) : (selFailed s).line = s.line := by
  unfold selFailed; split <;> rfl

@[simp] theorem line_tanksSecond (s : State) : (tanksSecond s).line = s.line := rfl

@[simp] theorem line_writeTank (t : TankId) (c : TankContents) (s : State) : (writeTank t c s).line = s.line :=
  line_setTank ..

@[simp] theorem line_rgsIncrement (dv : Nat) (s : State) : (rgsIncrement dv s).line = s.line := by
  unfold rgsIncrement
  repeat' split
  all_goals rfl

@[simp] theorem line_rgsSecond (s : State) : (rgsSecond s).line = s.line := by
  unfold rgsSecond
  dsimp only
  split <;> rfl

@[simp] theorem line_rgsRotorAdopted (p : Pos) (s : State) : (rgsRotorAdopted p s).line = s.line := by
  unfold rgsRotorAdopted; split <;> simp

/-! ### FLT -/

@[simp] theorem line_setStage (i : Fin 4) (x : Stage) (s : State) : (setStage i x s).line = s.line := rfl

@[simp] theorem line_updateBwRecord (f : BwRecord → BwRecord) (s : State) : (updateBwRecord f s).line = s.line := rfl

@[simp] theorem line_bwRecordEnd (o : RunOutcome) (s : State) : (bwRecordEnd o s).line = s.line := rfl

@[simp] theorem line_bwRestore (s : State) : (bwRestore s).line = s.line := by
  unfold bwRestore; dsimp only; split <;> rfl

@[simp] theorem line_offerFlt (s : State) : (offerFlt s).line = s.line := by
  unfold offerFlt; split <;> simp

@[simp] theorem line_markDue (i : Fin 4) (s : State) : (markDue i s).line = s.line := by
  unfold markDue; split <;> simp

@[simp] theorem line_setDemand (c : BwTrigger) (s : State) : (setDemand c s).line = s.line := by
  unfold setDemand; split <;> rfl

@[simp] theorem line_judgeDemand (s : State) : (judgeDemand s).line = s.line := by
  unfold judgeDemand; split <;> simp

@[simp] theorem line_setFouled (b : Bool) (s : State) : (setFouled b s).line = s.line := line_raiseIf ..

@[simp] theorem line_fltIncrement (dv : Nat) (s : State) : (fltIncrement dv s).line = s.line := rfl

@[simp] theorem line_stagesSecond (s : State) : (stagesSecond s).line = s.line := rfl

@[simp] theorem line_judgeWatch (i : Fin 4) (b : Bool) (s : State) : (judgeWatch i b s).line = s.line := by
  unfold judgeWatch
  split
  · dsimp only
    split
    · rw [line_markDue, line_setFouled]; rfl
    · rw [line_setFouled]; rfl
  · rfl

@[simp] theorem line_persisted (i : Fin 4) (s : State) : (persisted i s).line = s.line := by
  unfold persisted
  repeat' split
  all_goals simp

@[simp] theorem line_evaluateStage (i : Fin 4) (s : State) : (evaluateStage i s).line = s.line := by
  unfold evaluateStage
  dsimp only
  split
  · rfl
  · split <;> simp

@[simp] theorem line_filterReplacedTaken (i : Fin 4) (s : State) : (filterReplacedTaken i s).line = s.line := by
  unfold filterReplacedTaken
  dsimp only
  split
  · exact (line_setFouled false _).trans (line_raiseIf ..)
  · exact line_raiseIf ..

@[simp] theorem line_dueAfresh (i : Fin 4) (s : State) : (dueAfresh i s).line = s.line := line_raiseIf ..

@[simp] theorem line_writeStage (i : Fin 4) (c : StageContents) (s : State) : (writeStage i c s).line = s.line := by
  have judged : ∀ u : State, (if recIsMedia u.flt.stages[i].conf then judgeDemand u else u).line = u.line :=
    fun u => by split <;> simp
  have cleared : ∀ (b : Bool) (u : State), (if b then
      { setFouled false u with flt := { (setFouled false u).flt with demand := none, watch := false } } else u).line
        = u.line := fun b u => by
    split
    · exact line_setFouled false u
    · rfl
  exact (judged _).trans ((line_dueAfresh ..).trans (cleared _ _))

@[simp] theorem line_fltSecond (s : State) : (fltSecond s).line = s.line := by
  unfold fltSecond
  dsimp only
  split <;> rfl

@[simp] theorem line_queueSecond (s : State) : (queueSecond s).line = s.line := rfl

@[simp] theorem line_bwRotorAdopted (p : Pos) (s : State) : (bwRotorAdopted p s).line = s.line := by
  unfold bwRotorAdopted; split <;> simp

/-! ### LKG -/

@[simp] theorem line_updateTestRecord (f : TestRecord → TestRecord) (s : State) :
    (updateTestRecord f s).line = s.line := rfl

@[simp] theorem line_setResult (r : TestResult) (s : State) : (setResult r s).line = s.line := rfl

@[simp] theorem line_setRule (i : Fin 16) (x : Rule) (s : State) : (setRule i x s).line = s.line := rfl

@[simp] theorem line_setZone (i : Fin 8) (z : Zone) (s : State) : (setZone i z s).line = s.line := rfl

@[simp] theorem line_decideTest (s : State) : (decideTest s).line = s.line := by
  rw [decideTest, line_setResult, line_updateTestRecord]; rfl

@[simp] theorem line_drawIncrement (n : Nat) (s : State) : (drawIncrement n s).line = s.line := by
  unfold drawIncrement; split <;> rfl

@[simp] theorem line_drawSecond (s : State) : (drawSecond s).line = s.line := by
  unfold drawSecond; split <;> rfl

@[simp] theorem line_rulesSecond (s : State) : (rulesSecond s).line = s.line := rfl

@[simp] theorem line_endDraw (s : State) : (endDraw s).line = s.line := by
  unfold endDraw; split <;> rfl

@[simp] theorem line_clearLatch (s : State) : (clearLatch s).line = s.line := rfl

@[simp] theorem line_writeRule (i : Fin 16) (c : LeakRule) (s : State) : (writeRule i c s).line = s.line := rfl

@[simp] theorem line_zonesSecond (s : State) : (zonesSecond s).line = s.line := line_raiseIf ..

@[simp] theorem line_zonesReported (s : State) : (zonesReported s).line = s.line := rfl

@[simp] theorem line_lossSecond (s : State) : (lossSecond s).line = s.line := by
  unfold lossSecond; split <;> rfl

@[simp] theorem line_retrySecond (s : State) : (retrySecond s).line = s.line := rfl

@[simp] theorem line_lkgFresh (s : State) : (lkgFresh s).line = s.line := rfl

end Sys2Proof.Machine
end

section
/-! PROOFS. The line under the grant, the release and the runs that hold it. -/

namespace Sys2Proof.Machine

variable {e : Requester → Prop} {s t u : State} {k : Grant}

/-! ### What sets a part of the line -/

@[simp] theorem line_setSeq (q : SeqState) (s : State) : (setSeq q s).line = { s.line with seq := q } := rfl

@[simp] theorem line_setRegenRun (r : RegenRun) (s : State) :
    (setRegenRun r s).line = { s.line with tank := r.tank } := rfl

@[simp] theorem line_dropTank (s : State) : (dropTank s).line = { s.line with tank := none } := rfl

@[simp] theorem line_toIdle (s : State) : (toIdle s).line = { s.line with seq := .idle, tank := none } := rfl

@[simp] theorem line_setFlt (q : SeqState) (s : State) : (setFlt q s).line = { s.line with flt := q } := rfl

@[simp] theorem line_setBwRun (r : BwRun) (s : State) :
    (setBwRun r s).line = { s.line with decided := r.decided } := rfl

@[simp] theorem line_bwIdle (s : State) : (bwIdle s).line = { s.line with flt := .idle, decided := false } := rfl

@[simp] theorem line_setTest (q : TestState) (s : State) : (setTest q s).line = { s.line with test := q } := rfl

@[simp] theorem line_putTest (x : DecayTest) (s : State) : (putTest x s).line = { s.line with test := x.st } := rfl

@[simp] theorem line_testIdle (s : State) : (testIdle s).line = { s.line with test := .idle } := rfl

@[simp] theorem line_setMain (m : MainState) (s : State) : (setMain m s).line = { s.line with main := m } :=
  line_raiseIf ..

@[simp] theorem line_setAllowance (n : Nat) (q : Option Requester) (s : State) :
    (setAllowance n q s).line = { s.line with drain := { s.line.drain with allowance := n, kind := q } } := by
  unfold setAllowance
  split
  · rename_i h
    obtain ⟨rfl, rfl⟩ := h
    rfl
  · rfl

@[simp] theorem line_drainFreed (s : State) :
    (drainFreed s).line = { s.line with drain := { s.line.drain with holder := none, allowance := 0, kind := none } } :=
  line_setAllowance ..

theorem Line.needs_drain (l : Line) (d : Drain) (r : Requester) : ({ l with drain := d } : Line).needs r = l.needs r := by
  cases r <;> rfl

/-! ### The allowance -/

theorem orderly_setAllowance {n : Nat} {q : Option Requester} (h : ∀ r, q = some r → s.line.drain.holder = some r)
    (h0 : q = none → n = 0) : OrderlyBut e s (setAllowance n q s) := by
  refine .of_drain _ (line_setAllowance ..) (fun _ _ _ => id) fun g => ?_
  rw [drainLaw_line] at g ⊢
  rw [line_setAllowance]
  exact ⟨h, h0, g.2.2⟩

theorem orderly_allowanceReport (r : Requester) (a : Option Nat) (s : State) :
    OrderlyBut e s (allowanceReport r a s) := by
  unfold allowanceReport
  split
  · rename_i held
    split
    · exact orderly_setAllowance (fun r' hr => hr ▸ held) nofun
    · exact orderly_setAllowance nofun fun _ => rfl
  · exact .refl s

/-- A change of the allowance alone: the line stays but for what is allowed on it. -/
def AllowanceOnly (s t : State) : Prop :=
  ∃ d : Drain, t.line = { s.line with drain := d } ∧ d.holder = s.line.drain.holder

theorem allowanceOnly_report (r : Requester) (a : Option Nat) (s : State) : AllowanceOnly s (allowanceReport r a s) := by
  unfold allowanceReport
  split
  · split <;> exact ⟨_, line_setAllowance .., rfl⟩
  · exact ⟨_, rfl, rfl⟩

/-! ### The grant and the release (R73 to R75) -/

/-- A requester needs the line or holds it. -/
def Line.claims (l : Line) (r : Requester) : Prop := l.needs r ∨ l.drain.holder = some r

theorem orderly_granting (r : Requester) (h : s.drain.holder = none) :
    OrderlyBut e s { s with drain := { s.drain.setWait r false with holder := some r } } := by
  refine .of_drain { s.drain.setWait r false with holder := some r } rfl (fun r' _ _ c => ?_) fun ⟨kind, zero, _⟩ => ?_
  · exact absurd (h ▸ c) nofun
  · have free : s.drain.kind = none := by
      cases c : s.drain.kind with
      | none => rfl
      | some x => exact absurd (h ▸ kind x c) nofun
    cases r <;> exact ⟨fun r' c => absurd (free ▸ c) nofun, zero, fun r' c => by cases c; rfl⟩

theorem orderly_freed {x : Requester} (hx : s.drain.holder = some x) (h : ¬ e x → ¬ s.line.needs x) :
    OrderlyBut e s (drainFreed s) := by
  refine .of_drain _ (line_drainFreed s) (fun r he n c => ?_) fun _ => ?_
  · cases hx.symm.trans c
    exact absurd n (h he)
  · rw [drainLaw_line, line_drainFreed]
    exact ⟨nofun, fun _ => rfl, nofun⟩

theorem waits_setWait (d : Drain) (r r' : Requester) (b : Bool) :
    (d.setWait r b).waits r' = if r' = r then b else d.waits r' := by
  cases r <;> cases r' <;> rfl

theorem orderly_waiting (r : Requester) (b : Bool) (h : b = true → s.drain.holder ≠ some r) :
    OrderlyBut e s { s with drain := s.drain.setWait r b } := by
  refine .of_drain (s.drain.setWait r b) rfl (fun r' _ _ c => by cases r <;> exact c) fun ⟨kind, zero, waits⟩ => ?_
  have other : ∀ r', s.drain.holder = some r' → (s.drain.setWait r b).waits r' = false := fun r' c => by
    rw [waits_setWait]
    split
    · subst r'
      exact Bool.eq_false_iff.2 fun hb => h hb c
    · exact waits r' c
  cases r <;> exact ⟨kind, zero, other⟩

/-- A regeneration that is not queued stays so, and its run keeps its tank. -/
structure TankKept (s t : State) : Prop where
  seq : s.rgs.seq ≠ .queued → t.rgs.seq ≠ .queued
  tank : s.rgs.seq ≠ .queued → t.rgs.run.tank = s.rgs.run.tank

theorem TankKept.refl (s : State) : TankKept s s := ⟨id, fun _ => rfl⟩

theorem TankKept.trans (h : TankKept s t) (g : TankKept t u) : TankKept s u :=
  ⟨g.seq ∘ h.seq, fun n => (g.tank (h.seq n)).trans (h.tank n)⟩

theorem TankKept.after (h : TankKept t u) (g : TankKept s t) : TankKept s u := g.trans h

theorem TankKept.ite {p : Prop} [Decidable p] {t' : State} (h : p → TankKept s t) (h' : ¬ p → TankKept s t') :
    TankKept s (if p then t else t') := by
  split
  · exact h ‹_›
  · exact h' ‹_›

theorem TankKept.of_rgs (h : t.rgs = s.rgs) : TankKept s t := ⟨fun n => h ▸ n, fun _ => by rw [h]⟩

/-- What a grant does to a requester that waits: it keeps the laws, but for that requester should it need the line already
and be excused, and the tank of a run that is not queued. -/
structure Grant.Lawful (k : Grant) : Prop where
  orderly : ∀ (e : Requester → Prop) (y : Requester) (s : State), s.line.drain.holder = some y →
    (¬ e y → ¬ s.line.needs y) → OrderlyBut e s (k y s)
  tank : ∀ (y : Requester) (s : State), TankKept s (k y s)

theorem orderly_grantTo (hk : k.Lawful) (r : Requester) (h : s.drain.holder = none) : OrderlyBut e s (grantTo k r s) := by
  have granting := fun e' : Requester → Prop => orderly_granting (e := e') r h
  by_cases n : s.line.needs r
  · refine .broken (x := r) ((granting _).trans (hk.orderly _ r _ rfl fun c => absurd (.inr rfl) c)) fun c => ?_
    exact absurd (h ▸ c n) nofun
  · refine (granting e).trans (hk.orderly e r _ rfl fun _ => ?_)
    exact fun c => n ((Line.needs_drain s.line _ r).mp c)

theorem orderly_drainRegrant (hk : k.Lawful) (s : State) : OrderlyBut e s (drainRegrant k s) := by
  unfold drainRegrant
  split
  · split
    · exact orderly_grantTo hk _ (‹_ ∧ _›).2
    · exact .refl s
  · exact .refl s

theorem orderly_drainRequest (hk : k.Lawful) (r : Requester) (s : State) : OrderlyBut e s (drainRequest k r s) := by
  unfold drainRequest
  split
  · exact .refl s
  · split
    · exact .refl s
    · split
      · exact orderly_grantTo hk r (‹_ ∧ _›).1
      · exact orderly_waiting r true fun _ => ‹_›

theorem orderly_drainRelease (hk : k.Lawful) {x : Requester} (h : ¬ e x → ¬ s.line.needs x) :
    OrderlyBut e s (drainRelease k x s) := by
  unfold drainRelease
  split
  · exact (orderly_freed ‹_› h).trans (orderly_drainRegrant hk _)
  · split
    · exact orderly_waiting x false nofun
    · exact .refl s

/-- A release, the requester left out. -/
theorem orderly_released (hk : k.Lawful) (x : Requester) (s : State) : OrderlyBut (· = x) s (drainRelease k x s) :=
  orderly_drainRelease hk fun h => absurd rfl h

/-! ### Tanks and swaps (R101, R107) -/

theorem orderly_rgsQueue (hk : k.Lawful) (t : TankId) (trig : RegenTrigger) (prior : TankState) (s : State) :
    Orderly s (rgsQueue k t trig prior s) := by
  refine (orderly_drainRequest hk .regen _).after (.of_regen .queued (some t) ?_ nofun fun _ => by simp [regenNeeds])
  exact congrArg (fun l : Line => { l with seq := .queued, tank := some t }) (line_setTank ..)

theorem orderly_selMoveDone (hk : k.Lawful) (s : State) : Orderly s (selMoveDone k s) := by
  unfold selMoveDone
  split
  · exact .refl s
  · dsimp only
    split
    · exact .of_line rfl
    · exact (orderly_rgsQueue hk ..).after (.of_line rfl)
  · exact .of_line rfl
  · exact .of_line rfl

theorem orderly_startSwap (hk : k.Lawful) (t : TankId) (s : State) : Orderly s (startSwap k t s) := by
  unfold startSwap
  dsimp only
  split
  · exact .of_line (by simp)
  · exact (orderly_selMoveDone hk _).after (.of_line (by simp))
  · exact .of_line (by simp)
  · exact .of_line (by simp)

theorem orderly_seekAtNotice (hk : k.Lawful) (t : TankId) (s : State) : Orderly s (seekAtNotice k t s) :=
  .due fun _ => orderly_startSwap hk ..

theorem orderly_swapSeek (hk : k.Lawful) (s : State) : Orderly s (swapSeek k s) := by
  unfold swapSeek
  split
  · exact .due fun _ => orderly_seekAtNotice hk ..
  · exact .refl s

theorem orderly_exhaustionNotice (hk : k.Lawful) (t : TankId) (s : State) : Orderly s (exhaustionNotice k t s) :=
  (orderly_seekAtNotice hk t _).after (.of_line (by split <;> simp))

/-! ### The ends of a regeneration -/

theorem orderly_toIdle (s : State) : OrderlyBut e s (toIdle s) :=
  .of_regen .idle none rfl nofun fun _ => by simp [regenNeeds]

theorem orderly_finish (hk : k.Lawful) (h : OrderlyBut (· = .regen) s u) : Orderly s (finish k u) :=
  (orderly_swapSeek hk _).after ((h.trans (orderly_toIdle u)).done (by simp [Line.needs, regenNeeds]))

theorem orderly_releaseAndFinish (hk : k.Lawful) (s : State) : Orderly s (releaseAndFinish k s) :=
  orderly_finish hk (orderly_released hk .regen s)

theorem orderly_parkDone (hk : k.Lawful) (s : State) : Orderly s (parkDone k s) := by
  unfold parkDone
  split
  · exact (orderly_releaseAndFinish hk _).after (.of_line (by simp))
  · exact orderly_releaseAndFinish hk s

theorem allowanceOnly_stopStep (s : State) : AllowanceOnly s (stopStep s) := by
  unfold stopStep
  split
  · obtain ⟨d, hl, hd⟩ := allowanceOnly_report .regen none s
    exact ⟨d, hl, hd⟩
  · exact ⟨_, rfl, rfl⟩

theorem orderly_stopStep (s : State) : OrderlyBut e s (stopStep s) := by
  unfold stopStep
  split
  · exact (orderly_allowanceReport ..).trans (.of_line rfl)
  · exact .refl s

theorem orderly_rgsFault (hk : k.Lawful) (code : Byte) (s : State) : Orderly s (rgsFault k code s) := by
  refine (orderly_releaseAndFinish hk _).after ((OrderlyBut.of_line ?_).after (orderly_stopStep s))
  simp

theorem orderly_rgsRotorFailed (hk : k.Lawful) (code : Byte) (s : State) : Orderly s (rgsRotorFailed k code s) := by
  unfold rgsRotorFailed
  split
  case h_1 => exact .refl s
  case h_2 => exact .refl s
  case h_3 => exact orderly_rgsFault hk code s
  case h_4 => exact orderly_rgsFault hk code s
  case h_5 => exact orderly_rgsFault hk code s
  case h_6 => exact .ite (fun _ => orderly_rgsFault hk code s) fun _ => orderly_releaseAndFinish hk s

/-! ### The steps of a regeneration -/

theorem orderly_enterHeld (phase : SeqState) (h : s.line.claims .regen) : Orderly s (enterHeld phase s) := by
  obtain ⟨d, hl, hd⟩ := allowanceOnly_stopStep s
  refine (orderly_stopStep s).trans (.of_regen .held (stopStep s).rgs.run.tank rfl nofun fun _ _ => ?_)
  rw [show (stopStep s).drain = (stopStep s).line.drain from rfl, hl, Line.needs_drain, hd]
  exact h

theorem orderly_rgsHold (s : State) : Orderly s (rgsHold s) := by
  unfold rgsHold
  split
  · exact orderly_enterHeld _ (.inl (.inl ‹_›))
  · exact orderly_enterHeld _ (.inl (.inr (.inl ‹_›)))
  · exact .refl s

theorem orderly_startRunning (x : RegenStep) (hs : s.supplied = true) (hq : s.line.seq = .positioning) :
    Orderly s (startRunning x s) := by
  obtain ⟨d, hl, hd⟩ := allowanceOnly_report .regen (some x.allowance) s
  let v : State := if x.pos = .refill ∧ s.rgs.run.fromStart then
      refillStart { allowanceReport .regen (some x.allowance) s with
        acc := { (allowanceReport .regen (some x.allowance) s).acc with phase := phaseOf x.pos } }
    else { allowanceReport .regen (some x.allowance) s with
        acc := { (allowanceReport .regen (some x.allowance) s).acc with phase := phaseOf x.pos } }
  have hv : v.line = (allowanceReport .regen (some x.allowance) s).line := by
    dsimp only [v]; split <;> rfl
  refine ((orderly_allowanceReport .regen (some x.allowance) s).trans (.of_line hv)).trans
    (.of_regen .running v.rgs.run.tank rfl (fun _ => ?_) fun _ _ => ?_)
  · rw [supplied_line, hv, hl]
    exact (supplied_line s).1 hs
  · refine .inl ?_
    rw [hv, hl, Line.needs_drain]
    exact .inl hq

theorem orderly_rgsRotorDone (hk : k.Lawful) (p : Pos) (s : State) : Orderly s (rgsRotorDone k p s) := by
  unfold rgsRotorDone
  split
  · split
    · exact .due fun _ => .ite (fun hs => orderly_startRunning _ hs ‹_›) fun _ => orderly_enterHeld _ (.inl (.inl ‹_›))
    · exact .refl s
  · exact .due fun _ => orderly_parkDone hk s
  · exact .refl s

theorem orderly_rgsRotorAsk (hk : k.Lawful) (p : Pos) (s : State) : Orderly s (rgsRotorAsk k p s) := by
  have asked : Orderly s (actRequest .regenRotor p s) := .of_line (by simp)
  unfold rgsRotorAsk
  dsimp only
  split
  · exact asked
  · exact asked.trans (orderly_rgsRotorDone hk p _)
  · exact asked.trans (orderly_rgsRotorFailed hk _ _)
  · exact asked.trans (orderly_rgsRotorFailed hk _ _)

theorem orderly_askStep (hk : k.Lawful) (s : State) : Orderly s (askStep k s) := by
  unfold askStep
  split
  · exact orderly_rgsRotorAsk hk _ s
  · exact .refl s

theorem orderly_positioning (h : s.line.claims .regen) : Orderly s (setSeq .positioning s) :=
  .of_regen .positioning s.rgs.run.tank rfl nofun fun _ _ => h

theorem orderly_enterPositioning (hk : k.Lawful) (h : s.line.claims .regen) : Orderly s (enterPositioning k s) :=
  .ite (fun _ => (orderly_positioning h).trans (orderly_askStep hk _)) fun _ => orderly_enterHeld _ h

theorem orderly_takeStep (hk : k.Lawful) (i : Fin 8) (h : s.line.claims .regen) : Orderly s (takeStep k i s) :=
  (orderly_enterPositioning hk (s := setRegenRun { s.rgs.run with step := some i, elapsed := 0, brine := 0, fromStart := true } s)
    h).after (.of_line rfl)

/-- Parking entered by a run that claims the line. -/
theorem orderly_startParking (hk : k.Lawful) (h : s.line.claims .regen) : Orderly s (startParking k s) :=
  (orderly_rgsRotorAsk hk .service _).after (.of_regen .parking s.rgs.run.tank rfl nofun fun _ _ => h)

/-- Parking entered by a run whose outcome is decided, after the release of the line. -/
theorem orderly_startParking_decided (hk : k.Lawful) (h : OrderlyBut (· = .regen) s u) (hu : u.rgs.run.tank = none) :
    Orderly s (startParking k u) := by
  refine (orderly_rgsRotorAsk hk .service _).after ((h.trans (.of_regen .parking u.rgs.run.tank rfl nofun fun he =>
    absurd rfl he)).done ?_)
  simp [Line.needs, regenNeeds, State.line, hu]

theorem orderly_rgsGranted (hk : k.Lawful) (hh : s.line.drain.holder = some .regen)
    (hn : ¬ e .regen → ¬ s.line.needs .regen) : OrderlyBut e s (rgsGranted k s) := by
  unfold rgsGranted
  split
  · have started : Orderly s (accOpen (updateRecord (fun r => { r with startedAt := some s.mgu.seconds })
        { s with rgs := { s.rgs with snapshot := s.rgs.program } })) := .of_line rfl
    dsimp only
    refine .excused ?_
    split
    · exact started.trans (orderly_takeStep hk _ (.inr hh))
    · refine started.trans (orderly_finish hk ((orderly_released hk .regen _).trans (.of_line ?_)))
      simp
  · exact orderly_drainRelease hk hn

theorem orderly_rgsResume (hk : k.Lawful) (s : State) : Orderly s (rgsResume k s) :=
  .due fun h => (orderly_positioning (.inl (.inr (.inr (.inl h.1))))).trans (orderly_askStep hk _)

theorem orderly_endStep (hk : k.Lawful) (short : Bool) (h : s.line.seq = .running) : Orderly s (endStep k short s) := by
  unfold endStep
  dsimp only
  have line : ∀ b : Bool, (raise .regen (if b then refillEnd short (countStep s.rgs.run.step short (stopStep s))
      else countStep s.rgs.run.step short (stopStep s))).line = (stopStep s).line := fun b => by cases b <;> simp
  have claims : (stopStep s).line.claims .regen := by
    obtain ⟨d, hl, hd⟩ := allowanceOnly_stopStep s
    rw [hl]
    exact .inl (.inr (.inl h))
  split
  · exact (orderly_stopStep s).trans ((OrderlyBut.of_line (line _)).trans (orderly_takeStep hk _ (line _ ▸ claims)))
  · exact (orderly_stopStep s).trans ((OrderlyBut.of_line (line _)).trans (orderly_startParking hk (line _ ▸ claims)))

end Sys2Proof.Machine
end

section
/-! PROOFS. The line under the backwash, the main and the decay test, and under the grant. -/

namespace Sys2Proof.Machine

variable {e : Requester → Prop} {s t u : State} {k : Grant}

/-! ### The steps of a backwash -/

theorem orderly_bwIdle (h : OrderlyBut (· = .backwash) s u) : Orderly s (bwIdle u) :=
  (h.trans (.of_backwash .idle false (line_bwIdle u) nofun fun he => absurd rfl he)).done
    (by simp [Line.needs, backwashNeeds])

theorem orderly_bwParkDone (hk : k.Lawful) (s : State) : Orderly s (bwParkDone k s) :=
  .ite (fun _ => orderly_bwIdle (.refl s)) fun _ => orderly_bwIdle ((orderly_released hk ..).after (.of_line (by simp)))

theorem allowanceOnly_stopBwStep (s : State) : AllowanceOnly s (stopBwStep s) := by
  unfold stopBwStep
  split
  · exact allowanceOnly_report ..
  · exact ⟨_, rfl, rfl⟩

theorem orderly_stopBwStep (s : State) : OrderlyBut e s (stopBwStep s) := .due fun _ => orderly_allowanceReport ..

theorem orderly_bwFault (hk : k.Lawful) (s : State) : Orderly s (bwFault k s) :=
  orderly_bwIdle ((orderly_released hk ..).after ((OrderlyBut.of_line (by simp)).after (orderly_stopBwStep s)))

theorem orderly_bwRotorFailed (hk : k.Lawful) (s : State) : Orderly s (bwRotorFailed k s) := by
  unfold bwRotorFailed
  split
  case h_1 => exact .refl s
  case h_2 => exact .refl s
  case h_3 => exact orderly_bwFault hk s
  case h_4 => exact orderly_bwFault hk s
  case h_5 => exact orderly_bwFault hk s
  case h_6 => exact .ite (fun _ => orderly_bwIdle (.refl s)) fun _ => orderly_bwFault hk s

theorem orderly_enterBwHeld (phase : SeqState) (h : s.line.claims .backwash) : Orderly s (enterBwHeld phase s) := by
  obtain ⟨d, hl, hd⟩ := allowanceOnly_stopBwStep s
  refine (orderly_stopBwStep s).trans (.of_backwash .held (stopBwStep s).flt.run.decided rfl nofun fun _ _ => ?_)
  rw [show (stopBwStep s).drain = (stopBwStep s).line.drain from rfl, hl, Line.needs_drain, hd]
  exact h

theorem orderly_fltHold (s : State) : Orderly s (fltHold s) := by
  unfold fltHold
  split
  · exact orderly_enterBwHeld _ (.inl (.inl ‹_›))
  · exact orderly_enterBwHeld _ (.inl (.inr (.inl ‹_›)))
  · exact .refl s

theorem orderly_bwRunning (n : Nat) (hs : s.supplied = true) (hq : s.line.flt = .positioning) :
    Orderly s (setFlt .running (allowanceReport .backwash (some n) s)) := by
  obtain ⟨d, hl, hd⟩ := allowanceOnly_report .backwash (some n) s
  refine (orderly_allowanceReport ..).trans (.of_backwash .running (allowanceReport .backwash (some n) s).flt.run.decided
    rfl (fun _ => ?_) fun _ _ => ?_)
  · rw [supplied_line, hl]
    exact (supplied_line s).1 hs
  · rw [hl, Line.needs_drain]
    exact .inl (.inl hq)

theorem orderly_bwRotorDone (hk : k.Lawful) (p : Pos) (s : State) : Orderly s (bwRotorDone k p s) := by
  unfold bwRotorDone
  split
  · split
    · exact .due fun _ => .ite (fun hs => orderly_bwRunning _ hs ‹_›) fun _ => orderly_enterBwHeld _ (.inl (.inl ‹_›))
    · exact .refl s
  · exact .due fun _ => orderly_bwParkDone hk s
  · exact .refl s

theorem orderly_bwRotorAsk (hk : k.Lawful) (p : Pos) (s : State) : Orderly s (bwRotorAsk k p s) := by
  have asked : Orderly s (actRequest .filterRotor p s) := .of_line (by simp)
  unfold bwRotorAsk
  dsimp only
  split
  · exact asked
  · exact asked.trans (orderly_bwRotorDone hk p _)
  · exact asked.trans (orderly_bwRotorFailed hk _)
  · exact asked.trans (orderly_bwRotorFailed hk _)

theorem orderly_askBwStep (hk : k.Lawful) (s : State) : Orderly s (askBwStep k s) := by
  unfold askBwStep
  split
  · exact orderly_bwRotorAsk hk _ s
  · exact .refl s

theorem orderly_bwPositioning (h : s.line.claims .backwash) : Orderly s (setFlt .positioning s) :=
  .of_backwash .positioning s.flt.run.decided rfl nofun fun _ _ => h

theorem orderly_enterBwPositioning (hk : k.Lawful) (h : s.line.claims .backwash) :
    Orderly s (enterBwPositioning k s) :=
  .ite (fun _ => (orderly_bwPositioning h).trans (orderly_askBwStep hk _)) fun _ => orderly_enterBwHeld _ h

theorem orderly_takeBwStep (hk : k.Lawful) (i : Fin 4) (h : s.line.claims .backwash) : Orderly s (takeBwStep k i s) :=
  (orderly_enterBwPositioning hk (s := setBwRun { s.flt.run with step := some i, elapsed := 0 } s) h).after
    (.of_line rfl)

/-- Parking entered: by a run that claims the line, or once its outcome is decided. -/
theorem orderly_startBwParking (hk : k.Lawful) (h : s.line.claims .backwash) : Orderly s (startBwParking k false s) :=
  (orderly_bwRotorAsk hk .service _).after (.of_backwash .parking false rfl nofun fun _ _ => h)

theorem orderly_startBwParking_decided (hk : k.Lawful) (h : OrderlyBut (· = .backwash) s u) :
    Orderly s (startBwParking k true u) :=
  (orderly_bwRotorAsk hk .service _).after ((h.trans (.of_backwash .parking true rfl nofun fun he =>
    absurd rfl he)).done (by simp [Line.needs, backwashNeeds]))

theorem orderly_fltGranted (hk : k.Lawful) (hh : s.line.drain.holder = some .backwash)
    (hn : ¬ e .backwash → ¬ s.line.needs .backwash) : OrderlyBut e s (fltGranted k s) := by
  unfold fltGranted
  split
  · have started : Orderly s (updateBwRecord (fun r => { r with startedAt := some s.mgu.seconds })
        { s with flt := { s.flt with snapshot := s.flt.program } }) := .of_line rfl
    dsimp only
    refine .excused ?_
    split
    · exact started.trans (orderly_takeBwStep hk _ (.inr hh))
    · exact started.trans (orderly_bwIdle ((orderly_released hk ..).trans (.of_line (line_bwRecordEnd ..))))
  · exact orderly_drainRelease hk hn

theorem orderly_endBwStep (hk : k.Lawful) (h : s.line.flt = .running) : Orderly s (endBwStep k s) := by
  obtain ⟨d, hl, hd⟩ := allowanceOnly_stopBwStep s
  have claims : (stopBwStep s).line.claims .backwash := by
    rw [hl]
    exact .inl (.inr (.inl h))
  have counted : Orderly s (raise .filter (updateBwRecord (fun r => { r with stepsDone := r.stepsDone + 1 })
      (stopBwStep s))) := (orderly_stopBwStep s).trans (.of_line rfl)
  unfold endBwStep
  dsimp only
  split
  · exact counted.trans (orderly_takeBwStep hk _ claims)
  · exact counted.trans (orderly_startBwParking hk claims)

theorem orderly_fltResume (hk : k.Lawful) (s : State) : Orderly s (fltResume k s) :=
  .due fun h => (orderly_bwPositioning (.inl (.inr (.inr (.inl h.1))))).trans (orderly_askBwStep hk _)

theorem orderly_bwAbandon (hk : k.Lawful) (s : State) : Orderly s (bwAbandon k s) :=
  orderly_startBwParking_decided hk ((orderly_released hk ..).after (.of_line (by simp)))

theorem orderly_bwRotorMoved (hk : k.Lawful) (reset : Bool) (at? : Option Pos) (s : State) :
    Orderly s (bwRotorMoved k reset at? s) := by
  unfold bwRotorMoved
  split
  · obtain ⟨d, hl, hd⟩ := allowanceOnly_stopBwStep s
    refine (orderly_stopBwStep s).trans (orderly_enterBwPositioning hk (.inl ?_))
    rw [hl, Line.needs_drain]
    exact .inr (.inl ‹_›)
  · exact orderly_askBwStep hk s
  · exact orderly_bwRotorAsk hk _ s
  · exact .refl s
  · exact .due fun _ => .of_line (by simp)
  · exact .due fun _ => .of_line (by simp)

theorem orderly_fltQueue (hk : k.Lawful) (i : Fin 4) (trig : BwTrigger) (s : State) : Orderly s (fltQueue k i trig s) :=
  (orderly_drainRequest hk .backwash _).after (.of_backwash .queued false rfl nofun fun _ => by simp [backwashNeeds])

theorem orderly_queueForDemand (hk : k.Lawful) (s : State) : Orderly s (queueForDemand k s) := by
  have taken : Orderly s { s with flt := { s.flt with queueDue := false } } := .of_line rfl
  unfold queueForDemand
  dsimp only
  split
  · exact .ite (fun _ => taken.trans (orderly_fltQueue hk ..)) fun _ => taken
  · exact taken

/-! ### The main and the runs it holds (R112, R143, R147) -/

theorem rgsHold_seq (s : State) : (rgsHold s).line.seq ≠ .running := by
  unfold rgsHold
  split
  · exact nofun
  · exact nofun
  · rename_i h
    exact h

theorem fltHold_flt (s : State) : (fltHold s).line.flt ≠ .running := by
  unfold fltHold
  split
  · exact nofun
  · exact nofun
  · rename_i h
    exact h

@[simp] theorem stopBwStep_rgs (s : State) : (stopBwStep s).rgs = s.rgs := by
  unfold stopBwStep allowanceReport
  repeat' split
  all_goals simp

@[simp] theorem enterBwHeld_rgs (phase : SeqState) (s : State) : (enterBwHeld phase s).rgs = s.rgs := stopBwStep_rgs s

@[simp] theorem fltHold_rgs (s : State) : (fltHold s).rgs = s.rgs := by
  unfold fltHold
  split <;> simp

/-- The runs held when the main or the field link is lost. -/
theorem orderly_held (h : u.line = { s.line with main := u.line.main, fieldFresh := u.line.fieldFresh }) :
    Orderly s (fltHold (rgsHold u)) := by
  refine orderly_lost h ((orderly_rgsHold u).trans (orderly_fltHold _)) ?_ (fltHold_flt _)
  rw [show (fltHold (rgsHold u)).line.seq = (rgsHold u).line.seq from congrArg Rgs.seq (fltHold_rgs _)]
  exact rgsHold_seq u

theorem orderly_setMainShut (m : MainState) (s : State) : Orderly s (setMainShut m s) := by
  have set : (setMain m s).line =
      { s.line with main := (setMain m s).line.main, fieldFresh := (setMain m s).line.fieldFresh } := by simp
  unfold setMainShut
  dsimp only
  split
  · exact orderly_held set
  · exact orderly_back set fun c => absurd c.1 ‹_›

theorem orderly_setMainOpen (hk : k.Lawful) (s : State) : Orderly s (setMainOpen k s) := by
  unfold setMainOpen
  split
  · exact .refl s
  · have set : Orderly s (setMain .opened s) := orderly_back (by simp) fun c => absurd c.1 ‹_›
    exact ((set.trans (orderly_drainRegrant hk _)).trans (orderly_rgsResume hk _)).trans (orderly_fltResume hk _)

/-! ### The decay test (R161 to R164) -/

theorem orderly_testIdle (h : OrderlyBut (· = .test) s u) : Orderly s (testIdle u) :=
  (h.trans (.of_test .idle (line_testIdle u) fun he => absurd rfl he)).done (by simp [Line.needs, testNeeds])

theorem orderly_testRelease (hk : k.Lawful) (s : State) : Orderly s (testRelease k s) :=
  orderly_testIdle (orderly_released hk ..)

theorem orderly_testStop (hk : k.Lawful) (r : TestResult) (s : State) : Orderly s (testStop k r s) := by
  unfold testStop
  split
  · exact .refl s
  · exact orderly_testRelease hk s
  · exact (orderly_testRelease hk _).after (.of_line rfl)

theorem orderly_testValve (hk : k.Lawful) (s : State) : Orderly s (testValve k s) :=
  .due fun _ => orderly_testStop hk ..

theorem orderly_mainRefused (hk : k.Lawful) (a : Answer) (s : State) : Orderly s (mainRefused k a s) :=
  (orderly_testValve hk _).after (orderly_setMainShut ..)

theorem orderly_closeMainFor (hk : k.Lawful) (r : CloseReason) (s : State) : Orderly s (closeMainFor k r s) := by
  have asked : Orderly s (actRequest .main .mainClosed s) := .of_line (by simp)
  unfold closeMainFor
  dsimp only
  split
  · exact asked.trans (orderly_setMainShut ..)
  · exact asked.trans (orderly_setMainShut ..)
  · exact asked.trans (orderly_mainRefused hk ..)
  · exact asked.trans (orderly_mainRefused hk ..)

theorem orderly_openMainAsk (hk : k.Lawful) (s : State) : Orderly s (openMainAsk k s) := by
  have asked : Orderly s (actRequest .main .mainOpen s) := .of_line (by simp)
  unfold openMainAsk
  dsimp only
  split
  · exact asked.trans (orderly_setMainShut ..)
  · exact asked.trans (orderly_setMainOpen hk _)
  · exact asked.trans (orderly_mainRefused hk ..)
  · exact asked.trans (orderly_mainRefused hk ..)

/-- The test goes on to a state past WAITING, having claimed the line. -/
theorem orderly_testTo (q : TestState) (x : DecayTest) (h : s.line.claims .test) :
    Orderly s (setTest q (putTest x s)) :=
  .of_test q rfl fun _ _ => h

theorem orderly_testClosed (s : State) : Orderly s (testClosed s) :=
  .due fun h => orderly_testTo .settle _ (.inl ⟨by simp [State.line, h.1], by simp [State.line, h.1]⟩)

theorem orderly_testOpened (hk : k.Lawful) (s : State) : Orderly s (testOpened k s) :=
  .due fun _ => orderly_testRelease hk s

theorem orderly_testGranted (hk : k.Lawful) (hh : s.line.drain.holder = some .test)
    (hn : ¬ e .test → ¬ s.line.needs .test) : OrderlyBut e s (testGranted k s) :=
  .ite (fun _ => .excused (((orderly_testTo .closing _ (.inr hh)).trans (orderly_closeMainFor hk ..)).trans
    (orderly_testClosed _))) fun _ => orderly_drainRelease hk hn

/-! ### The tank of a run under a grant -/

theorem tankKept_drainRegrant (hk : k.Lawful) (s : State) : TankKept s (drainRegrant k s) := by
  unfold drainRegrant
  split
  · split
    · exact (hk.tank _ _).after (.of_rgs rfl)
    · exact .refl s
  · exact .refl s

theorem tankKept_drainRelease (hk : k.Lawful) (x : Requester) (s : State) : TankKept s (drainRelease k x s) := by
  unfold drainRelease
  split
  · exact (tankKept_drainRegrant hk _).after (.of_rgs (by simp [drainFreed]))
  · split
    · exact .of_rgs rfl
    · exact .refl s

theorem bwIdle_rgs (s : State) : (bwIdle s).rgs = s.rgs := rfl

theorem tankKept_bwParkDone (hk : k.Lawful) (s : State) : TankKept s (bwParkDone k s) :=
  .ite (fun _ => .of_rgs rfl) fun _ => TankKept.trans ((tankKept_drainRelease hk ..).after (.of_rgs (by
    unfold bwRestore; dsimp only; split <;> rfl))) (.of_rgs (bwIdle_rgs _))

theorem tankKept_bwFault (hk : k.Lawful) (s : State) : TankKept s (bwFault k s) :=
  TankKept.trans ((tankKept_drainRelease hk ..).after (.of_rgs (by simp))) (.of_rgs (bwIdle_rgs _))

theorem tankKept_bwRotorFailed (hk : k.Lawful) (s : State) : TankKept s (bwRotorFailed k s) := by
  unfold bwRotorFailed
  split
  case h_1 => exact .refl s
  case h_2 => exact .refl s
  case h_3 => exact tankKept_bwFault hk s
  case h_4 => exact tankKept_bwFault hk s
  case h_5 => exact tankKept_bwFault hk s
  case h_6 => exact .ite (fun _ => .of_rgs rfl) fun _ => tankKept_bwFault hk s

theorem tankKept_bwRotorDone (hk : k.Lawful) (p : Pos) (s : State) : TankKept s (bwRotorDone k p s) := by
  unfold bwRotorDone
  split
  · split
    · refine .ite (fun _ => .ite (fun _ => .of_rgs ?_) fun _ => .of_rgs (by simp)) fun _ => .refl s
      unfold allowanceReport
      split <;> simp
    · exact .refl s
  · exact .ite (fun _ => tankKept_bwParkDone hk s) fun _ => .refl s
  · exact .refl s

theorem tankKept_askBwStep (hk : k.Lawful) (s : State) : TankKept s (askBwStep k s) := by
  unfold askBwStep
  split
  · rename_i x _
    have asked : TankKept s (actRequest .filterRotor (backwashPos x.pos) s) := .of_rgs (by simp)
    unfold bwRotorAsk
    dsimp only
    split
    · exact asked
    · exact asked.trans (tankKept_bwRotorDone hk ..)
    · exact asked.trans (tankKept_bwRotorFailed hk _)
    · exact asked.trans (tankKept_bwRotorFailed hk _)
  · exact .refl s

theorem tankKept_fltGranted (hk : k.Lawful) (s : State) : TankKept s (fltGranted k s) := by
  have started : TankKept s (updateBwRecord (fun r => { r with startedAt := some s.mgu.seconds })
      { s with flt := { s.flt with snapshot := s.flt.program } }) := .of_rgs rfl
  unfold fltGranted
  dsimp only
  split
  · split
    · unfold takeBwStep enterBwPositioning
      split
      · exact (tankKept_askBwStep hk _).after (.of_rgs rfl)
      · exact .of_rgs (by simp)
    · refine (started.trans (tankKept_drainRelease hk .backwash _)).trans (.of_rgs ?_)
      rw [bwIdle_rgs, bwRecordEnd_rgs]
  · exact tankKept_drainRelease hk ..

theorem stopStep_rgs (s : State) : (stopStep s).rgs = s.rgs := by
  unfold stopStep allowanceReport
  repeat' split
  all_goals simp

theorem tankKept_enterHeld (phase : SeqState) (s : State) : TankKept s (enterHeld phase s) :=
  ⟨fun _ => nofun, fun _ => by
    rw [show (enterHeld phase s).rgs.run.tank = (stopStep s).rgs.run.tank from rfl, stopStep_rgs]⟩

theorem tankKept_rgsHold (s : State) : TankKept s (rgsHold s) := by
  unfold rgsHold
  split
  · exact tankKept_enterHeld ..
  · exact tankKept_enterHeld ..
  · exact .refl s

theorem tankKept_setMainShut (m : MainState) (s : State) : TankKept s (setMainShut m s) := by
  have set : TankKept s (setMain m s) := .of_rgs (by simp)
  unfold setMainShut
  exact .ite (fun _ => (set.trans (tankKept_rgsHold _)).trans (.of_rgs (fltHold_rgs _))) fun _ => set

theorem testIdle_rgs (s : State) : (testIdle s).rgs = s.rgs := rfl

theorem tankKept_testRelease (hk : k.Lawful) (s : State) : TankKept s (testRelease k s) :=
  (tankKept_drainRelease hk ..).trans (.of_rgs (testIdle_rgs _))

theorem tankKept_testValve (hk : k.Lawful) (s : State) : TankKept s (testValve k s) := by
  unfold testValve testStop
  split
  · split
    · exact .refl s
    · exact tankKept_testRelease hk s
    · exact (tankKept_testRelease hk _).after (.of_rgs rfl)
  · exact .refl s

theorem tankKept_closeMainFor (hk : k.Lawful) (r : CloseReason) (s : State) : TankKept s (closeMainFor k r s) := by
  have asked : TankKept s (actRequest .main .mainClosed s) := .of_rgs (by simp)
  unfold closeMainFor
  dsimp only
  split
  · exact asked.trans (tankKept_setMainShut ..)
  · exact asked.trans (tankKept_setMainShut ..)
  · exact (asked.trans (tankKept_setMainShut ..)).trans (tankKept_testValve hk _)
  · exact (asked.trans (tankKept_setMainShut ..)).trans (tankKept_testValve hk _)

theorem testClosed_rgs (s : State) : (testClosed s).rgs = s.rgs := by
  unfold testClosed
  split <;> rfl

theorem tankKept_testGranted (hk : k.Lawful) (s : State) : TankKept s (testGranted k s) := by
  have closing : TankKept s (setTest .closing (putTest { s.lkg.test with timer := none } s)) := .of_rgs rfl
  exact .ite (fun _ => (closing.trans (tankKept_closeMainFor hk ..)).trans (.of_rgs (testClosed_rgs _))) fun _ =>
    tankKept_drainRelease hk ..

theorem tankKept_rgsGranted (hk : k.Lawful) (s : State) : TankKept s (rgsGranted k s) := by
  unfold rgsGranted
  split
  · exact ⟨fun h => absurd ‹_› h, fun h => absurd ‹_› h⟩
  · exact tankKept_drainRelease hk ..

/-! ### The grant keeps the laws -/

theorem lawful_granted (n : Nat) : (granted n).Lawful := by
  induction n with
  | zero => exact ⟨fun _ _ s _ _ => .refl s, fun _ s => .refl s⟩
  | succ n ih =>
    refine ⟨fun e y s hh hn => ?_, fun y s => ?_⟩
    · cases y with
      | regen => exact orderly_rgsGranted ih hh hn
      | backwash => exact orderly_fltGranted ih hh hn
      | test => exact orderly_testGranted ih hh hn
    · cases y with
      | regen => exact tankKept_rgsGranted ih s
      | backwash => exact tankKept_fltGranted ih s
      | test => exact tankKept_testGranted ih s

theorem lawful_onGrant : onGrant.Lawful := lawful_granted 16

end Sys2Proof.Machine
end

section
/-! PROOFS. The line under the notices, the commands and the events of the machine's blocks. -/

namespace Sys2Proof.Machine

variable {s t u : State} {k : Grant}

/-! ### Ends of a regeneration after which it parks (R113, R114, R116) -/

theorem orderly_dropTank (s : State) : Orderly s (dropTank s) := by
  refine ⟨id, id, fun r _ g => ?_⟩
  cases r with
  | regen =>
    intro n
    refine g ?_
    rcases n with h | h | h | ⟨-, h⟩
    · exact .inl h
    · exact .inr (.inl h)
    · exact .inr (.inr (.inl h))
    · exact absurd rfl h
  | backwash => exact g
  | test => exact g

/-- The line released by a run whose outcome is decided, and PARKING entered. -/
theorem orderly_releaseAndPark (hk : k.Lawful) (h : Orderly s u) (hq : u.line.seq ≠ .queued) (ht : u.line.tank = none) :
    Orderly s (startParking k (drainRelease k .regen u)) :=
  h.trans (orderly_startParking_decided hk (orderly_released hk ..)
    (((tankKept_drainRelease hk .regen u).tank hq).trans ht))

theorem line_stopStep_seq (s : State) : (stopStep s).line.seq = s.line.seq := by
  obtain ⟨d, hl, -⟩ := allowanceOnly_stopStep s
  rw [hl]

theorem orderly_rgsAbandon (hk : k.Lawful) (h : s.line.seq = .held) : Orderly s (rgsAbandon k s) := by
  refine orderly_releaseAndPark hk ((orderly_dropTank _).after (.of_line (by simp))) ?_ rfl
  simp [h]

theorem orderly_runTankReached (hk : k.Lawful) (old : Option Pos) (p : Pos) (s : State) :
    Orderly s (runTankReached k old p s) := by
  unfold runTankReached
  split
  · have dropped : Orderly s (judgeTanks old p (dropTank (exhaustTank .abandoned s))) :=
      (OrderlyBut.of_line (line_judgeTanks ..)).after ((orderly_dropTank _).after (.of_line (line_exhaustTank ..)))
    exact dropped.trans (orderly_finish hk (orderly_released hk ..))
  · refine orderly_releaseAndPark hk ?_ ?_ (by simp)
    · exact (OrderlyBut.of_line (line_judgeTanks ..)).after ((orderly_dropTank _).after
        ((OrderlyBut.of_line (by rw [line_offerRgs, line_exhaustTank, line_closeDraw])).after (orderly_stopStep s)))
    · have : s.line.seq ≠ .queued := ‹¬ s.rgs.seq = .queued›
      simpa [line_stopStep_seq] using this

theorem orderly_selReached (hk : k.Lawful) (old : Option Pos) (p : Pos) (s : State) : Orderly s (selReached k old p s) :=
  .ite (fun _ => orderly_runTankReached hk old p s) fun _ => .of_line (by simp)

theorem orderly_selDone (hk : k.Lawful) (old : Option Pos) (p : Pos) (s : State) : Orderly s (selDone k old p s) :=
  .ite (fun _ => orderly_selReached hk old p s) fun _ => (orderly_selMoveDone hk _).after (orderly_selReached hk old p s)

theorem orderly_rgsRotorMoved (hk : k.Lawful) (reset : Bool) (at? : Option Pos) (s : State) :
    Orderly s (rgsRotorMoved k reset at? s) := by
  unfold rgsRotorMoved
  split
  · obtain ⟨d, hl, hd⟩ := allowanceOnly_stopStep s
    refine (orderly_stopStep s).trans (orderly_enterPositioning hk (.inl ?_))
    rw [hl, Line.needs_drain]
    exact .inr (.inl ‹_›)
  · exact orderly_askStep hk s
  · exact orderly_rgsRotorAsk hk _ s
  · exact .refl s
  · exact .due fun _ => .of_line (by simp)
  · exact .due fun _ => .of_line (by simp)

theorem orderly_rgsCalendar (hk : k.Lawful) (s : State) : Orderly s (rgsCalendar k s) := by
  have taken : Orderly s { s with rgs := { s.rgs with calendarDue := false } } := .of_line rfl
  unfold rgsCalendar
  dsimp only
  split
  · exact taken
  · split
    · exact taken.trans (orderly_rgsQueue hk ..)
    · exact taken

theorem orderly_cancelRun (hk : k.Lawful) (h : s.line.seq = .positioning ∨ s.line.seq = .running ∨ s.line.seq = .held) :
    Orderly s (cancelRun k s) := by
  have line : ∀ u : State, (match u.rgs.run.tank with
      | some t =>
        if u.rgs.run.drawBegun then exhaustTank .cancelled u
        else keepTank (if u.reserve < (u.tank t).remaining then .standby else .exhausted) .cancelled u
      | none => u).line = u.line := fun u => by
    split
    · split <;> simp
    · rfl
  obtain ⟨d, hl, hd⟩ := allowanceOnly_stopStep s
  have claims : (dropTank (closeDraw false (stopStep s))).line.claims .regen := by
    refine .inl ?_
    rw [line_dropTank, line_closeDraw, hl]
    rcases h with h | h | h
    · exact .inl h
    · exact .inr (.inl h)
    · exact .inr (.inr (.inl h))
  unfold cancelRun
  dsimp only
  refine ((orderly_dropTank _).after ((OrderlyBut.of_line (line _)).after ((OrderlyBut.of_line (line_closeDraw ..)).after
    (orderly_stopStep s)))).trans (orderly_startParking hk ?_)
  rw [line_dropTank, line] at *
  exact claims

theorem orderly_cancelQueued (hk : k.Lawful) (s : State) : Orderly s (cancelQueued k s) :=
  orderly_finish hk ((orderly_released hk .regen s).trans (.of_line (by simp)))

theorem orderly_selCommand (hk : k.Lawful) (p : Pos) (s : State) : Orderly s (selCommand k p s) := by
  have asked : Orderly s (actRequest .selector p s) := .of_line (by simp)
  unfold selCommand
  dsimp only
  split
  · exact asked
  · exact asked.trans (orderly_selDone hk ..)
  · exact asked.trans (.of_line (by simp))
  · exact asked.trans (.of_line (by simp))

theorem orderly_bypassOnTaken (hk : k.Lawful) (s : State) : Orderly s (bypassOnTaken k s) :=
  (orderly_selCommand hk .bypass _).after (.of_line rfl)

theorem orderly_bypassOffTaken (hk : k.Lawful) (t : TankId) (s : State) : Orderly s (bypassOffTaken k t s) :=
  (orderly_selCommand hk t.pos _).after (.of_line rfl)

/-! ### The latch (R151, R152) -/

theorem orderly_latchClose (hk : k.Lawful) (s : State) : Orderly s (latchClose k s) := by
  unfold latchClose
  split
  · exact orderly_closeMainFor hk ..
  · exact orderly_closeMainFor hk ..
  · exact orderly_closeMainFor hk ..
  · exact orderly_setMainShut ..
  · exact orderly_setMainShut ..
  · exact .refl s

theorem orderly_latchSet (hk : k.Lawful) (c : LatchCause) (s : State) : Orderly s (latchSet k c s) := by
  unfold latchSet
  split
  · exact .refl s
  · have closed := (orderly_latchClose hk (raise .leak { s with lkg := { s.lkg with
      latch := some { cause := c, seconds := s.mgu.seconds } } })).after (s := s) (.of_line rfl)
    exact .ite (fun _ => closed) fun _ => closed.trans (orderly_testStop hk ..)

theorem orderly_latchedRetry (hk : k.Lawful) (s : State) : Orderly s (latchedRetry k s) := by
  have taken : Orderly s { s with lkg := { s.lkg with retryDue := false } } := .of_line rfl
  exact .ite (fun _ => taken.trans (orderly_closeMainFor hk ..)) fun _ => taken

/-! ### The course of the decay test -/

theorem orderly_testStart (hk : k.Lawful) (trig : TestTrigger) (s : State) : Orderly s (testStart k trig s) :=
  (orderly_drainRequest hk .test _).after (.of_test .waiting rfl fun _ => by simp [testNeeds])

theorem orderly_testCalendar (hk : k.Lawful) (s : State) : Orderly s (testCalendar k s) := by
  have taken : Orderly s { s with lkg := { s.lkg with calendarDue := false } } := .of_line rfl
  exact .ite (fun _ => taken.trans (orderly_testStart hk ..)) fun _ => taken

theorem orderly_testReopen (hk : k.Lawful) (h : s.line.needs .test) : Orderly s (testReopen k s) :=
  ((orderly_testTo .reopening _ (.inl h)).trans (orderly_openMainAsk hk _)).trans (orderly_testOpened hk _)

theorem orderly_testAbortReopen (hk : k.Lawful) (r : TestResult) (h : s.line.needs .test) :
    Orderly s (testAbortReopen k r s) :=
  (orderly_testReopen hk (s := setResult r s) h).after (.of_line rfl)

theorem needs_test {q : TestState} (h : s.lkg.test.st = q) (hi : q ≠ .idle) (hw : q ≠ .waiting) : s.line.needs .test :=
  ⟨fun c => hi (h.symm.trans c), fun c => hw (h.symm.trans c)⟩

theorem orderly_testStale (hk : k.Lawful) (s : State) : Orderly s (testStale k s) := by
  unfold testStale
  split
  · exact .refl s
  · exact .refl s
  · exact (orderly_testRelease hk _).after (.of_line rfl)
  · exact orderly_testAbortReopen hk _ ⟨‹_›, ‹_›⟩

theorem orderly_testWindow (hk : k.Lawful) (s : State) : Orderly s (testWindow k s) :=
  orderly_testIdle ((orderly_released hk .test s).trans (.of_line (line_setResult ..)))

theorem orderly_enterMeasure (h : s.line.needs .test) : Orderly s (enterMeasure s) :=
  .of_test .measure rfl fun _ _ => .inl h

theorem orderly_testSettled (hk : k.Lawful) (h : s.line.needs .test) : Orderly s (testSettled k s) :=
  .ite (fun _ => orderly_enterMeasure h) fun _ => orderly_testAbortReopen hk _ h

theorem orderly_measureCheck (hk : k.Lawful) (h : s.line.needs .test) : Orderly s (measureCheck k s) :=
  .ite (fun _ => .ite (fun _ => orderly_testAbortReopen hk _ h) fun _ => .of_line rfl) fun _ =>
    orderly_testAbortReopen hk _ h

theorem orderly_measureSecond (hk : k.Lawful) (h : s.line.needs .test) : Orderly s (measureSecond k s) := by
  have ticked : ∀ n, Orderly s { putTest { s.lkg.test with timer := tick s.lkg.test.timer } s with choices := n } :=
    fun n => .of_line rfl
  unfold measureSecond
  dsimp only
  split
  · exact .ite (fun _ => (ticked _).trans (orderly_measureCheck hk h)) fun _ => ticked _
  · exact (ticked s.choices).trans (orderly_measureCheck hk h)

theorem orderly_testSecond (hk : k.Lawful) (s : State) : Orderly s (testSecond k s) := by
  unfold testSecond
  split
  · exact orderly_measureSecond hk (needs_test (q := .measure) ‹_› nofun nofun)
  · exact .of_line rfl
  · exact .of_line rfl
  · exact .refl s

theorem orderly_testMeasured (hk : k.Lawful) (h : s.line.needs .test) : Orderly s (testMeasured k s) := by
  have decided : Orderly s (decideTest s) := .of_line (by simp)
  refine .ite (fun _ => ?_) fun _ => orderly_testAbortReopen hk _ h
  refine .ite (fun _ => ?_) fun _ => decided.trans (orderly_testReopen hk (by simpa using h))
  exact (decided.trans (orderly_latchSet hk ..)).trans (orderly_testRelease hk _)

/-! ### Notices of MAIN (R148) -/

theorem orderly_mainDone (hk : k.Lawful) (p : Pos) (s : State) : Orderly s (mainDone k p s) := by
  unfold mainDone
  split
  · exact (orderly_setMainShut ..).trans (orderly_testClosed _)
  · exact (orderly_setMainOpen hk s).trans (orderly_testOpened hk _)
  · exact .refl s

theorem orderly_mainFault (hk : k.Lawful) (s : State) : Orderly s (mainFault k s) :=
  (orderly_setMainShut ..).trans (orderly_testValve hk _)

theorem orderly_mainFoundOpen (hk : k.Lawful) (s : State) : Orderly s (mainFoundOpen k s) :=
  .ite (fun _ => orderly_closeMainFor hk ..) fun _ => orderly_setMainOpen hk s

theorem orderly_mainFoundClosed (s : State) : Orderly s (mainFoundClosed s) := orderly_setMainShut ..

theorem orderly_mainDisplaced (hk : k.Lawful) (at? : Option Pos) (s : State) : Orderly s (mainDisplaced k at? s) := by
  refine (orderly_testValve hk _).after ?_
  split
  · exact orderly_mainFoundOpen hk s
  · exact orderly_mainFoundClosed s
  · exact orderly_setMainShut ..

theorem orderly_mainReset (hk : k.Lawful) (s : State) : Orderly s (mainReset k s) :=
  (orderly_setMainShut ..).trans (orderly_testValve hk _)

theorem orderly_mainAdopted (hk : k.Lawful) (p : Pos) (s : State) : Orderly s (mainAdopted k p s) :=
  .ite (fun _ => orderly_mainFoundOpen hk s) fun _ => orderly_mainFoundClosed s

/-! ### Rules, zones and the field (R155 to R160) -/

theorem orderly_tripRule (hk : k.Lawful) (i : Fin 16) (s : State) : Orderly s (tripRule k i s) := by
  have tripped : Orderly s (raise .leak (setRule i { s.lkg.rules[i] with
      st := .tripped, lastTrip := some s.mgu.seconds, trips := satAdd 255 s.lkg.rules[i].trips 1 } s)) := .of_line rfl
  exact .ite (fun _ => tripped.trans (orderly_latchSet hk ..)) fun _ => tripped

theorem orderly_judgeEventRule (hk : k.Lawful) (s : State) (i : Fin 16) : Orderly s (judgeEventRule k i s) :=
  .due fun _ => orderly_tripRule hk i s

theorem orderly_judgeZoneRule (hk : k.Lawful) (s : State) (i : Fin 16) : Orderly s (judgeZoneRule k i s) :=
  .due fun _ => .ite (fun _ => orderly_tripRule hk i s) fun _ => .due fun _ => .of_line rfl

theorem orderly_judgeZoneRules (hk : k.Lawful) (s : State) : Orderly s (judgeZoneRules k s) :=
  orderly_foldl (orderly_judgeZoneRule hk) _ s

theorem orderly_lkgIncrement (hk : k.Lawful) (dv aVol : Nat) (s : State) : Orderly s (lkgIncrement k dv aVol s) :=
  (orderly_foldl (orderly_judgeEventRule hk) _ _).after (.of_line (by simp))

theorem orderly_zoneReport (hk : k.Lawful) (i : Fin 8) (low : Nat) (s : State) : Orderly s (zoneReport k i low s) :=
  (orderly_judgeZoneRules hk _).after (.of_line (by simp))

theorem orderly_moistureSample (hk : k.Lawful) (v : Nat) (s : State) : Orderly s (moistureSample k v s) := by
  unfold moistureSample
  split
  · split
    · exact orderly_zoneReport hk ..
    · exact .refl s
  · exact .of_line rfl

theorem orderly_silentTaken (hk : k.Lawful) (i : Fin 8) (s : State) : Orderly s (silentTaken k i s) :=
  (orderly_judgeZoneRules hk _).after (.of_line rfl)

theorem orderly_fieldLostTaken (hk : k.Lawful) (s : State) : Orderly s (fieldLostTaken k s) :=
  (OrderlyBut.of_line (line_offerFault ..)).after ((orderly_latchSet hk ..).after (.of_line rfl))

theorem orderly_lkgStale (hk : k.Lawful) (s : State) : Orderly s (lkgStale k s) :=
  (orderly_testStale hk _).after (.of_line rfl)

/-! ### Commands to the main and the test (R149, R150, R164) -/

theorem orderly_closeMainTaken (hk : k.Lawful) (s : State) : Orderly s (closeMainTaken k s) := by
  refine (orderly_testStop hk ..).after ?_
  unfold closeMainAct
  split
  · exact orderly_closeMainFor hk ..
  · exact orderly_closeMainFor hk ..
  · exact orderly_closeMainFor hk ..
  · exact orderly_setMainShut ..
  · exact orderly_setMainShut ..
  · exact .refl s

theorem orderly_abortTest (hk : k.Lawful) (s : State) : Orderly s (abortTest k s) := by
  unfold abortTest
  split
  · exact .refl s
  · exact .refl s
  · exact (orderly_testRelease hk _).after (.of_line rfl)
  · exact orderly_testAbortReopen hk _ ⟨‹_›, ‹_›⟩

end Sys2Proof.Machine
end

section
/-! PROOFS. Every event keeps the line. -/

namespace Sys2Proof.Machine

variable {s t u : State}

/-! ### Notices (R69) -/

theorem orderly_notifyDone (a : Actr) (old : Option Pos) (p : Pos) (s : State) : Orderly s (notifyDone a old p s) := by
  cases a with
  | main => exact orderly_mainDone lawful_onGrant p s
  | selector => exact orderly_selDone lawful_onGrant old p s
  | regenRotor => exact orderly_rgsRotorDone lawful_onGrant p s
  | filterRotor => exact orderly_bwRotorDone lawful_onGrant p s

theorem orderly_notifyFault (a : Actr) (code : Byte) (s : State) : Orderly s (notifyFault a code s) := by
  cases a with
  | main => exact orderly_mainFault lawful_onGrant s
  | selector => exact .of_line (line_selFailed s)
  | regenRotor => exact orderly_rgsRotorFailed lawful_onGrant code s
  | filterRotor => exact orderly_bwRotorFailed lawful_onGrant s

theorem orderly_notifyDisplaced (a : Actr) (at? : Option Pos) (s : State) : Orderly s (notifyDisplaced a at? s) := by
  cases a with
  | main => exact orderly_mainDisplaced lawful_onGrant at? s
  | selector => exact .refl s
  | regenRotor => exact orderly_rgsRotorMoved lawful_onGrant false at? s
  | filterRotor => exact orderly_bwRotorMoved lawful_onGrant false at? s

theorem orderly_notifyAdopted (a : Actr) (old : Option Pos) (p : Pos) (s : State) :
    Orderly s (notifyAdopted a old p s) := by
  cases a with
  | main => exact orderly_mainAdopted lawful_onGrant p s
  | selector => exact orderly_selReached lawful_onGrant old p s
  | regenRotor => exact .of_line (line_rgsRotorAdopted p s)
  | filterRotor => exact .of_line (line_bwRotorAdopted p s)

theorem orderly_notifyReset (a : Actr) (s : State) : Orderly s (notifyReset a s) := by
  cases a with
  | main => exact orderly_mainReset lawful_onGrant s
  | selector => exact .refl s
  | regenRotor => exact orderly_rgsRotorMoved lawful_onGrant true none s
  | filterRotor => exact orderly_bwRotorMoved lawful_onGrant true none s

/-! ### Events of ACT -/

theorem orderly_arrivalEvent (a : Actr) (s : State) : Orderly s (arrivalEvent a s) := by
  unfold arrivalEvent
  split
  · exact (orderly_notifyDone ..).after (.of_line (line_setRun ..))
  · exact .refl s

theorem orderly_adoptionEvent (a : Actr) (s : State) : Orderly s (adoptionEvent a s) := by
  unfold adoptionEvent
  split
  · exact (orderly_notifyAdopted ..).after (.of_line (line_setRun ..))
  · exact .refl s

theorem orderly_timeoutEvent (a : Actr) (s : State) : Orderly s (timeoutEvent a s) := by
  unfold timeoutEvent
  split
  · exact .ite (fun _ => .of_line (line_setRun ..)) fun _ => (orderly_notifyFault ..).after (.of_line (line_actFault ..))
  · exact .refl s

theorem orderly_pauseEvent (a : Actr) (s : State) : Orderly s (pauseEvent a s) := by
  unfold pauseEvent
  split
  · exact .of_line (line_setRun ..)
  · exact .refl s

theorem orderly_stallEvent (a : Actr) (s : State) : Orderly s (stallEvent a s) := by
  unfold stallEvent
  split
  · exact (orderly_notifyFault ..).after (.of_line (line_actFault ..))
  · exact .refl s

theorem orderly_displacementEvent (a : Actr) (s : State) : Orderly s (displacementEvent a s) := by
  unfold displacementEvent
  split
  · exact (orderly_notifyDisplaced ..).after (.of_line (line_actFault ..))
  · exact .refl s

/-! ### Events of RGS, FLT and LKG -/

theorem orderly_regenStepEndEvent (s : State) : Orderly s (regenStepEndEvent s) := by
  unfold regenStepEndEvent
  split
  · rename_i short due
    refine orderly_endStep lawful_onGrant short ?_
    unfold stepEndDue at due
    split at due
    case isTrue h => exact h
    case isFalse => cases due
  · exact .refl s

theorem orderly_regenHoldEvent (s : State) : Orderly s (regenHoldEvent s) :=
  .due fun h => orderly_rgsAbandon lawful_onGrant (eq_of_beq (Bool.and_eq_true_iff.1 h).1)

theorem orderly_bwStepEndEvent (s : State) : Orderly s (bwStepEndEvent s) :=
  .due fun h => orderly_endBwStep lawful_onGrant (eq_of_beq (Bool.and_eq_true_iff.1 h).1)

theorem testExpired_st {q : TestState} (h : s.testExpired q = true) : s.lkg.test.st = q :=
  eq_of_beq (Bool.and_eq_true_iff.1 h).1

theorem orderly_testSettleEvent (s : State) : Orderly s (testSettleEvent s) :=
  .due fun h => orderly_testSettled lawful_onGrant (needs_test (testExpired_st h) nofun nofun)

theorem orderly_testMeasureEvent (s : State) : Orderly s (testMeasureEvent s) :=
  .due fun h => orderly_testMeasured lawful_onGrant (needs_test (testExpired_st h) nofun nofun)

/-! ### Channels and their results -/

/-- TRK's operations pass the line by. -/
theorem line_of_offTracks (h : t.offTracks = s.offTracks) : t.line = s.line :=
  show t.offTracks.line = s.offTracks.line by rw [h]

theorem line_setChannel (i : Fin 8) (c : Channel) (s : State) : (setChannel i c s).line = s.line := rfl

theorem line_fltFlowUpdate (s : State) : (fltFlowUpdate s).line = s.line := by
  have : ∀ (l : List (Fin 4)) (s : State), (l.foldl (fun s i => evaluateStage i s) s).line = s.line := fun l => by
    induction l with
    | nil => exact fun s => rfl
    | cons i l ih => exact fun s => (ih _).trans (line_evaluateStage i s)
  exact this _ s

theorem line_toTracker (ch : Fin 8) (c : ChannelRec) (r : ChanResult) (s : State) (i : Fin 7) :
    (toTracker ch c r i s).line = s.line := by
  have taken := line_of_offTracks (trackerResult_offTracks i c r s)
  unfold toTracker
  dsimp only
  split
  · split
    · exact (line_fltFlowUpdate _).trans taken
    · exact taken
  · rfl

theorem line_brineIncrement (phase : BrinePhase) (dv : Nat) (s : State) :
    (brineIncrement phase dv s).line = s.line := by
  cases phase <;> simp [brineIncrement]

theorem line_toBrine (ch : Fin 8) (m : ChannelMode) (r : ChanResult) (s : State) : (toBrine ch m r s).line = s.line := by
  unfold toBrine brineResult
  split
  · rw [line_brineIncrement, line_brineStage]
  · rfl

theorem orderly_giveNotices (n : Option (TankId × Bool × Bool)) (s : State) : Orderly s (giveNotices n s) := by
  unfold giveNotices
  split
  · rename_i t reserve exhausted
    have reserved : Orderly s (if reserve then reserveNotice onGrant t s else s) :=
      .due fun _ => orderly_seekAtNotice lawful_onGrant t s
    exact .ite (fun _ => reserved.trans (orderly_exhaustionNotice lawful_onGrant ..)) fun _ => reserved
  · exact .refl s

theorem orderly_inletResult (r : ChanResult) (s : State) : Orderly s (inletResult r s) := by
  unfold inletResult
  refine (orderly_giveNotices ..).after ((OrderlyBut.of_line (line_fltIncrement ..)).after
    ((orderly_lkgIncrement lawful_onGrant ..).after (.of_line ?_)))
  rw [line_chargeStage, line_hardnessStage, line_allowanceStage, line_volumeStage]

theorem orderly_toInlet (ch : Fin 8) (m : ChannelMode) (r : ChanResult) (s : State) : Orderly s (toInlet ch m r s) :=
  .due fun _ => orderly_inletResult r s

theorem orderly_publication (ch : Fin 8) (c : Channel) (r : ChanResult) (s : State) :
    Orderly s (publication ch c r s) := by
  have closed : Orderly s (raiseIf s.channels[ch].run.ready .channel (setChannel ch c s)) :=
    .of_line (line_raiseIf ..)
  have inlet := closed.trans (orderly_toInlet ch s.channels[ch].conf.mode r _)
  have brine := inlet.trans (.of_line (line_toBrine ch s.channels[ch].conf.mode r _))
  exact brine.trans (orderly_foldl (fun s i => .of_line (line_toTracker ch _ r s i)) _ _)

theorem orderly_channelResult (ch : Fin 8) (s : State) : Orderly s (channelResult ch s) :=
  .due fun _ => orderly_publication ..

theorem orderly_periodTimeout (ch : Fin 8) (s : State) : Orderly s (periodTimeout ch s) :=
  .due fun _ => orderly_publication ..

theorem orderly_windowAbandoned (ch : Fin 8) (s : State) : Orderly s (windowAbandoned ch s) :=
  .due fun _ => .of_line rfl

/-! ### The links -/

@[simp] theorem line_setTransmitter (p : OutPort) (x : Transmitter) (s : State) :
    (setTransmitter p x s).line = s.line := by cases p <;> rfl

@[simp] theorem line_startFrame (p : OutPort) (s : State) : (startFrame p s).line = s.line := by
  have offered : ∀ s : State, (offerByte s).line = s.line := fun s => by
    unfold offerByte
    split
    · rfl
    · unfold afterByte; repeat' split
      all_goals rfl
  cases p with
  | gtx => exact (offered _).trans (offered s)
  | ftx => rfl

@[simp] theorem line_triggerPort (p : OutPort) (s : State) : (triggerPort p s).line = s.line := by
  unfold triggerPort
  split <;> simp

@[simp] theorem line_emissionTrigger (s : State) : (emissionTrigger s).line = s.line := by simp [emissionTrigger]

theorem orderly_gatewayStaleEvent (s : State) : Orderly s (gatewayStaleEvent s) := .due fun _ => .of_line rfl

theorem orderly_fieldStaleEvent (s : State) : Orderly s (fieldStaleEvent s) := by
  refine .due fun _ => (OrderlyBut.of_line (line_emissionTrigger _)).after ((orderly_lkgStale lawful_onGrant _).after
    (orderly_held ?_))
  rw [line_of_offTracks (trkStale_offTracks _)]
  rfl

/-! ### The events still due -/

theorem orderly_event (f : State → State) (h : f ∈ events) (s : State) : Orderly s (f s) := by
  simp only [events, List.mem_append, List.mem_map, List.mem_cons, List.not_mem_nil, or_false] at h
  casesm* _ ∨ _ <;> (try obtain ⟨a, -, rfl⟩ := ‹∃ _, _›) <;> (try subst f)
  · exact orderly_periodTimeout ..
  · exact orderly_channelResult ..
  · exact orderly_windowAbandoned ..
  · exact orderly_fieldStaleEvent s
  · exact orderly_gatewayStaleEvent s
  · exact orderly_arrivalEvent ..
  · exact orderly_stallEvent ..
  · exact orderly_adoptionEvent ..
  · exact orderly_timeoutEvent ..
  · exact orderly_pauseEvent ..
  · exact orderly_displacementEvent ..
  · exact orderly_drainRegrant lawful_onGrant s
  · exact orderly_regenStepEndEvent s
  · exact orderly_regenHoldEvent s
  · exact .due fun _ => .of_line (line_settle600 s)
  · exact orderly_bwStepEndEvent s
  · exact .due fun _ => orderly_bwAbandon lawful_onGrant s
  · exact .due fun _ => orderly_testWindow lawful_onGrant s
  · exact orderly_testSettleEvent s
  · exact orderly_testMeasureEvent s
  · exact .due fun _ => orderly_testCalendar lawful_onGrant s
  · exact .due fun _ => orderly_rgsCalendar lawful_onGrant s
  · exact .due fun _ => orderly_tripRule lawful_onGrant _ s
  · exact .due fun _ => .of_line (line_endDraw s)
  · exact .due fun _ => orderly_silentTaken lawful_onGrant _ s
  · exact .due fun _ => orderly_fieldLostTaken lawful_onGrant s
  · exact .due fun _ => orderly_latchedRetry lawful_onGrant s
  · exact .due fun _ => .of_line (line_markDue _ s)
  · exact .of_line (line_judgeDemand s)
  · exact .due fun _ => orderly_queueForDemand lawful_onGrant s

theorem orderly_settle (s : State) : Orderly s (settle s) :=
  takeAll_induction OrderlyBut.refl OrderlyBut.trans events orderly_event s

end Sys2Proof.Machine
end

section
/-! PROOFS. Every command keeps the laws of the shut supply, of the drain allowance and of the line's holder. -/

namespace Sys2Proof.Machine

variable {s t u : State}

/-! ### Frames and the request receiver -/

theorem orderly_linkFresh (s : State) : Orderly s (linkFresh s) := by
  unfold linkFresh
  split
  · exact .refl s
  · have back : Orderly s (raise .field { s with link := { s.link with fieldFresh := true } }) :=
      orderly_back rfl fun c => absurd c.2 ‹_›
    have tracked := back.trans (.of_line (line_of_offTracks (trkFresh_offTracks _)))
    exact ((tracked.trans (orderly_rgsResume lawful_onGrant _)).trans (orderly_fltResume lawful_onGrant _)).trans
      (.of_line (line_lkgFresh _))

theorem line_foldl {α : Type} {f : State → α → State} (hf : ∀ s a, (f s a).line = s.line) (l : List α) (s : State) :
    (l.foldl f s).line = s.line := by
  induction l generalizing s with
  | nil => rfl
  | cons a l ih => exact (ih _).trans (hf s a)

theorem line_mchFrame (outs : Vector LaneOut 32) (s : State) : (mchFrame outs s).line = s.line := rfl

theorem line_actsFrame (outs : Vector LaneOut 32) (s : State) : (actsFrame outs s).line = s.line := by
  refine line_foldl (fun s a => ?_) _ s
  unfold actFrame
  dsimp only
  split
  · exact line_setAct ..
  · rfl

theorem orderly_moistureFrame (outs : Vector LaneOut 32) (s : State) : Orderly s (moistureFrame outs s) := by
  unfold moistureFrame
  split
  · exact orderly_moistureSample lawful_onGrant ..
  · exact .refl _

theorem orderly_lanesFrame (slots : Vector Byte 20) (s : State) : Orderly s (lanesFrame slots s) := by
  have lanes : Orderly s (lxFrame slots s) := .of_line ((line_raiseIf ..).trans (line_setLanes ..))
  have acts : Orderly s (actsFrame (laneOuts s.lanes slots) (mchFrame (laneOuts s.lanes slots) (lxFrame slots s))) :=
    (OrderlyBut.of_line (line_actsFrame ..)).after ((OrderlyBut.of_line (line_mchFrame ..)).after lanes)
  exact acts.trans (orderly_moistureFrame _ _)

theorem orderly_fieldFrame (slots : Vector Byte 20) (s : State) : Orderly s (fieldFrame slots s) := by
  rw [fieldFrame_eq]
  have counted : Orderly s (frameCounted s) := .of_line rfl
  have kept := (counted.trans (orderly_linkFresh _)).trans (.of_line (t := frameKept slots _) rfl)
  exact (kept.trans (orderly_lanesFrame slots _)).trans (.of_line (line_emissionTrigger _))

/-! ### Requests -/

/-- What a handler does keeps the laws. -/
def Handler.Orderly (h : Handler) : Prop := ∀ s, Machine.Orderly s (h s).1

theorem orderly_answer {h : Handler} (hs : h.Orderly) (tag : Byte) (s : State) : Orderly s (answer tag h s) := by
  rcases answer_cases tag h s with ⟨-, e⟩ | ⟨-, -, e⟩ | ⟨-, -, e⟩ <;> rw [e]
  · exact .refl s
  · exact .of_line rfl
  · exact (hs s).trans (.of_line rfl)

theorem Handler.Orderly.checked {check : Option Status} {f : State → State} (h : Machine.Orderly s (f s)) :
    Machine.Orderly s (checked check f s).1 := by
  cases check with
  | none => exact h
  | some st => exact .refl s

/-- A write beside the line. -/
theorem orderly_checked {check : Option Status} {f : State → State} (h : (f s).line = s.line) :
    Orderly s (checked check f s).1 := Handler.Orderly.checked (.of_line h)

theorem line_actsLaneReset (hit : Nat → Bool) (s : State) : (actsLaneReset hit s).line = s.line :=
  line_foldl (fun s a => line_setAct a _ s) _ s

theorem line_mchLaneReset (hit : Nat → Bool) (s : State) : (mchLaneReset hit s).line = s.line := rfl

theorem line_storeLane (i : Nat) (d : LaneDesc) (s : State) : (storeLane i d s).line = s.line :=
  ((line_actsLaneReset ..).trans (line_mchLaneReset ..)).trans (line_setLanes ..)

theorem line_moveTracker (i : Fin 7) (r : TrackerRun) (s : State) : (moveTracker i r s).line = s.line :=
  line_of_offTracks (offTracks_moveTracker i r s)

theorem line_storeChannel (i : Nat) (c : ChannelRec) (s : State) : (storeChannel i c s).line = s.line := by
  unfold storeChannel
  split
  · refine (line_foldl (fun s j => ?_) _ _).trans rfl
    split
    · unfold rebindAfterChannel
      split
      · split <;> simp [line_moveTracker]
      · split <;> simp [line_moveTracker]
    · rfl
  · rfl

theorem line_storeTracker (i : Nat) (c : TrackerRec) (s : State) : (storeTracker i c s).line = s.line := by
  unfold storeTracker
  split
  · exact line_moveTracker ..
  · rfl

theorem line_writeSoftener (c : Softener) (s : State) : (writeSoftener c s).line = s.line := by
  have stored : (storeSoftener c s).line = s.line := rfl
  unfold writeSoftener rebindAfterK
  split
  · split
    · exact (line_moveTracker ..).trans stored
    · exact stored
  · exact stored

theorem line_acknowledge (object i : Nat) (s : State) : (acknowledge object i s).line = s.line := by
  unfold acknowledge
  split
  · split <;> rfl
  · split <;> rfl
  · split
    · exact line_setRun ..
    · rfl
  · rfl
  · rfl
  · rfl

theorem orderly_writeLane (i : Nat) (c : Option LaneDesc) : (writeLane i c).Orderly := fun s =>
  orderly_checked (by
    cases c with
    | some x => exact line_storeLane i x s
    | none => rfl)

theorem orderly_writeChannel (i : Nat) (c : Option ChannelRec) : (writeChannel i c).Orderly := fun s =>
  orderly_checked (by
    cases c with
    | some x => exact line_storeChannel i x s
    | none => rfl)

theorem orderly_writeTracker (i : Nat) (c : Option TrackerRec) : (writeTracker i c).Orderly := fun s =>
  orderly_checked (by
    cases c with
    | some x => exact line_storeTracker i x s
    | none => rfl)

theorem orderly_writeSoftenerEntry (i : Nat) (c : Option Softener) : (writeSoftenerEntry i c).Orderly := fun s =>
  orderly_checked (by
    cases c with
    | some x => exact line_writeSoftener x s
    | none => rfl)

theorem orderly_writeReportField (i : Nat) (c : Option ReportField) : (writeReportField i c).Orderly := fun s =>
  orderly_checked (by
    cases c with
    | some x => dsimp only [storeReportField]; split <;> rfl
    | none => rfl)

theorem orderly_writePlain (i : Nat) (c : PlainContents) : (writePlain i c).Orderly := fun s => by
  cases c with
  | reportConst b => exact orderly_checked (by unfold storeConst; split <;> rfl)
  | driveMask b => exact orderly_checked (by unfold storeMask; split <;> rfl)
  | regenStep r =>
    refine orderly_checked ?_
    cases r with
    | some x => dsimp only [storeRegenStep]; split <;> rfl
    | none => rfl
  | backwashStep r =>
    refine orderly_checked ?_
    cases r with
    | some x => dsimp only [storeBackwashStep]; split <;> rfl
    | none => rfl
  | zoneWindow r =>
    refine orderly_checked ?_
    cases r with
    | some x => dsimp only [storeZoneWindow]; split <;> rfl
    | none => rfl
  | leakConfig r =>
    refine orderly_checked ?_
    cases r with
    | some x => rfl
    | none => rfl
  | unusable n => exact .refl s

theorem orderly_readResult (ch mode : Nat) : (readResult ch mode).Orderly := fun s => by
  unfold readResult
  split
  · split
    · exact .refl s
    · exact .due fun _ => .of_line rfl
  · exact .refl s

theorem orderly_readState (object i part mode : Nat) : (readState object i part mode).Orderly := fun s => by
  unfold readState
  split
  · exact .refl s
  · exact .due fun _ => .of_line (line_acknowledge object i s)

theorem orderly_writeTankEntry (i : Nat) (c : TankContents) : (writeTankEntry i c).Orderly := fun s => by
  unfold writeTankEntry
  split
  · exact orderly_checked (line_writeTank ..)
  · exact .refl s

theorem orderly_writeStageEntry (i : Nat) (c : Option StageContents) : (writeStageEntry i c).Orderly := fun s => by
  unfold writeStageEntry
  split
  · split
    · exact orderly_checked (line_writeStage ..)
    · exact .refl s
  · exact .refl s

theorem orderly_writeLeakRuleEntry (i : Nat) (c : Option LeakRule) : (writeLeakRuleEntry i c).Orderly := fun s => by
  unfold writeLeakRuleEntry
  split
  · split
    · exact orderly_checked (line_writeRule ..)
    · exact .refl s
  · exact .refl s

theorem orderly_writeActuatorEntry (i : Nat) (c : Option ActuatorRec) : (writeActuatorEntry i c).Orderly := fun s => by
  unfold writeActuatorEntry
  split
  · split
    · exact .refl s
    · split
      · exact Handler.Orderly.checked ((orderly_notifyReset ..).after (.of_line (line_setAct ..)))
      · exact .refl s
  · exact .refl s

/-! ### Commands (R171) -/

theorem orderly_openMainCmd : openMainCmd.Orderly := fun s => by
  unfold openMainCmd
  split
  · exact .refl s
  · split
    · exact .refl s
    · split
      · exact .refl s
      · exact orderly_openMainAsk lawful_onGrant s

theorem orderly_startRegenCmd (x : Nat) : (startRegenCmd x).Orderly := fun s => by
  unfold startRegenCmd
  split
  · exact .refl s
  · split
    · exact .refl s
    · exact orderly_rgsQueue lawful_onGrant ..

theorem orderly_cancelRegenCmd : cancelRegenCmd.Orderly := fun s => by
  unfold cancelRegenCmd
  split
  · exact .refl s
  · exact .refl s
  · exact orderly_cancelQueued lawful_onGrant s
  · rename_i idle parking queued
    refine orderly_cancelRun lawful_onGrant ?_
    show s.rgs.seq = .positioning ∨ s.rgs.seq = .running ∨ s.rgs.seq = .held
    cases h : s.rgs.seq with
    | idle => exact absurd h idle
    | queued => exact absurd h queued
    | positioning => exact .inl rfl
    | running => exact .inr (.inl rfl)
    | held => exact .inr (.inr rfl)
    | parking => exact absurd h parking

theorem orderly_bypassOnCmd : bypassOnCmd.Orderly := fun s => by
  unfold bypassOnCmd
  split
  · exact .refl s
  · split
    · exact .refl s
    · exact orderly_bypassOnTaken lawful_onGrant s

theorem orderly_bypassOffCmd : bypassOffCmd.Orderly := fun s => by
  unfold bypassOffCmd
  split
  · exact .refl s
  · split
    · exact .refl s
    · split
      · exact orderly_bypassOffTaken lawful_onGrant _ s
      · exact .refl s

theorem orderly_startBackwashCmd : startBackwashCmd.Orderly := fun s => by
  unfold startBackwashCmd
  split
  · exact .refl s
  · split
    · exact .refl s
    · split
      · exact .refl s
      · exact orderly_fltQueue lawful_onGrant ..

theorem orderly_startTestCmd : startTestCmd.Orderly := fun s => by
  unfold startTestCmd
  split
  · exact .refl s
  · split
    · exact .refl s
    · exact orderly_testStart lawful_onGrant ..

theorem orderly_filterReplacedCmd (stage : Nat) : (filterReplacedCmd stage).Orderly := fun s => by
  unfold filterReplacedCmd
  split
  · exact orderly_checked (line_filterReplacedTaken ..)
  · exact .refl s

theorem orderly_clearFaultCmd (arg : Nat) : (clearFaultCmd arg).Orderly := fun s => by
  unfold clearFaultCmd
  split
  · split
    · exact .of_line (line_setRun ..)
    · exact .refl s
  · split
    · exact .of_line rfl
    · exact .refl s

theorem orderly_handlerOf {c : Instr} {tag : Byte} {h : Handler} (e : handlerOf c = some (tag, h)) : h.Orderly := by
  cases c <;> simp only [handlerOf, Option.some.injEq, Prod.mk.injEq, reduceCtorEq] at e <;> obtain ⟨-, rfl⟩ := e
  case readEntry => exact fun s => by unfold readEntry; split <;> exact .refl s
  case writeEntry => exact orderly_writePlain _ _
  case writeEntryLane => exact orderly_writeLane _ _
  case writeEntryReportField => exact orderly_writeReportField _ _
  case writeEntryChannel => exact orderly_writeChannel _ _
  case writeEntryPreset => exact fun s => orderly_checked (by unfold storePreset; split <;> rfl)
  case writeEntryTracker => exact orderly_writeTracker _ _
  case writeEntryCurve id _ _ => exact fun s => orderly_checked (by cases id <;> rfl)
  case writeEntrySoftener => exact orderly_writeSoftenerEntry _ _
  case writeEntryTank => exact orderly_writeTankEntry _ _
  case writeEntrySalt => exact fun s => orderly_checked (line_writeSalt ..)
  case writeEntryStage => exact orderly_writeStageEntry _ _
  case writeEntryLeakRule => exact orderly_writeLeakRuleEntry _ _
  case writeEntryActuator => exact orderly_writeActuatorEntry _ _
  case readResult => exact orderly_readResult _ _
  case readState => exact orderly_readState _ _ _ _
  case readStateLane => exact orderly_readState _ _ _ _
  case readStateTracker => exact orderly_readState _ _ _ _
  case readStateActuator => exact orderly_readState _ _ _ _
  case readStateTank => exact orderly_readState _ _ _ _
  case readStateLeakGuard => exact orderly_readState _ _ _ _
  case ackChanges => exact fun s => .of_line rfl
  case openMain => exact orderly_openMainCmd
  case closeMain => exact fun s => orderly_closeMainTaken lawful_onGrant s
  case clearLeakLatch => exact fun s => .due fun _ => .of_line (line_clearLatch s)
  case startRegen => exact orderly_startRegenCmd _
  case cancelRegen => exact orderly_cancelRegenCmd
  case bypassOn => exact orderly_bypassOnCmd
  case bypassOff => exact orderly_bypassOffCmd
  case startBackwash => exact orderly_startBackwashCmd
  case startLeakTest => exact orderly_startTestCmd
  case abortLeakTest => exact fun s => orderly_abortTest lawful_onGrant s
  case saltRefilled => exact fun s => orderly_checked (line_saltRefilled ..)
  case filterReplaced => exact orderly_filterReplacedCmd _
  case clearFault => exact orderly_clearFaultCmd _
  case clearFaultRecord => exact fun s => .of_line rfl
  case clearSlip => exact fun s => .of_line rfl
  case setTime => exact fun s => orderly_checked rfl
  case restart => exact fun s => .of_line rfl

theorem orderly_runRequest (c : Instr) (s : State) : Orderly s (runRequest c s) := by
  unfold runRequest
  split
  · exact orderly_answer (orderly_handlerOf ‹_›) _ s
  · exact .refl s

/-! ### Messages -/

theorem orderly_closeMessage (bytes : List Byte) (n : Nat) (s : State) : Orderly s (closeMessage bytes n s) := by
  unfold closeMessage runMessage
  split
  · exact .refl s
  · dsimp only
    split
    · split
      · exact orderly_runRequest ..
      · exact orderly_answer (fun s => .refl s) _ s
    · exact .refl s

theorem orderly_receiveByte (b : Byte) (s : State) : Orderly s (receiveByte b s) := by
  have received : Orderly s (setReceiver (receiverStep b s.mgu.rx).1 s) := .of_line rfl
  exact .ite (fun _ => received.trans (orderly_closeMessage ..)) fun _ => received

theorem orderly_controlFrame (drive : Vector Byte 6) (first second : Byte) (s : State) :
    Orderly s (controlFrame drive first second s) := by
  have stored : Orderly s { s with link := { s.link with gwMissing := 0, gwSeen := true, driveBytes := drive } } :=
    .of_line rfl
  exact ((stored.trans (orderly_receiveByte first _)).trans (orderly_receiveByte second _)).trans (.of_line rfl)

theorem orderly_runTaken (p : Port) (bytes : List Byte) (framing : Bool) (s : State) :
    Orderly s (runTaken p bytes framing s) := by
  refine .due fun _ => ?_
  cases p with
  | frx => exact (orderly_settle s).trans (orderly_fieldFrame ..)
  | grx => exact orderly_controlFrame ..

/-! ### The frame timer and the internal second -/

theorem line_timerField (s : State) : (timerField s).line = s.line := by
  have missing : (missingFrame s).line = s.line := line_raiseIf ..
  unfold timerField
  split
  · rfl
  · exact missing

theorem orderly_frameTimer (s : State) : Orderly s (frameTimer s) := by
  have timers : Orderly s (timerGateway (timerField s)) := .of_line (line_timerField s)
  exact .ite (fun _ => timers) fun _ => timers.trans (.of_line (line_emissionTrigger _))

theorem line_countersSecond (s : State) : (countersSecond s).line = s.line := by
  have acts : (actsSecond s).line = s.line := line_foldl (fun s a => line_setRun a _ s) _ s
  have salt : ∀ s : State, (saltSecond s).line = s.line := fun s => rfl
  rw [countersSecond, line_fltSecond, line_stagesSecond, salt, line_rgsSecond, line_tanksSecond, acts]

theorem orderly_guardSecond (s : State) : Orderly s (guardSecond s) := by
  have zones : Orderly s (zonesSecond (rulesSecond s)) := .of_line (line_zonesSecond _)
  have judged := zones.trans (orderly_judgeZoneRules lawful_onGrant _)
  exact (judged.trans (.of_line (by rw [line_lossSecond, line_drawSecond]))).trans (orderly_testSecond lawful_onGrant _)

theorem orderly_secondPassed (s : State) : Orderly s (secondPassed s) := by
  have calendar : Orderly s (calendarSecond (nextSecond s)) := by
    refine (OrderlyBut.of_line ?_).after (.of_line (t := nextSecond s) rfl)
    unfold calendarSecond
    split <;> rfl
  have counted := calendar.trans (.of_line (line_countersSecond _))
  exact (counted.trans (orderly_guardSecond _)).trans (.of_line (by rw [secondPassed, line_queueSecond, line_retrySecond]))

/-! ### The restarts and the end of a frame -/

/-- Nothing in progress and the drain line at rest. -/
theorem orderly_rest (seq : t.line.seq = .idle) (flt : t.line.flt = .idle) (test : t.line.test = .idle)
    (drain : t.line.drain = Drain.reset) : Orderly s t := by
  refine ⟨fun _ => ?_, fun _ => ?_, fun r _ _ n => ?_⟩
  · rw [supplyLaw_line, seq, flt]
    rintro (c | c) <;> cases c
  · rw [drainLaw_line, drain]
    exact ⟨nofun, fun _ => rfl, nofun⟩
  · cases r with
    | regen => simp [Line.needs, regenNeeds, seq] at n
    | backwash => simp [Line.needs, backwashNeeds, flt] at n
    | test => simp [Line.needs, testNeeds, test] at n

theorem line_rgsRestart (s : State) : (rgsRestart s).line = { s.line with seq := .idle, tank := none } := by
  have run : (rgsRestartRun s).line = s.line := by
    unfold rgsRestartRun
    split
    · exact line_keepTank ..
    · split
      · exact (line_exhaustTank ..).trans (line_closeDraw ..)
      · rfl
  exact (line_raiseIf ..).trans (congrArg (fun l : Line => { l with seq := .idle, tank := none }) run)

theorem line_fltRestart (s : State) : (fltRestart s).line = { s.line with flt := .idle, decided := false } := by
  have run : (fltRestartRun s).line = s.line := by
    unfold fltRestartRun
    split <;> rfl
  exact (line_raiseIf ..).trans (congrArg (fun l : Line => { l with flt := .idle, decided := false }) run)

theorem line_setRules (s : State) (e : Option DrawEvent) (rules : Vector Rule 16) :
    ({ s with lkg := { s.lkg with event := e, drawDue := false, retryDue := false, rules := rules } } : State).line
      = s.line := rfl

theorem line_lkgRestart (s : State) : (lkgRestart s).line = { s.line with main := .unknown, test := .idle } := by
  have test : (testRestart (setMain .unknown s)).line = { s.line with main := .unknown, test := .idle } := by
    unfold testRestart
    split
    · rename_i h
      rw [line_setMain]
      simp only [setMain_lkg] at h
      simp only [State.line, h]
    · rw [line_testIdle, line_setResult, line_setMain]
  exact (line_setRules ..).trans ((line_zonesReported _).trans test)

theorem line_drainRestart (s : State) : (drainRestart s).line = { s.line with drain := Drain.reset } := rfl

theorem line_sltRestart (s : State) : (sltRestart s).line = s.line := by
  unfold sltRestart
  rw [line_judgeSalt]
  split <;> rfl

theorem line_accRestart (s : State) : (accRestart s).line = s.line := rfl

theorem line_mguRestart (s : State) : (mguRestart s).line = s.line := rfl

theorem orderly_warmRestart (s : State) : Orderly s (warmRestart s) := by
  have line := fun u : State => (line_mguRestart (lkgRestart (drainRestart (fltRestart (sltRestart (accRestart
    (rgsRestart u))))))).trans (by
      rw [line_lkgRestart, line_drainRestart, line_fltRestart, line_sltRestart, line_accRestart, line_rgsRestart])
  unfold warmRestart
  exact orderly_rest (by rw [line]) (by rw [line]) (by rw [line]) (by rw [line])

theorem orderly_powerOn (s : State) : Orderly s (powerOn s) := by
  have line : (powerOn s).line = State.reset.line := rfl
  exact orderly_rest (by rw [line]; rfl) (by rw [line]; rfl) (by rw [line]; rfl) (by rw [line]; rfl)

theorem orderly_frameEnd (p : OutPort) (s : State) : Orderly s (frameEnd p s) := by
  have ended : ∀ u : State, Orderly u (afterFrame p u) := fun u =>
    .ite (fun _ => .of_line (line_startFrame p u)) fun _ => .of_line (line_setTransmitter ..)
  refine .due fun _ => (ended _).after ?_
  exact .due fun _ => orderly_warmRestart s

/-! ### Every command -/

theorem orderly_exec (c : Instr) (h : exec c s = .next t) : Orderly s t := by
  rcases hc : handlerOf c with _ | p
  · have event : ∀ {u}, exec c s = .next u → Orderly s u → Orderly s t := fun e k => by
      rw [e] at h; cases h; exact k
    cases c <;> simp only [handlerOf, reduceCtorEq] at hc
    case powerOnReset => exact event rfl (orderly_powerOn s)
    case goodFieldFrame slots => exact event rfl ((orderly_settle s).trans (orderly_fieldFrame slots _))
    case discardedRun p bytes framing => exact event rfl (orderly_runTaken p bytes framing s)
    case goodControlFrame drive a b => exact event rfl (orderly_controlFrame drive a b s)
    case frameTimerExpiry => exact event rfl ((orderly_settle s).trans (orderly_frameTimer _))
    case fieldLinkStale => exact event rfl (orderly_fieldStaleEvent s)
    case gatewayStale => exact event rfl (orderly_gatewayStaleEvent s)
    case transmitterFrameEnd p => exact event rfl (orderly_frameEnd p s)
    case channelResult ch => exact event rfl (orderly_channelResult ch s)
    case periodTimeout ch => exact event rfl (orderly_periodTimeout ch s)
    case windowAbandoned ch => exact event rfl (orderly_windowAbandoned ch s)
    case arrival a => exact event rfl (orderly_arrivalEvent a s)
    case travelTimeout a => exact event rfl (orderly_timeoutEvent a s)
    case pauseExpiry a => exact event rfl (orderly_pauseEvent a s)
    case stall a => exact event rfl (orderly_stallEvent a s)
    case displacement a => exact event rfl (orderly_displacementEvent a s)
    case adoption a => exact event rfl (orderly_adoptionEvent a s)
    case drainGrant => exact event rfl (orderly_drainRegrant lawful_onGrant s)
    case calendarRegenTrigger => exact event rfl (.due fun _ => orderly_rgsCalendar lawful_onGrant s)
    case regenStepEnd => exact event rfl (orderly_regenStepEndEvent s)
    case settlingExpiry => exact event rfl (.due fun _ => .of_line (line_settle600 s))
    case regenHoldLimit => exact event rfl (orderly_regenHoldEvent s)
    case internalSecond => exact event rfl ((orderly_settle s).trans (orderly_secondPassed _))
    case stageDue i => exact event rfl (.due fun _ => .of_line (line_markDue i s))
    case backwashDemand => exact event rfl (.of_line (line_judgeDemand s))
    case backwashQueue => exact event rfl (.due fun _ => orderly_queueForDemand lawful_onGrant s)
    case backwashStepEnd => exact event rfl (orderly_bwStepEndEvent s)
    case backwashHoldLimit => exact event rfl (.due fun _ => orderly_bwAbandon lawful_onGrant s)
    case ruleTimerTrip i => exact event rfl (.due fun _ => orderly_tripRule lawful_onGrant i s)
    case drawEventEnd => exact event rfl (.due fun _ => .of_line (line_endDraw s))
    case zoneSilent z => exact event rfl (.due fun _ => orderly_silentTaken lawful_onGrant z s)
    case fieldLost => exact event rfl (.due fun _ => orderly_fieldLostTaken lawful_onGrant s)
    case latchedCloseRetry => exact event rfl (.due fun _ => orderly_latchedRetry lawful_onGrant s)
    case testCalendarTrigger => exact event rfl (.due fun _ => orderly_testCalendar lawful_onGrant s)
    case testWindowExpiry => exact event rfl (.due fun _ => orderly_testWindow lawful_onGrant s)
    case testSettleExpiry => exact event rfl (orderly_testSettleEvent s)
    case testMeasureExpiry => exact event rfl (orderly_testMeasureEvent s)
  · rw [exec_request hc] at h
    cases h
    exact orderly_runRequest c s

end Sys2Proof.Machine

namespace Sys2Proof.Proofs
open Sys2Proof Sys2Proof.Machine

/-- Settles O58: every event and every request is one of the changes that keep the laws of the line, each requester's part
of the holder's law for itself. -/
theorem everyCommandKeepsTheShutSupplyAndTheDrainLaws : Obligations.EveryCommandKeepsTheShutSupplyAndTheDrainLaws := by
  unfold Obligations.EveryCommandKeepsTheShutSupplyAndTheDrainLaws
  intro c s t h
  obtain ⟨supply, drain, holds⟩ := orderly_exec c h
  refine ⟨supply, drain, fun holder => ?_⟩
  rw [holderLaw_iff] at holder ⊢
  exact fun r => holds r id (holder r)

end Sys2Proof.Proofs
end

section
/-! PROOFS. The answers to a move request, the first enabled step, and the runs they move. -/

namespace Sys2Proof.Machine

variable {s : State} {k : Grant}

/-! ### A move request that starts a move (R63) -/

theorem target_actRequest {a : Actr} {p : Pos} (h : s.answer a p = .moving) :
    ((actRequest a p s).act a).run.target = some p := by
  rw [act_actRequest, if_pos rfl]
  unfold State.answer at h
  rcases requestRun_cases (s.act a).conf p (s.act a).run with
    ⟨-, e⟩ | ⟨-, -, e⟩ | ⟨-, -, e⟩ | ⟨-, target, e⟩ | ⟨-, -, e⟩ | ⟨-, -, e⟩ <;> rw [e] at h ⊢
  · cases h
  · cases h
  · cases h
  · exact target
  · cases h
  · rfl

theorem rgsRotorAsk_moving {p : Pos} (h : s.answer .regenRotor p = .moving) :
    rgsRotorAsk k p s = actRequest .regenRotor p s := by simp only [rgsRotorAsk, h]

theorem bwRotorAsk_moving {p : Pos} (h : s.answer .filterRotor p = .moving) :
    bwRotorAsk k p s = actRequest .filterRotor p s := by simp only [bwRotorAsk, h]

theorem closeMainFor_moving {r : CloseReason} (h : s.answer .main .mainClosed = .moving) :
    closeMainFor k r s = setMainShut (.closing r) (actRequest .main .mainClosed s) := by simp only [closeMainFor, h]

theorem openMainAsk_moving (h : s.answer .main .mainOpen = .moving) :
    openMainAsk k s = setMainShut .opening (actRequest .main .mainOpen s) := by simp only [openMainAsk, h]

/-! ### The first enabled step (R108, R110, R141, R142) -/

theorem firstStep_some {p : Vector RegenStep 8} {lo : Nat} {i : Fin 8} (hl : lo ≤ i.val) (hi : p[i].enabled = true)
    (h : ∀ j : Fin 8, lo ≤ j.val → j < i → p[j].enabled = false) : firstStep p lo = some i :=
  find_finRange_some (by simpa [hl] using hi) fun j hj => by
    by_cases c : lo ≤ j.val <;> simp [c]
    exact h j c hj

theorem firstStep_none {p : Vector RegenStep 8} {lo : Nat} (h : ∀ j : Fin 8, lo ≤ j.val → p[j].enabled = false) :
    firstStep p lo = none :=
  find_finRange_none fun j => by
    by_cases c : lo ≤ j.val <;> simp [c]
    exact h j c

theorem firstStep_isSome {p : Vector RegenStep 8} {i : Fin 8} (hi : p[i].enabled = true) :
    (firstStep p 0).isSome = true := by
  rw [firstStep, List.find?_isSome]
  exact ⟨i, List.mem_finRange i, by simpa using hi⟩

theorem firstBwStep_some {p : Vector BackwashStep 4} {lo : Nat} {i : Fin 4} (hl : lo ≤ i.val)
    (hi : p[i].enabled = true) (h : ∀ j : Fin 4, lo ≤ j.val → j < i → p[j].enabled = false) :
    firstBwStep p lo = some i :=
  find_finRange_some (by simpa [hl] using hi) fun j hj => by
    by_cases c : lo ≤ j.val <;> simp [c]
    exact h j c hj

theorem firstBwStep_none {p : Vector BackwashStep 4} {lo : Nat} (h : ∀ j : Fin 4, lo ≤ j.val → p[j].enabled = false) :
    firstBwStep p lo = none :=
  find_finRange_none fun j => by
    by_cases c : lo ≤ j.val <;> simp [c]
    exact h j c

/-! ### A step taken, PARKING entered, the rotor asked -/

/-- A regeneration step taken from its start. -/
def RegenRun.atStep (i : Fin 8) (r : RegenRun) : RegenRun :=
  { r with step := some i, elapsed := 0, brine := 0, fromStart := true }

theorem supplied_of_mainOpen (hm : s.lkg.main = .opened) (hf : s.link.fieldFresh = true) : s.supplied = true :=
  (supplied_line s).2 ⟨hm, hf⟩

theorem takeStep_moving {i : Fin 8} (hs : s.supplied = true)
    (h : s.answer .regenRotor (regenPos s.rgs.snapshot[i].pos) = .moving) :
    takeStep k i s = actRequest .regenRotor (regenPos s.rgs.snapshot[i].pos)
      (setSeq .positioning (setRegenRun (s.rgs.run.atStep i) s)) := by
  unfold takeStep enterPositioning
  exact (if_pos hs).trans (rgsRotorAsk_moving h)

theorem takeBwStep_moving {i : Fin 4} (hs : s.supplied = true)
    (h : s.answer .filterRotor (backwashPos s.flt.snapshot[i].pos) = .moving) :
    takeBwStep k i s = actRequest .filterRotor (backwashPos s.flt.snapshot[i].pos)
      (setFlt .positioning (setBwRun { s.flt.run with step := some i, elapsed := 0 } s)) := by
  unfold takeBwStep enterBwPositioning
  exact (if_pos hs).trans (bwRotorAsk_moving h)

theorem startParking_moving (h : s.answer .regenRotor .service = .moving) :
    startParking k s = actRequest .regenRotor .service (setSeq .parking (setRegenRun { s.rgs.run with step := none } s)) :=
  rgsRotorAsk_moving h

theorem startBwParking_moving {decided : Bool} (h : s.answer .filterRotor .service = .moving) :
    startBwParking k decided s = actRequest .filterRotor .service
      (setFlt .parking (setBwRun { s.flt.run with step := none, decided := decided } s)) :=
  bwRotorAsk_moving h

end Sys2Proof.Machine
end

section
/-! PROOFS. The runs held, with the main that shuts. -/

namespace Sys2Proof.Machine

variable {s : State}

/-! ### A step stopped (R77) -/

theorem setAllowance_eq (n : Nat) (q : Option Requester) (s : State) : setAllowance n q s =
    { s with drain := (setAllowance n q s).drain, acc := (setAllowance n q s).acc } := by
  unfold setAllowance
  split <;> rfl

theorem setAllowance_acc_phase (n : Nat) (q : Option Requester) (s : State) :
    (setAllowance n q s).acc.phase = s.acc.phase := by
  unfold setAllowance
  split <;> rfl

theorem allowanceReport_eq (r : Requester) (a : Option Nat) (s : State) : allowanceReport r a s =
    { s with drain := (allowanceReport r a s).drain, acc := (allowanceReport r a s).acc } := by
  unfold allowanceReport
  split
  · split <;> exact setAllowance_eq ..
  · rfl

theorem allowanceReport_acc_phase (r : Requester) (a : Option Nat) (s : State) :
    (allowanceReport r a s).acc.phase = s.acc.phase := by
  unfold allowanceReport
  split
  · split <;> exact setAllowance_acc_phase ..
  · rfl

/-- The allowance after its holder's report (R77). -/
theorem allowanceReport_drain (r : Requester) (a : Option Nat) (s : State) : (allowanceReport r a s).drain =
    if s.drain.holder = some r then { s.drain with allowance := a.getD 0, kind := a.map fun _ => r } else s.drain := by
  unfold allowanceReport
  split
  · cases a <;> exact setAllowance_drain ..
  · rfl

/-- A report leaves the holder and the waiting list. -/
theorem allowanceReport_drain_eq (r : Requester) (a : Option Nat) (s : State) : (allowanceReport r a s).drain =
    { s.drain with
      allowance := (allowanceReport r a s).drain.allowance, kind := (allowanceReport r a s).drain.kind } := by
  rw [allowanceReport_drain]
  split <;> rfl

theorem stopStep_eq (s : State) : stopStep s = { s with drain := (stopStep s).drain, acc := (stopStep s).acc } := by
  unfold stopStep
  split
  · dsimp only; rw [allowanceReport_eq]
  · rfl

theorem stopStep_drain (s : State) : (stopStep s).drain =
    if s.rgs.seq = .running then (allowanceReport .regen none s).drain else s.drain := by
  unfold stopStep
  split <;> rfl

theorem stopStep_running (h : s.rgs.seq = .running) : (stopStep s).acc.phase = .none
    ∧ (s.drain.holder = some .regen → (stopStep s).drain.allowance = 0 ∧ (stopStep s).drain.kind = none) := by
  refine ⟨?_, fun hh => ?_⟩
  · rw [stopStep, if_pos h]
  · rw [stopStep_drain, if_pos h, allowanceReport_drain, if_pos hh]
    exact ⟨rfl, rfl⟩

theorem stopStep_drain_eq (s : State) : (stopStep s).drain =
    { s.drain with allowance := (stopStep s).drain.allowance, kind := (stopStep s).drain.kind } := by
  rw [stopStep_drain]
  split
  · exact allowanceReport_drain_eq ..
  · rfl

theorem stopBwStep_eq (s : State) : stopBwStep s =
    { s with drain := (stopBwStep s).drain, acc := (stopBwStep s).acc } := by
  unfold stopBwStep
  split
  · exact allowanceReport_eq ..
  · rfl

theorem stopBwStep_running (h : s.flt.st = .running) (hh : s.drain.holder = some .backwash) :
    (stopBwStep s).drain.allowance = 0 ∧ (stopBwStep s).drain.kind = none := by
  rw [stopBwStep, if_pos h, allowanceReport_drain, if_pos hh]
  exact ⟨rfl, rfl⟩

theorem stopBwStep_acc_phase (s : State) : (stopBwStep s).acc.phase = s.acc.phase := by
  unfold stopBwStep
  split
  · exact allowanceReport_acc_phase ..
  · rfl

theorem stopBwStep_drain_eq (s : State) : (stopBwStep s).drain =
    { s.drain with allowance := (stopBwStep s).drain.allowance, kind := (stopBwStep s).drain.kind } := by
  unfold stopBwStep
  split
  · exact allowanceReport_drain_eq ..
  · rfl

/-! ### The runs held (R112, R143) -/

/-- RGS after a hold: a run in POSITIONING or RUNNING is HELD, with its phase as the interrupted one. -/
def Rgs.held (g : Rgs) : Rgs :=
  if g.seq = .positioning ∨ g.seq = .running then
    { g with seq := .held, holdDue := false, run := { g.run with hold := 0, interrupted := some g.seq } }
  else g

/-- FLT after a hold. -/
def Flt.held (f : Flt) : Flt :=
  if f.st = .positioning ∨ f.st = .running then
    { f with st := .held, holdDue := false, run := { f.run with hold := 0, interrupted := some f.st } }
  else f

theorem stopStep_idle (h : s.rgs.seq ≠ .running) : stopStep s = s := by rw [stopStep, if_neg h]

theorem enterHeld_eq (h : s.rgs.seq = .positioning ∨ s.rgs.seq = .running) : enterHeld s.rgs.seq s =
    raise .regen { s with drain := (stopStep s).drain, acc := (stopStep s).acc, rgs := s.rgs.held } := by
  rw [enterHeld, stopStep_eq, Rgs.held, if_pos h]
  rfl

theorem rgsHold_eq (s : State) : rgsHold s = { s with
    drain := (stopStep s).drain, acc := (stopStep s).acc, rgs := s.rgs.held
    mgu := { s.mgu with changes := (rgsHold s).mgu.changes } } := by
  by_cases h : s.rgs.seq = .positioning ∨ s.rgs.seq = .running
  · have held : rgsHold s = enterHeld s.rgs.seq s := by
      rcases h with h | h <;> simp only [rgsHold, h]
    rw [held, enterHeld_eq h]
    rfl
  · obtain ⟨hp, hr⟩ := not_or.1 h
    have still : rgsHold s = s := by
      unfold rgsHold
      split
      · exact absurd ‹_› hp
      · exact absurd ‹_› hr
      · rfl
    rw [still, stopStep_idle hr, Rgs.held, if_neg h]

theorem flagSet_rgsHold (h : s.rgs.seq = .positioning ∨ s.rgs.seq = .running) : (rgsHold s).flagSet .regen := by
  have held : rgsHold s = enterHeld s.rgs.seq s := by
    rcases h with h | h <;> simp only [rgsHold, h]
  rw [held, enterHeld_eq h]
  exact flagSet_raise _ _

theorem stopBwStep_idle (h : s.flt.st ≠ .running) : stopBwStep s = s := by rw [stopBwStep, if_neg h]

theorem enterBwHeld_eq (h : s.flt.st = .positioning ∨ s.flt.st = .running) : enterBwHeld s.flt.st s =
    raise .filter { s with drain := (stopBwStep s).drain, acc := (stopBwStep s).acc, flt := s.flt.held } := by
  rw [enterBwHeld, stopBwStep_eq, Flt.held, if_pos h]
  rfl

theorem fltHold_eq (s : State) : fltHold s = { s with
    drain := (stopBwStep s).drain, acc := (stopBwStep s).acc, flt := s.flt.held
    mgu := { s.mgu with changes := (fltHold s).mgu.changes } } := by
  by_cases h : s.flt.st = .positioning ∨ s.flt.st = .running
  · have held : fltHold s = enterBwHeld s.flt.st s := by
      rcases h with h | h <;> simp only [fltHold, h]
    rw [held, enterBwHeld_eq h]
    rfl
  · obtain ⟨hp, hr⟩ := not_or.1 h
    have still : fltHold s = s := by
      unfold fltHold
      split
      · exact absurd ‹_› hp
      · exact absurd ‹_› hr
      · rfl
    rw [still, stopBwStep_idle hr, Flt.held, if_neg h]

theorem flagSet_fltHold (h : s.flt.st = .positioning ∨ s.flt.st = .running) : (fltHold s).flagSet .filter := by
  have held : fltHold s = enterBwHeld s.flt.st s := by
    rcases h with h | h <;> simp only [fltHold, h]
  rw [held, enterBwHeld_eq h]
  exact flagSet_raise _ _

/-- Both runs held. -/
def heldRuns (s : State) : State := fltHold (rgsHold s)

/-- The holder, the waiting list and all beside the runs and the account stand while the runs are held. -/
theorem heldRuns_eq (s : State) : heldRuns s = { s with
    drain := { s.drain with allowance := (heldRuns s).drain.allowance, kind := (heldRuns s).drain.kind }
    acc := (heldRuns s).acc, rgs := s.rgs.held, flt := s.flt.held
    mgu := { s.mgu with changes := (heldRuns s).mgu.changes } } := by
  have regen := rgsHold_eq s
  have drain : (heldRuns s).drain = { s.drain with
      allowance := (heldRuns s).drain.allowance, kind := (heldRuns s).drain.kind } := by
    rw [heldRuns, fltHold_eq, stopBwStep_drain_eq, congrArg State.drain regen, stopStep_drain_eq]
  rw [← drain, heldRuns, fltHold_eq, regen]

/-! ### The main that leaves OPEN, or was not OPEN (R147) -/

theorem setMainShut_opened {m : MainState} (h : s.lkg.main = .opened) :
    setMainShut m s = heldRuns (setMain m s) := if_pos h

theorem setMainShut_shut {m : MainState} (h : s.lkg.main ≠ .opened) : setMainShut m s = setMain m s := if_neg h

end Sys2Proof.Machine
end

section
/-! PROOFS. The grant of the drain line. -/

namespace Sys2Proof.Machine

variable {s : State} {k : Grant}

/-! ### The grant (R73) -/

/-- The state in which a requester is informed of its grant. -/
def State.granting (s : State) (r : Requester) : State :=
  { s with drain := { s.drain.setWait r false with holder := some r } }

theorem drainRegrant_idle (h : s.lkg.main ≠ .opened ∨ s.drain.holder ≠ none ∨ s.noneWaits) : drainRegrant k s = s := by
  unfold drainRegrant
  split
  · rename_i c
    obtain ⟨hm, hh⟩ := c
    rcases h with h | h | ⟨regen, backwash, test⟩
    · exact absurd (of_decide_eq_true hm) h
    · exact absurd hh h
    · simp [Drain.nextWaiting, regen, backwash, test]
  · rfl

theorem drainRegrant_due {r : Requester} (hm : s.lkg.main = .opened) (hh : s.drain.holder = none)
    (hw : s.drain.nextWaiting = some r) : drainRegrant k s = k r (s.granting r) := by
  unfold drainRegrant
  rw [if_pos ⟨decide_eq_true hm, hh⟩, hw]
  rfl

theorem flagSet_actRequest (a : Actr) (p : Pos) (s : State) (f : Flag) :
    (actRequest a p s).flagSet f = s.flagSet f := by
  rw [State.flagSet, actRequest_mgu, State.flagSet]

theorem flagSet_setMain {m : MainState} (h : m ≠ s.lkg.main) : (setMain m s).flagSet .main := by
  rw [setMain, decide_eq_true h]
  exact flagSet_raise _ _

/-! ### What the requesters do at their grant (R108, R141, R162) -/

/-- The regeneration's record and its snapshot at the grant, with the draw accumulator opened. -/
def State.regenStarted (s : State) : State :=
  accOpen (updateRecord (fun r => { r with startedAt := some s.mgu.seconds })
    { s with rgs := { s.rgs with snapshot := s.rgs.program } })

/-- The backwash's record and its snapshot at the grant. -/
def State.backwashStarted (s : State) : State :=
  updateBwRecord (fun r => { r with startedAt := some s.mgu.seconds })
    { s with flt := { s.flt with snapshot := s.flt.program } }

theorem regenStarted_rgs : s.regenStarted.rgs =
    { s.rgs with snapshot := s.rgs.program,
                 record := s.rgs.record.map fun r => { r with startedAt := some s.mgu.seconds } } := rfl

theorem backwashStarted_flt : s.backwashStarted.flt =
    { s.flt with snapshot := s.flt.program,
                 record := s.flt.record.map fun r => { r with startedAt := some s.mgu.seconds } } := rfl

theorem rgsGranted_step {i : Fin 8} (hq : s.rgs.seq = .queued) (hi : firstStep s.rgs.program 0 = some i) :
    rgsGranted k s = takeStep k i s.regenStarted := by
  have first : firstStep s.regenStarted.rgs.snapshot 0 = some i := hi
  unfold State.regenStarted at *
  simp only [rgsGranted, if_pos hq, first]

/-- The decay test at its grant, before the main is asked. -/
def State.testClosing (s : State) : State := setTest .closing (putTest { s.lkg.test with timer := none } s)

theorem testGranted_closing (hq : s.lkg.test.st = .waiting) (hm : s.lkg.main = .opened)
    (h : s.answer .main .mainClosed = .moving) :
    testGranted k s = heldRuns (setMain (.closing .test) (actRequest .main .mainClosed s.testClosing)) := by
  have main : (actRequest .main .mainClosed s.testClosing).lkg.main = .opened := by rw [actRequest_lkg]; exact hm
  have shut : closeMainFor k .test s.testClosing =
      heldRuns (setMain (.closing .test) (actRequest .main .mainClosed s.testClosing)) :=
    (closeMainFor_moving (s := s.testClosing) h).trans (setMainShut_opened main)
  refine (if_pos hq).trans ((congrArg testClosed shut).trans (if_neg fun c => ?_))
  obtain ⟨-, closed⟩ := c
  rw [heldRuns_eq, setMain_lkg] at closed
  cases closed

theorem fltGranted_step {i : Fin 4} (hq : s.flt.st = .queued) (hi : firstBwStep s.flt.program 0 = some i) :
    fltGranted k s = takeBwStep k i s.backwashStarted := by
  have first : firstBwStep s.backwashStarted.flt.snapshot 0 = some i := hi
  unfold State.backwashStarted at *
  simp only [fltGranted, if_pos hq, first]

theorem drainGrantEvent_regen {i : Fin 8} (hm : s.lkg.main = .opened) (hh : s.drain.holder = none)
    (hw : s.drain.waitRegen = true) (hq : s.rgs.seq = .queued) (hf : s.link.fieldFresh = true)
    (hi : firstStep s.rgs.program 0 = some i) (hr : s.answer .regenRotor (regenPos s.rgs.program[i].pos) = .moving) :
    drainGrantEvent s = actRequest .regenRotor (regenPos s.rgs.program[i].pos)
      (setSeq .positioning (setRegenRun (s.rgs.run.atStep i) (s.granting .regen).regenStarted)) :=
  have next : s.drain.nextWaiting = some .regen := by simp [Drain.nextWaiting, hw]
  (drainRegrant_due hm hh next).trans ((rgsGranted_step (s := s.granting .regen) hq hi).trans
    (takeStep_moving (supplied_of_mainOpen hm hf) hr))

theorem drainGrantEvent_backwash {i : Fin 4} (hm : s.lkg.main = .opened) (hh : s.drain.holder = none)
    (hw : s.drain.waitRegen = false) (hw' : s.drain.waitBackwash = true) (hq : s.flt.st = .queued)
    (hf : s.link.fieldFresh = true) (hi : firstBwStep s.flt.program 0 = some i)
    (hr : s.answer .filterRotor (backwashPos s.flt.program[i].pos) = .moving) :
    drainGrantEvent s = actRequest .filterRotor (backwashPos s.flt.program[i].pos)
      (setFlt .positioning (setBwRun { s.flt.run with step := some i, elapsed := 0 }
        (s.granting .backwash).backwashStarted)) :=
  have next : s.drain.nextWaiting = some .backwash := by simp [Drain.nextWaiting, hw, hw']
  (drainRegrant_due hm hh next).trans ((fltGranted_step (s := s.granting .backwash) hq hi).trans
    (takeBwStep_moving (supplied_of_mainOpen hm hf) hr))

theorem drainGrantEvent_test (hm : s.lkg.main = .opened) (hh : s.drain.holder = none)
    (hw : s.drain.waitRegen = false) (hw' : s.drain.waitBackwash = false) (hw'' : s.drain.waitTest = true)
    (hq : s.lkg.test.st = .waiting) (hr : s.answer .main .mainClosed = .moving) :
    drainGrantEvent s =
      heldRuns (setMain (.closing .test) (actRequest .main .mainClosed (s.granting .test).testClosing)) :=
  have next : s.drain.nextWaiting = some .test := by simp [Drain.nextWaiting, hw, hw', hw'']
  (drainRegrant_due hm hh next).trans (testGranted_closing (s := s.granting .test) hq hm hr)

end Sys2Proof.Machine

namespace Sys2Proof.Proofs
open Sys2Proof Sys2Proof.Machine

/-- Settles O21: the event is the grant to the next waiting requester, and what that one does then. -/
theorem theDrainLineGoesToTheFirstInPriority : Obligations.TheDrainLineGoesToTheFirstInPriority := by
  unfold Obligations.TheDrainLineGoesToTheFirstInPriority
  refine ⟨fun s h => congrArg Host.Outcome.next (drainRegrant_idle h), fun i s hm hh hw hq hf hi hl hr => ?regen,
    fun i s hm hh hw hw' hq hf hi hl hr => ?backwash, fun s hm hh hw hw' hw'' hq hr => ?test⟩
  case regen =>
    have first : firstStep s.rgs.program 0 = some i := firstStep_some (Nat.zero_le _) hi fun j _ hj => hl j hj
    refine ⟨_, congrArg Host.Outcome.next (drainGrantEvent_regen hm hh hw hq hf first hr), ?_⟩
    simp only [actRequest_drain, actRequest_rgs, actRequest_acc, actRequest_flt, actRequest_lkg, actRequest_slt,
      flagSet_actRequest, setSeq_drain, setSeq_rgs, setSeq_acc, setSeq_flt, setSeq_lkg, setSeq_slt, setRegenRun_drain,
      setRegenRun_rgs, setRegenRun_acc, setRegenRun_flt, setRegenRun_lkg, setRegenRun_slt, regenStarted_rgs]
    exact ⟨rfl, trivial, rfl, rfl, rfl, rfl, target_actRequest (a := .regenRotor) hr, flagSet_raise _ _, rfl, rfl, rfl⟩
  case backwash =>
    have first : firstBwStep s.flt.program 0 = some i := firstBwStep_some (Nat.zero_le _) hi fun j _ hj => hl j hj
    refine ⟨_, congrArg Host.Outcome.next (drainGrantEvent_backwash hm hh hw hw' hq hf first hr), ?_⟩
    simp only [actRequest_drain, actRequest_rgs, actRequest_acc, actRequest_flt, actRequest_lkg, flagSet_actRequest,
      setFlt_drain, setFlt_rgs, setFlt_acc, setFlt_flt, setFlt_lkg, setBwRun_drain, setBwRun_rgs, setBwRun_acc,
      setBwRun_flt, setBwRun_lkg, backwashStarted_flt]
    exact ⟨rfl, trivial, rfl, trivial, rfl, target_actRequest (a := .filterRotor) hr, flagSet_raise _ _, rfl, rfl, rfl⟩
  case test =>
    have kept : ∀ f, (s.granting .test).testClosing.flagSet f →
        (heldRuns (setMain (.closing .test) (actRequest .main .mainClosed (s.granting .test).testClosing))).flagSet f :=
      fun f => reach_flagSet (reach_fltHold (reach_rgsHold (reach_setMain _ (reach_actRequest _ _ .same)))) f
    refine ⟨_, congrArg Host.Outcome.next (drainGrantEvent_test hm hh hw hw' hw'' hq hr), ?_, ?_, ?_, ?_, ?_, ?_, ?_⟩
    · rw [heldRuns_eq, setMain_drain, actRequest_drain]; rfl
    · rw [heldRuns_eq, setMain_drain, actRequest_drain]; exact ⟨hw, hw', rfl⟩
    · rw [heldRuns_eq, setMain_lkg]
    · rw [heldRuns_eq, setMain_lkg, actRequest_lkg]; rfl
    · rw [heldRuns_eq, setMain_main]; exact target_actRequest (a := .main) hr
    · exact kept _ (flagSet_raise _ _)
    · refine reach_flagSet (reach_fltHold (reach_rgsHold .same)) _ (flagSet_setMain ?_)
      rw [actRequest_lkg]
      exact fun c => absurd (c.trans hm) nofun

end Sys2Proof.Proofs
end

section
/-! PROOFS. A run is queued. -/

namespace Sys2Proof.Machine

variable {s t u : State} {k : Grant}

/-! ### The line not to be had (R74) -/

theorem drainRequest_barred {r : Requester} (h : s.drain.holder ≠ some r)
    (hb : s.drain.holder ≠ none ∨ s.lkg.main ≠ .opened) :
    drainRequest k r s = { s with drain := s.drain.setWait r true } := by
  rcases drainRequest_cases k r s with ⟨held, -⟩ | ⟨waits, e⟩ | ⟨free, opened, -⟩ | ⟨-, e⟩
  · exact absurd held h
  · have : s.drain.setWait r true = s.drain := by
      cases r <;> simp only [Drain.setWait, Drain.waits] at waits ⊢ <;> rw [← waits]
    rw [e, this]
  · exact absurd opened (hb.resolve_left (not_not.2 free))
  · exact e

/-! ### A regeneration queued (R105 to R107) -/

/-- A regeneration of a tank is queued from `s`, and REGEN waits for the line. -/
structure RegenQueued (x : TankId) (trig : RegenTrigger) (prior : TankState) (s t : State) : Prop where
  seq : t.rgs.seq = .queued
  run : t.rgs.run = { RegenRun.empty with tank := some x, prior := some prior, trigger := some trig }
  record : t.rgs.record = some (newRecord x trig s.mgu.seconds)
  tank : t.tank x = { s.tank x with st := .regenerating }
  other : t.tank x.other = s.tank x.other
  drain : t.drain = { s.drain with waitRegen := true }
  regen : t.flagSet .regen
  raised : (s.tank x).st ≠ .regenerating → t.flagSet .tank
  lkg : t.lkg = s.lkg
  flt : t.flt = s.flt
  acc : t.acc = s.acc
  calendar : t.rgs.calendarDue = s.rgs.calendarDue
  replies : t.mgu.replies = s.mgu.replies

theorem setTank_calendarDue (x : TankId) (y : Tank) (s : State) :
    (setTank x y s).rgs.calendarDue = s.rgs.calendarDue := by
  cases x <;> (unfold setTank raiseIf; split <;> rfl)

theorem setTank_replies (x : TankId) (y : Tank) (s : State) : (setTank x y s).mgu.replies = s.mgu.replies := by
  cases x <;> (unfold setTank raiseIf; split <;> rfl)

theorem flagSet_setTank {x : TankId} {y : Tank} (h : y.st ≠ (s.tank x).st) : (setTank x y s).flagSet .tank := by
  rw [setTank.eq_def, flagSet_raiseIf, decide_eq_true h, Bool.or_true]

theorem regenQueued_rgsQueue {x : TankId} {trig : RegenTrigger} {prior : TankState} (h : s.drain.holder ≠ some .regen)
    (hb : s.drain.holder ≠ none ∨ s.lkg.main ≠ .opened) : RegenQueued x trig prior s (rgsQueue k x trig prior s) := by
  let v := setTank x { s.tank x with st := .regenerating } s
  let w := setSeq .queued { v with rgs := { v.rgs with
    run := { RegenRun.empty with tank := some x, prior := some prior, trigger := some trig }
    record := some (newRecord x trig s.mgu.seconds) } }
  have tank : ∀ y, w.tank y = v.tank y := fun y => by cases y <;> rfl
  have drain : w.drain = s.drain := setTank_drain ..
  have queued : rgsQueue k x trig prior s = { w with drain := w.drain.setWait .regen true } :=
    drainRequest_barred (s := w) (by rw [drain]; exact h) (by
      rw [drain, show w.lkg = s.lkg from setTank_lkg ..]; exact hb)
  have other : x.other ≠ x := by cases x <;> exact nofun
  rw [queued]
  exact {
    seq := rfl
    run := rfl
    record := rfl
    tank := (tank x).trans (setTank_tank_self ..)
    other := (tank x.other).trans (setTank_tank_other _ _ _ _ other)
    drain := congrArg (fun d : Drain => d.setWait .regen true) drain
    regen := flagSet_raise _ _
    raised := fun c => flagSet_or _ _ _ (flagSet_setTank (Ne.symm c))
    lkg := setTank_lkg ..
    flt := setTank_flt ..
    acc := setTank_acc ..
    calendar := setTank_calendarDue ..
    replies := setTank_replies .. }

/-! ### The calendar's choice (R105) -/

theorem serviceTank_iff (s : State) (x : TankId) : s.serviceTank = some x ↔ s.confirmed = some x.pos := by
  unfold State.serviceTank
  cases s.confirmed with
  | none => simp
  | some p => cases p <;> cases x <;> simp [tankOfPos, TankId.pos]

theorem calendarCandidate_exhausted {x : TankId} (hx : (s.tank x).st = .exhausted) (hc : s.confirmed ≠ some x.pos) :
    calendarCandidate s x = true := by
  have serves : s.serviceTank ≠ some x := fun c => hc ((serviceTank_iff s x).1 c)
  simp [calendarCandidate, hx, serves]

theorem calendarCandidate_serving {x : TankId} (hc : s.confirmed = some x.pos) : calendarCandidate s x = false := by
  simp [calendarCandidate, (serviceTank_iff s x).2 hc]

theorem calendarChoice_exhausted {x : TankId} (hx : (s.tank x).st = .exhausted) (hc : s.confirmed ≠ some x.pos)
    (ho : (s.tank x.other).st ≠ .exhausted ∨ s.confirmed = some x.other.pos
      ∨ (s.tank x.other).seconds < (s.tank x).seconds) : calendarChoice s = some x := by
  have candidate := calendarCandidate_exhausted hx hc
  unfold calendarChoice
  cases x with
  | a =>
    rw [candidate]
    cases hb : calendarCandidate s .b with
    | false => rfl
    | true =>
      have ho' : (s.tank .b).st ≠ .exhausted ∨ (s.tank .b).seconds < (s.tank .a).seconds := by
        rcases ho with h | h | h
        · exact .inl h
        · exact absurd (calendarCandidate_serving h) (by simp [TankId.other, hb])
        · exact .inr h
      simp only [State.tank] at hx ho'
      rcases ho' with h | h
      · rw [hx]; simp [Ne.symm h]
      · simp [hx, Nat.not_lt.2 (Nat.le_of_lt h)]
  | b =>
    rw [candidate]
    cases ha : calendarCandidate s .a with
    | false => rfl
    | true =>
      have ho' : (s.tank .a).st ≠ .exhausted ∨ (s.tank .a).seconds < (s.tank .b).seconds := by
        rcases ho with h | h | h
        · exact .inl h
        · exact absurd (calendarCandidate_serving h) (by simp [TankId.other, ha])
        · exact .inr h
      simp only [State.tank] at hx ho'
      rcases ho' with h | h
      · simp [hx, h]
      · by_cases c : s.rgs.tankA.st = s.rgs.tankB.st
        · simp [c, h]
        · rw [hx] at c; simp [hx, c]

theorem rgsCalendar_barred (h : s.calendarBarred = true) :
    rgsCalendar k s = { s with rgs := { s.rgs with calendarDue := false } } := if_pos h

theorem rgsCalendar_taken {x : TankId} (h : s.calendarBarred = false) (hx : calendarChoice s = some x) :
    rgsCalendar k s = rgsQueue k x .calendar (s.tank x).st { s with rgs := { s.rgs with calendarDue := false } } := by
  have choice : calendarChoice { s with rgs := { s.rgs with calendarDue := false } } = some x := hx
  refine (if_neg (by rw [Bool.not_eq_true]; exact h)).trans ?_
  rw [choice]
  cases x <;> rfl

theorem calendarRegenEvent_due (h : s.rgs.calendarDue = true) : calendarRegenEvent s = rgsCalendar onGrant s := if_pos h

theorem calendarBarred_eq_false : s.calendarBarred = false ↔ s.acc.settings.regenHour ≠ none ∧ s.mgu.timeValid = true
    ∧ s.rgs.seq = .idle ∧ s.rgs.move = .none ∧ s.hasRegenStep = true := by
  simp [State.calendarBarred, Option.isSome_iff_ne_none, and_assoc]

theorem hasRegenStep_iff : s.hasRegenStep = true ↔ ∃ i : Fin 8, s.rgs.program[i].enabled = true := by
  refine ⟨fun h => ?_, fun ⟨i, hi⟩ => firstStep_isSome hi⟩
  by_contra c
  rw [State.hasRegenStep, firstStep_none fun j _ => Bool.eq_false_of_not_eq_true fun e => c ⟨j, e⟩] at h
  cases h

/-! ### START_REGEN (R106) -/

@[simp] theorem tank_ofIndex_index (x : TankId) : TankId.ofIndex x.index = some x := by cases x <;> rfl

theorem startRegenCmd_taken {x : TankId} (hq : s.rgs.seq = .idle) (hm : s.rgs.move = .none)
    (hs : s.hasRegenStep = true) (hu : (s.tank x).st ≠ .unconfigured) (hc : s.confirmed ≠ some x.pos) :
    startRegenCmd x.index s = effect .accepted (rgsQueue onGrant x .command (s.tank x).st) s := by
  have serves : s.serviceTank ≠ some x := fun c => hc ((serviceTank_iff s x).1 c)
  have passes : checkStartRegen s x = none := by
    simp [checkStartRegen, firstFailing, hq, hm, hs, hu, serves]
  rw [startRegenCmd, tank_ofIndex_index]
  dsimp only
  rw [passes]

theorem startRegenCmd_busy {n : Nat} (hn : n ≤ 1) (h : s.rgs.seq ≠ .idle ∨ s.rgs.move ≠ .none) :
    startRegenCmd n s = status .busy s := by
  obtain ⟨x, hx⟩ : ∃ x, TankId.ofIndex n = some x := by
    match n, hn with
    | 0, _ => exact ⟨.a, rfl⟩
    | 1, _ => exact ⟨.b, rfl⟩
  have fails : checkStartRegen s x = some .busy := by
    rcases h with h | h <;> simp [checkStartRegen, firstFailing, h]
  rw [startRegenCmd, hx]
  dsimp only
  rw [fails]

theorem startRegenCmd_outside {n : Nat} (hn : 1 < n) : startRegenCmd n s = status .badIndex s := by
  match n, hn with
  | n + 2, _ => rfl

/-! ### A backwash queued (R140, R141, R145) -/

/-- A backwash of a stage is queued from `s`, and BACKWASH waits for the line. -/
structure BackwashQueued (i : Fin 4) (trig : BwTrigger) (s t : State) : Prop where
  flt : t.flt = { s.flt with
    st := .queued, run := { BwRun.empty with stage := some i, trigger := some trig }
    record := some (newBwRecord i trig s.mgu.seconds) }
  drain : t.drain = { s.drain with waitBackwash := true }
  filter : t.flagSet .filter
  rgs : t.rgs = s.rgs
  lkg : t.lkg = s.lkg
  replies : t.mgu.replies = s.mgu.replies

theorem backwashQueued_fltQueue {i : Fin 4} {trig : BwTrigger} (h : s.drain.holder ≠ some .backwash)
    (hb : s.drain.holder ≠ none ∨ s.lkg.main ≠ .opened) : BackwashQueued i trig s (fltQueue k i trig s) := by
  let w := setFlt .queued { s with flt := { s.flt with
    run := { BwRun.empty with stage := some i, trigger := some trig }
    record := some (newBwRecord i trig s.mgu.seconds) } }
  have queued : fltQueue k i trig s = { w with drain := w.drain.setWait .backwash true } :=
    drainRequest_barred (s := w) h hb
  rw [queued]
  exact ⟨rfl, rfl, flagSet_raise _ _, rfl, rfl, rfl⟩

theorem recIsMedia_iff (c : StageRec) : recIsMedia c = true ↔ c.enabled = true ∧ c.kind = .media := by
  simp [recIsMedia]

theorem mediaStage_first {i : Fin 4} (he : s.flt.stages[i].conf.enabled = true)
    (hk : s.flt.stages[i].conf.kind = .media)
    (hl : ∀ j : Fin 4, j < i → ¬ (s.flt.stages[j].conf.enabled = true ∧ s.flt.stages[j].conf.kind = .media)) :
    s.mediaStage = some i :=
  find_finRange_some ((recIsMedia_iff _).2 ⟨he, hk⟩) fun j hj c => hl j hj ((recIsMedia_iff _).1 c)

theorem backwashReady_iff : s.backwashReady = true ↔ s.flt.demand ≠ none ∧ s.flt.st = .idle
    ∧ s.filterRotor.conf.enabled = true ∧ s.filterRotor.run.inFault = false
    ∧ ∃ j : Fin 4, s.flt.program[j].enabled = true := by
  have steps : s.flt.program.toList.any (·.enabled) = true ↔ ∃ j : Fin 4, s.flt.program[j].enabled = true := by
    simp only [List.any_eq_true]
    constructor
    · rintro ⟨x, hx, he⟩
      obtain ⟨j, hj, rfl⟩ := List.mem_iff_getElem.1 hx
      exact ⟨⟨j, by simpa using hj⟩, by simpa using he⟩
    · rintro ⟨j, hj⟩
      exact ⟨s.flt.program[j], by simp, hj⟩
  simp only [State.backwashReady, State.filterUsable, Bool.and_eq_true, steps, Option.isSome_iff_ne_none, beq_iff_eq,
    Bool.not_eq_true', and_assoc]

theorem queueForDemand_taken {i : Fin 4} {c : BwTrigger} (hi : s.mediaStage = some i) (hc : s.flt.demand = some c)
    (hr : s.backwashReady = true) :
    queueForDemand k s = fltQueue k i c { s with flt := { s.flt with queueDue := false } } := by
  have media : State.mediaStage { s with flt := { s.flt with queueDue := false } } = some i := hi
  have ready : State.backwashReady { s with flt := { s.flt with queueDue := false } } = true := hr
  unfold queueForDemand
  dsimp only
  split
  · rename_i i' c' hi' hc'
    cases media.symm.trans hi'
    cases hc.symm.trans hc'
    exact if_pos ready
  · rename_i no
    exact absurd hc (no i c media)

theorem queueEvent_due (h : s.flt.queueDue = true) : queueEvent s = queueForDemand onGrant s := if_pos h

theorem queueForDemand_none (h : s.backwashReady = false) :
    queueForDemand k s = { s with flt := { s.flt with queueDue := false } } := by
  have ready : State.backwashReady { s with flt := { s.flt with queueDue := false } } = false := h
  unfold queueForDemand
  dsimp only
  rw [ready]
  split <;> rfl

theorem startBackwashCmd_taken {i : Fin 4} (hi : s.mediaStage = some i) (hq : s.flt.st = .idle)
    (hs : ∃ j : Fin 4, s.flt.program[j].enabled = true) :
    startBackwashCmd s = effect .accepted (fltQueue onGrant i .command) s := by
  obtain ⟨j, hj⟩ := hs
  have some : (firstBwStep s.flt.program 0).isNone = false := by
    cases c : firstBwStep s.flt.program 0 with
    | none => exact absurd (List.find?_eq_none.1 c j (List.mem_finRange j)) (by simpa using hj)
    | some _ => rfl
  simp [startBackwashCmd, hi, hq, some]

end Sys2Proof.Machine

namespace Sys2Proof.Proofs
open Sys2Proof Sys2Proof.Machine

/-- Settles O22: with the line not to be had, a request for it makes its requester wait, and a queueing is its record,
its run and that request. -/
theorem aRunIsQueued : Obligations.ARunIsQueued := by
  unfold Obligations.ARunIsQueued
  refine ⟨fun x s due hh ht hq hm hs hx hc ho h hb => ?_, fun s due h => ?_, fun s h => ?_,
    fun tag x s hs hq hm hp hu hc h hb => ?_, fun tag n s hs => ⟨fun hn => ?_, fun hn h => ?_⟩,
    fun i s he hk hl => ⟨fun c due hc hq hen hf hp h hb => ?_, fun due h => ?_, fun tag hs hq hp h hb => ?_,
      fun tag hs hq => ?_, fun tag hs hq hp => ?_⟩⟩
  · have free : s.calendarBarred = false := calendarBarred_eq_false.2 ⟨hh, ht, hq, hm, hasRegenStep_iff.2 hs⟩
    have taken := (calendarRegenEvent_due due).trans (rgsCalendar_taken free (calendarChoice_exhausted hx hc ho))
    have q := regenQueued_rgsQueue (k := onGrant) (x := x) (trig := .calendar) (prior := (s.tank x).st)
      (s := { s with rgs := { s.rgs with calendarDue := false } }) h hb
    have same : ∀ y, State.tank { s with rgs := { s.rgs with calendarDue := false } } y = s.tank y := fun y => by
      cases y <;> rfl
    refine ⟨_, congrArg Host.Outcome.next taken, q.calendar, q.seq, q.run.trans (by rw [hx]), q.record,
      q.tank.trans (by rw [same]), q.other.trans (same _), q.drain, q.regen, q.raised ?_, q.lkg, q.flt, q.acc⟩
    rw [same, hx]
    exact nofun
  · refine congrArg Host.Outcome.next ((calendarRegenEvent_due due).trans (rgsCalendar_barred ?_))
    by_contra c
    obtain ⟨hh, ht, hq, hm, hs⟩ := calendarBarred_eq_false.1 (Bool.eq_false_of_not_eq_true c)
    rcases h with h | h | h | h | h
    · exact hh h
    · rw [ht] at h; cases h
    · exact h hq
    · exact h hm
    · obtain ⟨i, hi⟩ := hasRegenStep_iff.1 hs
      rw [h i] at hi; cases hi
  · exact congrArg Host.Outcome.next (if_neg (by rw [h]; exact nofun))
  · have taken := exec_effect hs (c := .startRegen tag x.index) rfl
      (startRegenCmd_taken hq hm (hasRegenStep_iff.2 hp) hu hc)
    have q := regenQueued_rgsQueue (k := onGrant) (x := x) (trig := .command) (prior := (s.tank x).st) h hb
    refine ⟨_, taken, q.seq, q.run, q.record, ?_, ?_, q.drain, q.regen, ?_, q.lkg, q.flt, q.acc⟩
    · exact Eq.trans (by cases x <;> rfl) q.tank
    · exact Eq.trans (by cases x <;> rfl) q.other
    · exact congrArg (· ++ [{ tag := tag, body := [1] }]) q.replies
  · exact exec_status hs rfl (startRegenCmd_outside hn)
  · exact exec_status hs rfl (startRegenCmd_busy hn h)
  · have media := mediaStage_first he hk hl
    have ready : s.backwashReady = true := backwashReady_iff.2 ⟨by rw [hc]; exact nofun, hq, hen, hf, hp⟩
    have taken := (queueEvent_due due).trans (queueForDemand_taken media hc ready)
    have q := backwashQueued_fltQueue (k := onGrant) (i := i) (trig := c)
      (s := { s with flt := { s.flt with queueDue := false } }) h hb
    refine ⟨_, congrArg Host.Outcome.next taken, ?_, ?_, ?_, ?_, ?_, q.drain, q.filter, q.rgs, q.lkg, ?_⟩
    all_goals rw [q.flt]
    exact hc
  · refine congrArg Host.Outcome.next ((queueEvent_due due).trans (queueForDemand_none ?_))
    by_contra c
    obtain ⟨hd, hq, he, hf, -⟩ := backwashReady_iff.1 (Bool.eq_true_of_not_eq_false c)
    rcases h with h | h | h | h
    · exact hd h
    · exact h hq
    · rw [he] at h; cases h
    · rw [hf] at h; cases h
  · have taken := exec_effect hs (c := .startBackwash tag) rfl
      (startBackwashCmd_taken (mediaStage_first he hk hl) hq hp)
    have q := backwashQueued_fltQueue (k := onGrant) (i := i) (trig := .command) h hb
    refine ⟨_, taken, ?_, ?_, ?_, q.drain, q.filter, ?_, q.rgs, q.lkg⟩
    · exact congrArg Flt.st q.flt
    · exact congrArg Flt.run q.flt
    · exact congrArg Flt.record q.flt
    · exact congrArg (· ++ [{ tag := tag, body := [1] }]) q.replies
  · exact exec_status hs rfl (st := .busy) (by simp [startBackwashCmd, mediaStage_first he hk hl, hq])
  · have none := firstBwStep_none (lo := 0) fun j _ => hp j
    exact exec_status hs rfl (st := .conflict) (by simp [startBackwashCmd, mediaStage_first he hk hl, hq, none])

end Sys2Proof.Proofs
end

section
/-! PROOFS. The end of a RUNNING step. -/

namespace Sys2Proof.Machine

variable {s : State} {k : Grant}

/-! ### The refill's end (R127) -/

theorem setSalt_eq (x : Salt) (s : State) : setSalt x s =
    { s with slt := x, mgu := { s.mgu with changes := (setSalt x s).mgu.changes } } := by
  unfold setSalt raiseIf
  split <;> rfl

theorem refillEnd_eq (short : Bool) (s : State) : refillEnd short s =
    { s with slt := (refillEnd short s).slt, mgu := { s.mgu with changes := (refillEnd short s).mgu.changes } } := by
  unfold refillEnd
  split
  · split
    · rw [setSalt_eq]
    · rfl
  · rfl

/-- SLT after the end of a REFILL step. -/
def Salt.refillEnded (short : Bool) (x : Salt) : Salt :=
  if x.refill.phase = .inRefill then
    if short then { x with refillShort := true, refill := { x.refill with phase := .none, result := some .short } }
    else { x with refill := { x.refill with phase := .settling, timer := some 600 } }
  else x

theorem refillEnd_slt (short : Bool) (s : State) : (refillEnd short s).slt = s.slt.refillEnded short := by
  unfold refillEnd Salt.refillEnded
  split
  · split
    · exact setSalt_slt ..
    · rfl
  · rfl

/-! ### A regeneration step ended (R110) -/

/-- The regeneration after the end of its step, before it goes on. -/
def State.stepEnded (i : Fin 8) (short : Bool) (s : State) : State :=
  raise .regen ((if s.rgs.snapshot[i].pos = .refill then refillEnd short else id)
    (countStep (some i) short (stopStep s)))

theorem stepEnded_eq (i : Fin 8) (short : Bool) (s : State) : s.stepEnded i short = { s with
    drain := (stopStep s).drain, acc := (stopStep s).acc
    rgs := { s.rgs with record := s.rgs.record.map fun r =>
      { r with stepsDone := r.stepsDone + 1, short := r.short.set i short } }
    slt := (s.stepEnded i short).slt, mgu := { s.mgu with changes := (s.stepEnded i short).mgu.changes } } := by
  unfold State.stepEnded
  split
  · rw [refillEnd_eq, stopStep_eq]; rfl
  · rw [stopStep_eq]; rfl

theorem stepEnded_slt (i : Fin 8) (short : Bool) (s : State) : (s.stepEnded i short).slt =
    if s.rgs.snapshot[i].pos = .refill then s.slt.refillEnded short else s.slt := by
  unfold State.stepEnded
  split
  · rw [stopStep_eq]; exact refillEnd_slt ..
  · rw [stopStep_eq]; rfl

theorem stepEnded_next {i : Fin 8} {short : Bool} (hi : s.rgs.run.step = some i) :
    (s.stepEnded i short).nextRegenStep = firstStep s.rgs.snapshot (i.val + 1) := by
  rw [stepEnded_eq, State.nextRegenStep]
  simp only [hi]

theorem endStep_eq {i : Fin 8} {short : Bool} (hi : s.rgs.run.step = some i) : endStep k short s =
    (firstStep s.rgs.snapshot (i.val + 1)).elim (startParking k (s.stepEnded i short))
      fun j => takeStep k j (s.stepEnded i short) := by
  have current : s.regenStep = some s.rgs.snapshot[i] := by rw [State.regenStep, hi]; rfl
  have ended : endStep k short s = match (s.stepEnded i short).nextRegenStep with
      | some j => takeStep k j (s.stepEnded i short)
      | none => startParking k (s.stepEnded i short) := by
    unfold endStep State.stepEnded
    by_cases h : s.rgs.snapshot[i].pos = .refill <;> simp only [hi, current, h, if_true, if_false, beq_iff_eq] <;> rfl
  rw [ended, ← stepEnded_next (short := short) hi]
  cases (s.stepEnded i short).nextRegenStep <;> rfl

theorem endStep_positioning {i j : Fin 8} {short : Bool} (hi : s.rgs.run.step = some i)
    (hj : firstStep s.rgs.snapshot (i.val + 1) = some j) (hs : s.supplied = true)
    (hr : s.answer .regenRotor (regenPos s.rgs.snapshot[j].pos) = .moving) :
    endStep k short s = actRequest .regenRotor (regenPos s.rgs.snapshot[j].pos)
      (setSeq .positioning (setRegenRun (s.rgs.run.atStep j) (s.stepEnded i short))) := by
  have supplied : (s.stepEnded i short).supplied = true := by rw [stepEnded_eq]; exact hs
  have run : (s.stepEnded i short).rgs.run = s.rgs.run := by rw [stepEnded_eq]
  have snapshot : (s.stepEnded i short).rgs.snapshot = s.rgs.snapshot := by rw [stepEnded_eq]
  have moving : (s.stepEnded i short).answer .regenRotor (regenPos s.rgs.snapshot[j].pos) = .moving := by
    rw [stepEnded_eq]; exact hr
  have taken := takeStep_moving (k := k) (i := j) supplied (by rw [snapshot]; exact moving)
  rw [run, snapshot] at taken
  rw [endStep_eq hi, hj]
  exact taken

theorem endStep_parking {i : Fin 8} {short : Bool} (hi : s.rgs.run.step = some i)
    (hj : firstStep s.rgs.snapshot (i.val + 1) = none) (hr : s.answer .regenRotor .service = .moving) :
    endStep k short s = actRequest .regenRotor .service
      (setSeq .parking (setRegenRun { s.rgs.run with step := none } (s.stepEnded i short))) := by
  have run : (s.stepEnded i short).rgs.run = s.rgs.run := by rw [stepEnded_eq]
  have moving : (s.stepEnded i short).answer .regenRotor .service = .moving := by rw [stepEnded_eq]; exact hr
  have parked := startParking_moving (k := k) moving
  rw [run] at parked
  rw [endStep_eq hi, hj]
  exact parked

theorem stepEndDue_of {i : Fin 8} {short : Bool} (hq : s.rgs.seq = .running) (hi : s.rgs.run.step = some i)
    (h : (s.rgs.snapshot[i].endKind = .duration ∧ s.rgs.snapshot[i].duration ≤ s.rgs.run.elapsed ∧ short = false)
      ∨ (s.rgs.snapshot[i].endKind = .volume ∧ s.rgs.snapshot[i].volume ≤ s.rgs.run.brine ∧ short = false)
      ∨ (s.rgs.snapshot[i].endKind = .volume ∧ s.rgs.run.brine < s.rgs.snapshot[i].volume
        ∧ s.rgs.snapshot[i].timeout ≤ s.rgs.run.elapsed ∧ short = true)) : stepEndDue s = some short := by
  have current : s.regenStep = some s.rgs.snapshot[i] := by rw [State.regenStep, hi]; rfl
  unfold stepEndDue
  rcases h with ⟨kind, reached, rfl⟩ | ⟨kind, reached, rfl⟩ | ⟨kind, before, reached, rfl⟩
  · simp only [if_pos hq, current, kind, reached, if_true]
  · simp only [if_pos hq, current, kind, reached, if_true]
  · simp only [if_pos hq, current, kind, Nat.not_le.2 before, reached, if_true, if_false]

/-! ### A backwash step ended (R142) -/

/-- The backwash after the end of its step, before it goes on. -/
def State.bwStepEnded (s : State) : State :=
  raise .filter (updateBwRecord (fun r => { r with stepsDone := r.stepsDone + 1 }) (stopBwStep s))

theorem bwStepEnded_eq (s : State) : s.bwStepEnded = { s with
    drain := (stopBwStep s).drain, acc := (stopBwStep s).acc
    flt := { s.flt with record := s.flt.record.map fun r => { r with stepsDone := r.stepsDone + 1 } }
    mgu := { s.mgu with changes := s.bwStepEnded.mgu.changes } } := by
  rw [State.bwStepEnded, stopBwStep_eq]
  rfl

theorem endBwStep_eq {i : Fin 4} (hi : s.flt.run.step = some i) : endBwStep k s =
    (firstBwStep s.flt.snapshot (i.val + 1)).elim (startBwParking k false s.bwStepEnded)
      fun j => takeBwStep k j s.bwStepEnded := by
  have next : s.bwStepEnded.nextBwStep = firstBwStep s.flt.snapshot (i.val + 1) := by
    rw [bwStepEnded_eq, State.nextBwStep]
    simp only [hi]
  rw [← next, endBwStep, State.bwStepEnded]
  cases (raise .filter (updateBwRecord _ (stopBwStep s))).nextBwStep <;> rfl

theorem endBwStep_positioning {i j : Fin 4} (hi : s.flt.run.step = some i)
    (hj : firstBwStep s.flt.snapshot (i.val + 1) = some j) (hs : s.supplied = true)
    (hr : s.answer .filterRotor (backwashPos s.flt.snapshot[j].pos) = .moving) :
    endBwStep k s = actRequest .filterRotor (backwashPos s.flt.snapshot[j].pos)
      (setFlt .positioning (setBwRun { s.flt.run with step := some j, elapsed := 0 } s.bwStepEnded)) := by
  have supplied : s.bwStepEnded.supplied = true := by rw [bwStepEnded_eq]; exact hs
  have run : s.bwStepEnded.flt.run = s.flt.run := by rw [bwStepEnded_eq]
  have snapshot : s.bwStepEnded.flt.snapshot = s.flt.snapshot := by rw [bwStepEnded_eq]
  have moving : s.bwStepEnded.answer .filterRotor (backwashPos s.flt.snapshot[j].pos) = .moving := by
    rw [bwStepEnded_eq]; exact hr
  have taken := takeBwStep_moving (k := k) (i := j) supplied (by rw [snapshot]; exact moving)
  rw [run, snapshot] at taken
  rw [endBwStep_eq hi, hj]
  exact taken

theorem endBwStep_parking {i : Fin 4} (hi : s.flt.run.step = some i)
    (hj : firstBwStep s.flt.snapshot (i.val + 1) = none) (hr : s.answer .filterRotor .service = .moving) :
    endBwStep k s = actRequest .filterRotor .service
      (setFlt .parking (setBwRun { s.flt.run with step := none, decided := false } s.bwStepEnded)) := by
  have run : s.bwStepEnded.flt.run = s.flt.run := by rw [bwStepEnded_eq]
  have moving : s.bwStepEnded.answer .filterRotor .service = .moving := by rw [bwStepEnded_eq]; exact hr
  have parked := startBwParking_moving (k := k) (decided := false) moving
  rw [run] at parked
  rw [endBwStep_eq hi, hj]
  exact parked

theorem bwStepEndDue_of {i : Fin 4} (hq : s.flt.st = .running) (hi : s.flt.run.step = some i)
    (hd : s.flt.snapshot[i].duration ≤ s.flt.run.elapsed) : bwStepEndDue s = true := by
  have current : s.bwStep = some s.flt.snapshot[i] := by rw [State.bwStep, hi]; rfl
  rw [bwStepEndDue, hq, current]
  exact decide_eq_true hd

end Sys2Proof.Machine

namespace Sys2Proof.Proofs
open Sys2Proof Sys2Proof.Machine

/-- Settles O23: the event is the end of the step that is due, which stops it, counts it and goes on to the next. -/
theorem aRunningStepEnds : Obligations.ARunningStepEnds := by
  unfold Obligations.ARunningStepEnds
  refine ⟨?regen, fun i s hq hi hd => ?backwash⟩
  case regen =>
    intro i short s x hq hi hd
    have event : regenStepEndEvent s = endStep onGrant short s := by rw [regenStepEndEvent, stepEndDue_of hq hi hd]
    obtain ⟨phase, allowance⟩ := stopStep_running hq
    have holder : (stopStep s).drain.holder = s.drain.holder := by rw [stopStep_drain_eq]
    refine ⟨fun j hj he hl hs hr => ?next, fun hl hr => ?last⟩
    case next =>
      have next : firstStep s.rgs.snapshot (i.val + 1) = some j := firstStep_some hj he hl
      refine ⟨_, congrArg Host.Outcome.next (event.trans (endStep_positioning hi next hs hr)), ?_⟩
      simp only [actRequest_drain, actRequest_rgs, actRequest_acc, actRequest_slt, flagSet_actRequest, setSeq_drain,
        setSeq_rgs, setSeq_acc, setSeq_slt, setRegenRun_drain, setRegenRun_rgs, setRegenRun_acc, setRegenRun_slt]
      rw [stepEnded_eq]
      simp only [stepEnded_slt]
      refine ⟨trivial, rfl, trivial, phase, allowance, fun h => if_neg h, fun h inside e => ?_, fun h inside e => ?_,
        ?_, flagSet_raise _ _, holder⟩
      · subst e
        rw [if_pos h, Salt.refillEnded, if_pos inside]
        exact ⟨rfl, rfl⟩
      · subst e
        rw [if_pos h, Salt.refillEnded, if_pos inside]
        exact ⟨rfl, rfl, rfl⟩
      · exact target_actRequest (a := .regenRotor) hr
    case last =>
      have last : firstStep s.rgs.snapshot (i.val + 1) = none := firstStep_none hl
      refine ⟨_, congrArg Host.Outcome.next (event.trans (endStep_parking hi last hr)), ?_⟩
      simp only [actRequest_drain, actRequest_rgs, actRequest_acc, flagSet_actRequest, setSeq_drain, setSeq_rgs,
        setSeq_acc, setRegenRun_drain, setRegenRun_rgs, setRegenRun_acc]
      rw [stepEnded_eq]
      exact ⟨trivial, trivial, rfl, phase, target_actRequest (a := .regenRotor) hr, flagSet_raise _ _, holder⟩
  case backwash =>
    have event : bwStepEndEvent s = endBwStep onGrant s := if_pos (bwStepEndDue_of hq hi hd)
    refine ⟨fun j hj he hl hs hr => ?next, fun hl hr => ?last⟩
    case next =>
      have next : firstBwStep s.flt.snapshot (i.val + 1) = some j := firstBwStep_some hj he hl
      refine ⟨_, congrArg Host.Outcome.next (event.trans (endBwStep_positioning hi next hs hr)), ?_⟩
      simp only [actRequest_drain, actRequest_rgs, actRequest_flt, actRequest_lkg, flagSet_actRequest, setFlt_drain,
        setFlt_rgs, setFlt_flt, setFlt_lkg, setBwRun_drain, setBwRun_rgs, setBwRun_flt, setBwRun_lkg]
      rw [bwStepEnded_eq]
      exact ⟨trivial, trivial, rfl, stopBwStep_running hq, target_actRequest (a := .filterRotor) hr,
        flagSet_raise _ _, rfl, rfl, rfl⟩
    case last =>
      have last : firstBwStep s.flt.snapshot (i.val + 1) = none := firstBwStep_none hl
      refine ⟨_, congrArg Host.Outcome.next (event.trans (endBwStep_parking hi last hr)), ?_⟩
      simp only [actRequest_rgs, actRequest_flt, actRequest_lkg, flagSet_actRequest, setFlt_rgs, setFlt_flt, setFlt_lkg,
        setBwRun_rgs, setBwRun_flt, setBwRun_lkg]
      rw [bwStepEnded_eq]
      exact ⟨trivial, trivial, rfl, target_actRequest (a := .filterRotor) hr, flagSet_raise _ _, rfl, rfl, rfl⟩

end Sys2Proof.Proofs
end

section
/-! PROOFS. A decay test starts, and its window and settle timers. -/

namespace Sys2Proof.Machine

variable {s t : State} {k : Grant}

/-! ### The start (R161) -/

/-- The result record of a test that starts. -/
def newTestRecord (trig : TestTrigger) (seconds : Nat) : TestRecord :=
  { trigger := trig, startedAt := seconds, endedAt := none, p0 := none, p1 := none, decay := none, failCount := none
    result := none }

/-- A decay test has started from `s`, and TEST waits for the line. -/
structure TestStarted (trig : TestTrigger) (s t : State) : Prop where
  test : t.lkg.test = { s.lkg.test with
    st := .waiting, timer := some s.lkg.config.testWindow, p0 := none, previous := none
    record := some (newTestRecord trig s.mgu.seconds) }
  drain : t.drain = { s.drain with waitTest := true }
  flag : t.flagSet .test
  main : t.lkg.main = s.lkg.main
  rgs : t.rgs = s.rgs
  flt : t.flt = s.flt
  calendar : t.lkg.calendarDue = s.lkg.calendarDue
  replies : t.mgu.replies = s.mgu.replies

theorem flagSet_setTest (x : TestState) (s : State) : (setTest x s).flagSet .test := flagSet_raise _ _

theorem testStarted_testStart {trig : TestTrigger} (h : s.drain.holder ≠ some .test)
    (hb : s.drain.holder ≠ none ∨ s.lkg.main ≠ .opened) : TestStarted trig s (testStart k trig s) := by
  let w := setTest .waiting (putTest { s.lkg.test with
    timer := some s.lkg.config.testWindow, p0 := none, previous := none
    record := some (newTestRecord trig s.mgu.seconds) } s)
  have started : testStart k trig s = { w with drain := w.drain.setWait .test true } :=
    drainRequest_barred (s := w) h hb
  rw [started]
  exact ⟨rfl, rfl, flagSet_raise _ _, rfl, rfl, rfl, rfl, rfl⟩

theorem testCalendar_taken (ht : s.mgu.timeValid = true) (he : s.lkg.config.testEnabled = true)
    (hl : s.lkg.latch = none) (hq : s.lkg.test.st = .idle) :
    testCalendar k s = testStart k .calendar { s with lkg := { s.lkg with calendarDue := false } } :=
  if_pos ⟨ht, he, hl, hq⟩

theorem testCalendar_lost (h : s.mgu.timeValid = false ∨ s.lkg.config.testEnabled = false ∨ s.lkg.latch ≠ none
    ∨ s.lkg.test.st ≠ .idle) : testCalendar k s = { s with lkg := { s.lkg with calendarDue := false } } := by
  refine if_neg fun c => ?_
  obtain ⟨valid, enabled, latch, idle⟩ := c
  rcases h with h | h | h | h
  · exact Bool.false_ne_true (h.symm.trans valid)
  · exact Bool.false_ne_true (h.symm.trans enabled)
  · exact h latch
  · exact h idle

theorem testCalendarEvent_due (h : s.lkg.calendarDue = true) : testCalendarEvent s = testCalendar onGrant s := if_pos h

theorem startTestCmd_taken (hl : s.lkg.latch = none) (hq : s.lkg.test.st = .idle) :
    startTestCmd s = effect .accepted (testStart onGrant .command) s := by
  simp [startTestCmd, hl, hq]

theorem startTestCmd_latched (hl : s.lkg.latch ≠ none) : startTestCmd s = status .latched s :=
  if_pos (Option.isSome_iff_ne_none.2 hl)

theorem startTestCmd_busy (hl : s.lkg.latch = none) (hq : s.lkg.test.st ≠ .idle) :
    startTestCmd s = status .busy s := by
  simp [startTestCmd, hl, hq]

/-! ### The timers (R161, R162, R164) -/

theorem testExpired_iff {x : TestState} : s.testExpired x = true ↔ s.lkg.test.st = x ∧ s.lkg.test.timer = some 0 := by
  simp [State.testExpired]

theorem not_testExpired {x : TestState} (h : s.lkg.test.st ≠ x ∨ s.lkg.test.timer ≠ some 0) :
    ¬ s.testExpired x = true := fun c => h.elim (· (testExpired_iff.1 c).1) (· (testExpired_iff.1 c).2)

/-- A requester that does not hold the line gives up its request, if it made one (R74). -/
theorem drainRelease_withdrawn {r : Requester} (h : s.drain.holder ≠ some r) :
    drainRelease k r s = { s with drain := s.drain.setWait r false } := by
  unfold drainRelease
  rw [if_neg h]
  split
  · rfl
  · rename_i waits
    have same : s.drain.setWait r false = s.drain := by
      cases r <;> simp only [Drain.setWait, Drain.waits, Bool.not_eq_true] at waits ⊢ <;> rw [← waits]
    rw [same]

theorem testIdle_lkg (s : State) : (testIdle s).lkg = { s.lkg with test := { s.lkg.test with
    st := .idle, timer := none
    record := s.lkg.test.record.map fun r => { r with endedAt := some s.mgu.seconds } } } := rfl

theorem setResult_lkg (x : TestResult) (s : State) : (setResult x s).lkg = { s.lkg with test := { s.lkg.test with
    record := s.lkg.test.record.map fun r => { r with result := some x } } } := rfl

theorem setMainShut_lkg (m : MainState) (s : State) : (setMainShut m s).lkg = { s.lkg with main := m } := by
  by_cases h : s.lkg.main = .opened
  · rw [setMainShut_opened h, heldRuns_eq, setMain_lkg]
  · rw [setMainShut_shut h, setMain_lkg]

theorem setMainShut_main (m : MainState) (s : State) : (setMainShut m s).main = s.main := by
  by_cases h : s.lkg.main = .opened
  · rw [setMainShut_opened h, heldRuns_eq, setMain_main]
  · rw [setMainShut_shut h, setMain_main]

/-- The decay test in REOPENING, before the main is asked. -/
def State.testReopening (s : State) : State := setTest .reopening (putTest { s.lkg.test with timer := none } s)

/-- A request to MAIN depends on MAIN alone. -/
theorem target_main {u : State} {p : Pos} (e : u.main = s.main) (h : s.answer .main p = .moving) :
    (actRequest .main p u).main.run.target = some p := by
  have same : u.act .main = s.act .main := e
  have answer : u.answer .main p = .moving := by rw [State.answer, same]; exact h
  exact target_actRequest (a := .main) answer

theorem testReopen_moving (h : s.answer .main .mainOpen = .moving) :
    testReopen k s = setMainShut .opening (actRequest .main .mainOpen s.testReopening) := by
  have asked : openMainAsk k s.testReopening = setMainShut .opening (actRequest .main .mainOpen s.testReopening) :=
    openMainAsk_moving (s := s.testReopening) h
  refine (congrArg (testOpened k) asked).trans (if_neg fun c => ?_)
  obtain ⟨-, opened⟩ := c
  rw [State.mainOpen, setMainShut_lkg] at opened
  cases of_decide_eq_true opened

end Sys2Proof.Machine

namespace Sys2Proof.Proofs
open Sys2Proof Sys2Proof.Machine

/-- Settles O36: a start is its record and the request that waits; a timer's expiry is the end or the phase it leads
to. -/
theorem aDecayTestStartsAndItsTimersExpire : Obligations.ADecayTestStartsAndItsTimersExpire := by
  unfold Obligations.ADecayTestStartsAndItsTimersExpire
  refine ⟨fun s => ⟨fun due ht he hl hq h hb => ?_, fun due h => ?_, fun h => ?_, fun tag hs hl hq h hb => ?_,
    fun tag hs hl => ?_, fun tag hs hl hq => ?_⟩,
    fun s => ⟨fun hq hz h => ?_, fun hq hz hk => ?_, fun hq hz hk hr => ?_, fun h => ?_, fun h => ?_⟩⟩
  · have w := testStarted_testStart (k := onGrant) (trig := .calendar)
      (s := { s with lkg := { s.lkg with calendarDue := false } }) h hb
    exact ⟨_, congrArg Host.Outcome.next ((testCalendarEvent_due due).trans (testCalendar_taken ht he hl hq)),
      ⟨w.test, w.drain, w.flag, w.main, w.rgs, w.flt⟩, w.calendar⟩
  · exact congrArg Host.Outcome.next ((testCalendarEvent_due due).trans (testCalendar_lost h))
  · exact congrArg Host.Outcome.next (if_neg (by rw [h]; exact nofun))
  · have w := testStarted_testStart (k := onGrant) (trig := .command) h hb
    have taken := exec_effect hs (c := .startLeakTest tag) rfl (startTestCmd_taken hl hq)
    refine ⟨_, taken, ⟨w.test, w.drain, w.flag, w.main, w.rgs, w.flt⟩, ?_⟩
    exact congrArg (· ++ [{ tag := tag, body := [1] }]) w.replies
  · exact exec_status hs rfl (startTestCmd_latched hl)
  · exact exec_status hs rfl (startTestCmd_busy hl hq)
  · have event : testWindowEvent s = testWindow onGrant s := if_pos (testExpired_iff.2 ⟨hq, hz⟩)
    refine ⟨_, congrArg Host.Outcome.next event, ?_⟩
    rw [testWindow, drainRelease_withdrawn h]
    simp only [testIdle_lkg, testIdle_rgs, setResult_lkg, setResult_rgs, Option.map_map]
    exact ⟨trivial, trivial, rfl, rfl, flagSet_setTest .., trivial, trivial⟩
  · have event : testSettleEvent s = enterMeasure s :=
      (if_pos (testExpired_iff.2 ⟨hq, hz⟩)).trans (if_pos (decide_eq_true hk))
    refine ⟨_, congrArg Host.Outcome.next event, rfl, flagSet_setTest .., rfl, ?_, ?_⟩
    · simp only [enterMeasure, setTest_rgs, updateTestRecord_rgs, putTest_rgs]
    · simp only [enterMeasure, setTest_drain, updateTestRecord_drain, putTest_drain]
  · have event : testSettleEvent s = setMainShut .opening (actRequest .main .mainOpen
        (setResult .abortedUnstable s).testReopening) :=
      (if_pos (testExpired_iff.2 ⟨hq, hz⟩)).trans ((if_neg fun c => hk (of_decide_eq_true c)).trans
        (testReopen_moving (s := setResult .abortedUnstable s) hr))
    refine ⟨_, congrArg Host.Outcome.next event, ?_⟩
    rw [setMainShut_lkg, setMainShut_main, actRequest_lkg]
    refine ⟨rfl, rfl, rfl, rfl, ?_, reach_flagSet (reach_setMainShut _ (reach_actRequest _ _ .same)) _ ?_⟩
    · refine target_main ?_ hr
      simp only [State.testReopening, setTest_main, putTest_main, setResult_main]
    · exact flagSet_setTest ..
  · exact congrArg Host.Outcome.next (if_neg (not_testExpired h))
  · exact congrArg Host.Outcome.next (if_neg (not_testExpired h))

end Sys2Proof.Proofs
end

section
/-! PROOFS. RGS, FLT and DRA leave LKG alone while no test waits for the line. -/

namespace Sys2Proof.Machine

variable {s t u : State} {k : Grant}

/-! ### The condition on a change and on a grant -/

/-- A change of the state that leaves LKG alone unless a test waits for the line. -/
structure LkgKept (s t : State) : Prop where
  lkg : s.lkg.test.st ≠ .waiting → t.lkg = s.lkg

theorem LkgKept.of_eq (h : t.lkg = s.lkg) : LkgKept s t := ⟨fun _ => h⟩

theorem LkgKept.refl (s : State) : LkgKept s s := .of_eq rfl

theorem LkgKept.trans (h : LkgKept s u) (g : LkgKept u t) : LkgKept s t :=
  ⟨fun hw => (g.lkg (by rw [h.lkg hw]; exact hw)).trans (h.lkg hw)⟩

theorem LkgKept.after (g : LkgKept u t) (h : u.lkg = s.lkg) : LkgKept s t := (LkgKept.of_eq h).trans g

theorem LkgKept.before (h : LkgKept s u) (g : t.lkg = u.lkg) : LkgKept s t := h.trans (.of_eq g)

theorem LkgKept.ite {p : Prop} [Decidable p] {t' : State} (h : p → LkgKept s t) (h' : ¬ p → LkgKept s t') :
    LkgKept s (if p then t else t') := by
  split
  · exact h ‹_›
  · exact h' ‹_›

/-- What a requester does at its grant leaves LKG alone unless a test waits for the line. -/
def Grant.KeepsLkg (k : Grant) : Prop := ∀ r s, LkgKept s (k r s)

/-! ### SLT, the draw's end and the parts of a step -/

theorem judgeSalt_lkg (s : State) : (judgeSalt s).lkg = s.lkg := by simp [judgeSalt]

theorem sltClose_lkg (v : DrawValues) (warm : Bool) (s : State) : (sltClose v warm s).lkg = s.lkg := by
  unfold sltClose bridgeCheck setBridgeCount
  dsimp only
  repeat' split
  all_goals simp [endRefillUnchecked, judgeSalt_lkg]

theorem closeDraw_lkg (warm : Bool) (s : State) : (closeDraw warm s).lkg = s.lkg := by
  simp [closeDraw, accClosed, sltClose_lkg]

theorem endTank_lkg (st : TankState) (n : Nat) (o : RunOutcome) (s : State) : (endTank st n o s).lkg = s.lkg := by
  unfold endTank
  split <;> simp

theorem keepTank_lkg (st : TankState) (o : RunOutcome) (s : State) : (keepTank st o s).lkg = s.lkg := by
  unfold keepTank
  split
  · exact endTank_lkg ..
  · rfl

theorem offerRgs_lkg (f : FaultKind) (d : Byte) (s : State) : (offerRgs f d s).lkg = s.lkg := by
  unfold offerRgs
  split <;> simp

theorem restoreTank_lkg (x : TankId) (s : State) : (restoreTank x s).lkg = s.lkg := by
  simp [restoreTank, closeDraw_lkg]

theorem judgeTanks_lkg (old : Option Pos) (p : Pos) (s : State) : (judgeTanks old p s).lkg = s.lkg := by
  unfold judgeTanks tankReached tankLeft
  dsimp only
  repeat' split
  all_goals simp

theorem allowanceReport_lkg (r : Requester) (a : Option Nat) (s : State) : (allowanceReport r a s).lkg = s.lkg := by
  rw [allowanceReport_eq]

theorem stopStep_lkg (s : State) : (stopStep s).lkg = s.lkg := by rw [stopStep_eq]

theorem stopBwStep_lkg (s : State) : (stopBwStep s).lkg = s.lkg := by rw [stopBwStep_eq]

theorem enterHeld_lkg (phase : SeqState) (s : State) : (enterHeld phase s).lkg = s.lkg := stopStep_lkg s

theorem enterBwHeld_lkg (phase : SeqState) (s : State) : (enterBwHeld phase s).lkg = s.lkg := stopBwStep_lkg s

theorem startRunning_lkg (x : RegenStep) (s : State) : (startRunning x s).lkg = s.lkg := by
  unfold startRunning
  dsimp only
  split
  all_goals exact allowanceReport_lkg ..

theorem bwRestore_lkg (s : State) : (bwRestore s).lkg = s.lkg := by
  unfold bwRestore
  dsimp only
  split <;> rfl

theorem bwIdle_lkg (s : State) : (bwIdle s).lkg = s.lkg := rfl

/-! ### DRA -/

theorem lkgKept_drainRegrant (hk : k.KeepsLkg) (s : State) : LkgKept s (drainRegrant k s) := by
  unfold drainRegrant
  split
  · split
    · exact (hk ..).after rfl
    · exact .refl s
  · exact .refl s

theorem lkgKept_drainRequest (hk : k.KeepsLkg) (r : Requester) (s : State) : LkgKept s (drainRequest k r s) := by
  rcases drainRequest_cases k r s with ⟨-, e⟩ | ⟨-, e⟩ | ⟨-, -, e⟩ | ⟨-, e⟩ <;> rw [e]
  · exact .refl s
  · exact .refl s
  · exact (hk ..).after rfl
  · exact .of_eq rfl

theorem lkgKept_drainRelease (hk : k.KeepsLkg) (r : Requester) (s : State) : LkgKept s (drainRelease k r s) := by
  unfold drainRelease
  split
  · exact (lkgKept_drainRegrant hk _).after (by simp [drainFreed])
  · split
    · exact .of_eq rfl
    · exact .refl s

/-! ### RGS -/

theorem lkgKept_rgsQueue (hk : k.KeepsLkg) (x : TankId) (trig : RegenTrigger) (prior : TankState) (s : State) :
    LkgKept s (rgsQueue k x trig prior s) := (lkgKept_drainRequest hk ..).after (by simp)

theorem lkgKept_selMoveDone (hk : k.KeepsLkg) (s : State) : LkgKept s (selMoveDone k s) := by
  unfold selMoveDone
  split
  case h_1 => exact .refl s
  case h_2 => exact .ite (fun _ => .of_eq rfl) fun _ => (lkgKept_rgsQueue hk ..).after rfl
  case h_3 => exact .of_eq rfl
  case h_4 => exact .of_eq rfl

theorem selFailed_lkg (s : State) : (selFailed s).lkg = s.lkg := by
  unfold selFailed
  split <;> rfl

theorem lkgKept_startSwap (hk : k.KeepsLkg) (x : TankId) (s : State) : LkgKept s (startSwap k x s) := by
  have asked : (actRequest .selector x.pos (setMove (.swap x) s)).lkg = s.lkg := by simp
  unfold startSwap
  dsimp only
  split
  · exact .of_eq asked
  · exact (lkgKept_selMoveDone hk _).after ((judgeTanks_lkg ..).trans asked)
  · exact .of_eq ((selFailed_lkg _).trans asked)
  · exact .of_eq ((selFailed_lkg _).trans asked)

theorem lkgKept_finish (hk : k.KeepsLkg) (s : State) : LkgKept s (finish k s) := by
  unfold finish swapSeek seekAtNotice
  split
  · split
    · split
      · exact (lkgKept_startSwap hk ..).after rfl
      · exact .of_eq rfl
    · exact .of_eq rfl
  · exact .of_eq rfl

theorem lkgKept_releaseAndFinish (hk : k.KeepsLkg) (s : State) : LkgKept s (releaseAndFinish k s) :=
  (lkgKept_drainRelease hk ..).trans (lkgKept_finish hk _)

theorem lkgKept_parkDone (hk : k.KeepsLkg) (s : State) : LkgKept s (parkDone k s) := by
  unfold parkDone
  split
  · exact (lkgKept_releaseAndFinish hk _).after (restoreTank_lkg ..)
  · exact lkgKept_releaseAndFinish hk s

theorem lkgKept_rgsFault (hk : k.KeepsLkg) (code : Byte) (s : State) : LkgKept s (rgsFault k code s) :=
  (lkgKept_releaseAndFinish hk _).after
    ((offerRgs_lkg ..).trans ((endTank_lkg ..).trans ((closeDraw_lkg ..).trans (stopStep_lkg s))))

theorem lkgKept_rgsRotorFailed (hk : k.KeepsLkg) (code : Byte) (s : State) : LkgKept s (rgsRotorFailed k code s) := by
  unfold rgsRotorFailed
  split
  case h_1 => exact .refl s
  case h_2 => exact .refl s
  case h_3 => exact lkgKept_rgsFault hk code s
  case h_4 => exact lkgKept_rgsFault hk code s
  case h_5 => exact lkgKept_rgsFault hk code s
  case h_6 => exact .ite (fun _ => lkgKept_rgsFault hk code s) fun _ => lkgKept_releaseAndFinish hk s

theorem lkgKept_rgsRotorDone (hk : k.KeepsLkg) (p : Pos) (s : State) : LkgKept s (rgsRotorDone k p s) := by
  unfold rgsRotorDone
  split
  · split
    · exact .ite (fun _ => .ite (fun _ => .of_eq (startRunning_lkg ..)) fun _ => .of_eq (enterHeld_lkg ..))
        fun _ => .refl s
    · exact .refl s
  · exact .ite (fun _ => lkgKept_parkDone hk s) fun _ => .refl s
  · exact .refl s

theorem lkgKept_askStep (hk : k.KeepsLkg) (s : State) : LkgKept s (askStep k s) := by
  unfold askStep
  split
  · rename_i p _
    have asked : (actRequest .regenRotor p s).lkg = s.lkg := actRequest_lkg ..
    unfold rgsRotorAsk
    dsimp only
    split
    · exact .of_eq asked
    · exact (lkgKept_rgsRotorDone hk ..).after asked
    · exact (lkgKept_rgsRotorFailed hk ..).after asked
    · exact (lkgKept_rgsRotorFailed hk ..).after asked
  · exact .refl s

theorem lkgKept_takeStep (hk : k.KeepsLkg) (i : Fin 8) (s : State) : LkgKept s (takeStep k i s) := by
  unfold takeStep enterPositioning
  split
  · exact (lkgKept_askStep hk _).after rfl
  · exact .of_eq (enterHeld_lkg ..)

theorem lkgKept_rgsGranted (hk : k.KeepsLkg) (s : State) : LkgKept s (rgsGranted k s) := by
  unfold rgsGranted
  dsimp only
  split
  · split
    · exact (lkgKept_takeStep hk ..).after rfl
    · have started : LkgKept s s.regenStarted := .of_eq rfl
      exact (started.trans (lkgKept_drainRelease hk .regen _)).trans
        ((lkgKept_finish hk _).after ((closeDraw_lkg ..).trans (keepTank_lkg ..)))
  · exact lkgKept_drainRelease hk ..

theorem lkgKept_rgsResume (hk : k.KeepsLkg) (s : State) : LkgKept s (rgsResume k s) :=
  .ite (fun _ => (lkgKept_askStep hk _).after rfl) fun _ => .refl s

/-! ### FLT -/

theorem lkgKept_bwParkDone (hk : k.KeepsLkg) (s : State) : LkgKept s (bwParkDone k s) :=
  .ite (fun _ => .of_eq rfl) fun _ => ((lkgKept_drainRelease hk ..).after (bwRestore_lkg s)).before rfl

theorem lkgKept_bwFault (hk : k.KeepsLkg) (s : State) : LkgKept s (bwFault k s) :=
  have ended : LkgKept s (bwRecordEnd .faulted (stopBwStep s)) := .of_eq (stopBwStep_lkg s)
  (ended.trans (lkgKept_drainRelease hk .backwash _)).before rfl

theorem lkgKept_bwRotorFailed (hk : k.KeepsLkg) (s : State) : LkgKept s (bwRotorFailed k s) := by
  unfold bwRotorFailed
  split
  case h_1 => exact .refl s
  case h_2 => exact .refl s
  case h_3 => exact lkgKept_bwFault hk s
  case h_4 => exact lkgKept_bwFault hk s
  case h_5 => exact lkgKept_bwFault hk s
  case h_6 => exact .ite (fun _ => .of_eq rfl) fun _ => lkgKept_bwFault hk s

theorem lkgKept_bwRotorDone (hk : k.KeepsLkg) (p : Pos) (s : State) : LkgKept s (bwRotorDone k p s) := by
  unfold bwRotorDone
  split
  · split
    · exact .ite (fun _ => .ite (fun _ => .of_eq (allowanceReport_lkg ..)) fun _ => .of_eq (enterBwHeld_lkg ..))
        fun _ => .refl s
    · exact .refl s
  · exact .ite (fun _ => lkgKept_bwParkDone hk s) fun _ => .refl s
  · exact .refl s

theorem lkgKept_askBwStep (hk : k.KeepsLkg) (s : State) : LkgKept s (askBwStep k s) := by
  unfold askBwStep
  split
  · rename_i x _
    have asked : (actRequest .filterRotor (backwashPos x.pos) s).lkg = s.lkg := actRequest_lkg ..
    unfold bwRotorAsk
    dsimp only
    split
    · exact .of_eq asked
    · exact (lkgKept_bwRotorDone hk ..).after asked
    · exact (lkgKept_bwRotorFailed hk _).after asked
    · exact (lkgKept_bwRotorFailed hk _).after asked
  · exact .refl s

theorem lkgKept_takeBwStep (hk : k.KeepsLkg) (i : Fin 4) (s : State) : LkgKept s (takeBwStep k i s) := by
  unfold takeBwStep enterBwPositioning
  split
  · exact (lkgKept_askBwStep hk _).after rfl
  · exact .of_eq (enterBwHeld_lkg ..)

theorem lkgKept_fltGranted (hk : k.KeepsLkg) (s : State) : LkgKept s (fltGranted k s) := by
  unfold fltGranted
  dsimp only
  split
  · split
    · exact (lkgKept_takeBwStep hk ..).after rfl
    · have started : LkgKept s s.backwashStarted := .of_eq rfl
      exact (started.trans (lkgKept_drainRelease hk .backwash _)).before
        ((bwIdle_lkg _).trans (bwRecordEnd_lkg .cancelled _))
  · exact lkgKept_drainRelease hk ..

theorem lkgKept_fltResume (hk : k.KeepsLkg) (s : State) : LkgKept s (fltResume k s) :=
  .ite (fun _ => (lkgKept_askBwStep hk _).after rfl) fun _ => .refl s

/-! ### The grant -/

theorem lkgKept_testGranted (hk : k.KeepsLkg) (s : State) : LkgKept s (testGranted k s) := ⟨fun hw => by
  rw [testGranted, if_neg hw]
  exact (lkgKept_drainRelease hk _ s).lkg hw⟩

theorem keepsLkg_granted (n : Nat) : (granted n).KeepsLkg := by
  induction n with
  | zero => exact fun _ s => .refl s
  | succ n ih =>
    intro r s
    cases r with
    | regen => exact lkgKept_rgsGranted ih s
    | backwash => exact lkgKept_fltGranted ih s
    | test => exact lkgKept_testGranted ih s

theorem keepsLkg_onGrant : onGrant.KeepsLkg := keepsLkg_granted 16

end Sys2Proof.Machine
end

section
/-! PROOFS. The runs held and resumed, apart from what brings it about. -/

namespace Sys2Proof.Machine

variable {s s' t t' : State} {k : Grant}

/-! ### Held (R112, R143) -/

/-- `t` is `s` with both runs held, as far as the runs, the line and the brine phase are concerned. -/
structure RunsHeld (s t : State) : Prop where
  rgs : t.rgs = s.rgs.held
  flt : t.flt = s.flt.held
  regen : s.rgs.seq = .positioning ∨ s.rgs.seq = .running → t.flagSet .regen
  filter : s.flt.st = .positioning ∨ s.flt.st = .running → t.flagSet .filter
  phase : s.rgs.seq = .running → t.acc.phase = .none
  regenAllowance : s.rgs.seq = .running → s.drain.holder = some .regen → t.drain.allowance = 0 ∧ t.drain.kind = none
  bwAllowance : s.flt.st = .running → s.drain.holder = some .backwash → t.drain.allowance = 0 ∧ t.drain.kind = none
  holder : t.drain.holder = s.drain.holder

/-- A report of one that does not hold the line is not taken. -/
theorem stopBwStep_drain_other (h : s.drain.holder ≠ some .backwash) : (stopBwStep s).drain = s.drain := by
  unfold stopBwStep
  split
  · rw [allowanceReport_drain, if_neg h]
  · rfl

theorem runsHeld_heldRuns (s : State) : RunsHeld s (heldRuns s) := by
  have regen := rgsHold_eq s
  have flt : (rgsHold s).flt = s.flt := by rw [regen]
  have holder : (rgsHold s).drain.holder = s.drain.holder := by
    rw [congrArg State.drain regen, stopStep_drain_eq]
  have drain : (heldRuns s).drain = (stopBwStep (rgsHold s)).drain := by rw [heldRuns, fltHold_eq]
  have acc : (heldRuns s).acc = (stopBwStep (rgsHold s)).acc := by rw [heldRuns, fltHold_eq]
  exact {
    rgs := by rw [heldRuns_eq]
    flt := by rw [heldRuns_eq]
    regen := fun h => reach_flagSet (reach_fltHold .same) _ (flagSet_rgsHold h)
    filter := fun h => flagSet_fltHold (by rw [flt]; exact h)
    phase := fun h => by
      rw [acc, stopBwStep_acc_phase, congrArg State.acc regen]
      exact (stopStep_running h).1
    regenAllowance := fun h hh => by
      rw [drain, stopBwStep_drain_other (by rw [holder, hh]; exact nofun), congrArg State.drain regen]
      exact (stopStep_running h).2 hh
    bwAllowance := fun h hh => by
      rw [drain]
      exact stopBwStep_running (by rw [flt]; exact h) (by rw [holder]; exact hh)
    holder := by rw [heldRuns_eq] }

theorem RunsHeld.congr (h : RunsHeld s t) (hr : s'.rgs = s.rgs) (hf : s'.flt = s.flt)
    (hd : s'.drain.holder = s.drain.holder) (hr' : t'.rgs = t.rgs) (hf' : t'.flt = t.flt) (hd' : t'.drain = t.drain)
    (ha' : t'.acc = t.acc) (flags : ∀ f, t.flagSet f → t'.flagSet f) : RunsHeld s' t' where
  rgs := by rw [hr', hr]; exact h.rgs
  flt := by rw [hf', hf]; exact h.flt
  regen := by rw [hr]; exact fun c => flags _ (h.regen c)
  filter := by rw [hf]; exact fun c => flags _ (h.filter c)
  phase := by rw [hr, ha']; exact h.phase
  regenAllowance := by rw [hr, hd, hd']; exact h.regenAllowance
  bwAllowance := by rw [hf, hd, hd']; exact h.bwAllowance
  holder := by rw [hd, hd']; exact h.holder

/-! ### Resumed (R112, R143) -/

/-- Both runs resumed, if they are HELD and supplied. -/
def resumedRuns (k : Grant) (s : State) : State := fltResume k (rgsResume k s)

theorem rgsResume_idle (h : s.rgs.seq ≠ .held) : rgsResume k s = s := if_neg fun c => h c.1

theorem fltResume_idle (h : s.flt.st ≠ .held) : fltResume k s = s := if_neg fun c => h c.1

theorem resumedRuns_unsupplied (h : s.supplied = false) : resumedRuns k s = s := by
  have shut : ¬ s.supplied = true := by rw [h]; exact nofun
  rw [resumedRuns, rgsResume, if_neg fun c => shut c.2, fltResume, if_neg fun c => shut c.2]

theorem rgsResume_moving {i : Fin 8} (hq : s.rgs.seq = .held) (hs : s.supplied = true) (hi : s.rgs.run.step = some i)
    (hr : s.answer .regenRotor (regenPos s.rgs.snapshot[i].pos) = .moving) : rgsResume k s =
    actRequest .regenRotor (regenPos s.rgs.snapshot[i].pos) (setSeq .positioning s) := by
  have pos : (setSeq .positioning s).regenStepPos = some (regenPos s.rgs.snapshot[i].pos) := by
    simp [State.regenStepPos, State.regenStep, hi]
  rw [rgsResume, if_pos ⟨hq, hs⟩, askStep, pos]
  exact rgsRotorAsk_moving hr

theorem rgsRotorAsk_completed {p : Pos} (h : s.answer .regenRotor p = .completed) :
    rgsRotorAsk k p s = rgsRotorDone k p (actRequest .regenRotor p s) := by simp only [rgsRotorAsk, h]

theorem bwRotorAsk_completed {p : Pos} (h : s.answer .filterRotor p = .completed) :
    bwRotorAsk k p s = bwRotorDone k p (actRequest .filterRotor p s) := by simp only [bwRotorAsk, h]

/-- A completion at the position of the step in POSITIONING (R109). -/
theorem rgsRotorDone_running {i : Fin 8} (hq : s.rgs.seq = .positioning) (hi : s.rgs.run.step = some i)
    (hs : s.supplied = true) :
    rgsRotorDone k (regenPos s.rgs.snapshot[i].pos) s = startRunning s.rgs.snapshot[i] s := by
  have current : s.regenStep = some s.rgs.snapshot[i] := by rw [State.regenStep, hi]; rfl
  unfold rgsRotorDone
  simp only [hq, current, hs, if_true]

/-- A completion at the position of the step in POSITIONING (R142). -/
theorem bwRotorDone_running {i : Fin 4} (hq : s.flt.st = .positioning) (hi : s.flt.run.step = some i)
    (hs : s.supplied = true) : bwRotorDone k (backwashPos s.flt.snapshot[i].pos) s =
      setFlt .running (allowanceReport .backwash (some s.flt.snapshot[i].allowance) s) := by
  have current : s.bwStep = some s.flt.snapshot[i] := by rw [State.bwStep, hi]; rfl
  unfold bwRotorDone
  simp only [hq, current, hs, if_true]

theorem supplied_actRequest (a : Actr) (p : Pos) (s : State) : (actRequest a p s).supplied = s.supplied := by
  simp only [State.supplied, State.mainOpen, actRequest_lkg, actRequest_link]

theorem rgsResume_completed {i : Fin 8} (hq : s.rgs.seq = .held) (hs : s.supplied = true)
    (hi : s.rgs.run.step = some i) (hr : s.answer .regenRotor (regenPos s.rgs.snapshot[i].pos) = .completed) :
    rgsResume k s = startRunning s.rgs.snapshot[i]
      (actRequest .regenRotor (regenPos s.rgs.snapshot[i].pos) (setSeq .positioning s)) := by
  have pos : (setSeq .positioning s).regenStepPos = some (regenPos s.rgs.snapshot[i].pos) := by
    simp [State.regenStepPos, State.regenStep, hi]
  have rgs : (actRequest .regenRotor (regenPos s.rgs.snapshot[i].pos) (setSeq .positioning s)).rgs =
      { s.rgs with seq := .positioning } := by rw [actRequest_rgs, setSeq_rgs]
  have done := rgsRotorDone_running (k := k) (i := i) (by rw [rgs]) (by rw [rgs]; exact hi)
    ((supplied_actRequest .regenRotor (regenPos s.rgs.snapshot[i].pos) (setSeq .positioning s)).trans hs)
  rw [rgs] at done
  rw [rgsResume, if_pos ⟨hq, hs⟩, askStep, pos]
  exact (rgsRotorAsk_completed (s := setSeq .positioning s) hr).trans done

theorem fltResume_moving {i : Fin 4} (hq : s.flt.st = .held) (hs : s.supplied = true) (hi : s.flt.run.step = some i)
    (hr : s.answer .filterRotor (backwashPos s.flt.snapshot[i].pos) = .moving) : fltResume k s =
    actRequest .filterRotor (backwashPos s.flt.snapshot[i].pos) (setFlt .positioning s) := by
  have step : (setFlt .positioning s).bwStep = some s.flt.snapshot[i] := by simp [State.bwStep, hi]
  rw [fltResume, if_pos ⟨hq, hs⟩, askBwStep, step]
  exact bwRotorAsk_moving hr

theorem fltResume_completed {i : Fin 4} (hq : s.flt.st = .held) (hs : s.supplied = true)
    (hi : s.flt.run.step = some i) (hr : s.answer .filterRotor (backwashPos s.flt.snapshot[i].pos) = .completed) :
    fltResume k s = setFlt .running (allowanceReport .backwash (some s.flt.snapshot[i].allowance)
      (actRequest .filterRotor (backwashPos s.flt.snapshot[i].pos) (setFlt .positioning s))) := by
  have step : (setFlt .positioning s).bwStep = some s.flt.snapshot[i] := by simp [State.bwStep, hi]
  have flt : (actRequest .filterRotor (backwashPos s.flt.snapshot[i].pos) (setFlt .positioning s)).flt =
      { s.flt with st := .positioning } := by rw [actRequest_flt, setFlt_flt]
  have done := bwRotorDone_running (k := k) (i := i) (by rw [flt]) (by rw [flt]; exact hi)
    ((supplied_actRequest .filterRotor (backwashPos s.flt.snapshot[i].pos) (setFlt .positioning s)).trans hs)
  rw [flt] at done
  rw [fltResume, if_pos ⟨hq, hs⟩, askBwStep, step]
  exact (bwRotorAsk_completed (s := setFlt .positioning s) hr).trans done

theorem startRunning_rgs (x : RegenStep) (s : State) : (startRunning x s).rgs = { s.rgs with
    seq := .running, run := { s.rgs.run with
      fromStart := false, drawBegun := s.rgs.run.drawBegun || decide (x.pos = .brineDraw) } } := by
  have report : (allowanceReport .regen (some x.allowance) s).rgs = s.rgs := by rw [allowanceReport_eq]
  unfold startRunning refillStart
  dsimp only
  split <;> simp only [setSeq_rgs, setRegenRun_rgs, report]

theorem startRunning_drain (x : RegenStep) (s : State) :
    (startRunning x s).drain = (allowanceReport .regen (some x.allowance) s).drain := by
  unfold startRunning refillStart
  dsimp only
  split <;> rfl

theorem startRunning_flt (x : RegenStep) (s : State) : (startRunning x s).flt = s.flt := by
  have report : (allowanceReport .regen (some x.allowance) s).flt = s.flt := by rw [allowanceReport_eq]
  unfold startRunning refillStart
  dsimp only
  split <;> exact report

theorem flagSet_startRunning (x : RegenStep) (s : State) : (startRunning x s).flagSet .regen := flagSet_raise _ _

theorem brineDraw_iff (x : RegenPos) : regenPos x = .brineDraw ↔ x = .brineDraw := by cases x <;> decide

/-- `t` is `s` with a HELD run resumed, as far as the runs, the line and the rotors' targets are concerned. -/
structure RunsResumed (s t : State) : Prop where
  regenMoving : ∀ i : Fin 8, s.rgs.seq = .held → s.flt.st ≠ .held → s.rgs.run.step = some i →
    s.answer .regenRotor (regenPos s.rgs.snapshot[i].pos) = .moving →
    t.rgs = { s.rgs with seq := .positioning } ∧ t.flagSet .regen
      ∧ t.regenRotor.run.target = some (regenPos s.rgs.snapshot[i].pos) ∧ t.drain = s.drain ∧ t.flt = s.flt
  regenCompleted : ∀ i : Fin 8, s.rgs.seq = .held → s.flt.st ≠ .held → s.rgs.run.step = some i →
    s.answer .regenRotor (regenPos s.rgs.snapshot[i].pos) = .completed →
    t.flagSet .regen ∧ t.rgs = { s.rgs with
        seq := .running, run := { s.rgs.run with
          fromStart := false
          drawBegun := s.rgs.run.drawBegun || decide (regenPos s.rgs.snapshot[i].pos = .brineDraw) } }
      ∧ t.drain.holder = s.drain.holder
      ∧ (s.drain.holder = some .regen →
          t.drain.allowance = s.rgs.snapshot[i].allowance ∧ t.drain.kind = some .regen)
  bwMoving : ∀ i : Fin 4, s.flt.st = .held → s.rgs.seq ≠ .held → s.flt.run.step = some i →
    s.answer .filterRotor (backwashPos s.flt.snapshot[i].pos) = .moving →
    t.flt = { s.flt with st := .positioning } ∧ t.flagSet .filter
      ∧ t.filterRotor.run.target = some (backwashPos s.flt.snapshot[i].pos) ∧ t.drain = s.drain ∧ t.rgs = s.rgs
  bwCompleted : ∀ i : Fin 4, s.flt.st = .held → s.rgs.seq ≠ .held → s.flt.run.step = some i →
    s.answer .filterRotor (backwashPos s.flt.snapshot[i].pos) = .completed →
    t.flt = { s.flt with st := .running } ∧ t.flagSet .filter ∧ t.drain.holder = s.drain.holder
      ∧ (s.drain.holder = some .backwash →
          t.drain.allowance = s.flt.snapshot[i].allowance ∧ t.drain.kind = some .backwash)
  still : s.rgs.seq ≠ .held → s.flt.st ≠ .held → t.rgs = s.rgs ∧ t.flt = s.flt

/-- The line after its holder's report. -/
theorem reported_drain {r : Requester} {n : Nat} {d : Drain} (h : t.drain = (allowanceReport r (some n) s).drain)
    (e : s.drain = d) : t.drain.holder = d.holder
      ∧ (d.holder = some r → t.drain.allowance = n ∧ t.drain.kind = some r) := by
  subst e
  rw [h, allowanceReport_drain]
  split
  · exact ⟨rfl, fun _ => ⟨rfl, rfl⟩⟩
  · exact ⟨rfl, fun c => absurd c ‹_›⟩

theorem runsResumed_resumedRuns (hs : s.supplied = true) : RunsResumed s (resumedRuns k s) where
  regenMoving := fun i hq hf hi hr => by
    rw [resumedRuns, rgsResume_moving hq hs hi hr, fltResume_idle (by rw [actRequest_flt]; exact hf)]
    simp only [actRequest_rgs, actRequest_drain, actRequest_flt, flagSet_actRequest, setSeq_rgs, setSeq_drain,
      setSeq_flt]
    exact ⟨trivial, flagSet_raise _ _, target_actRequest (a := .regenRotor) hr, trivial, trivial⟩
  regenCompleted := fun i hq hf hi hr => by
    rw [resumedRuns, rgsResume_completed hq hs hi hr,
      fltResume_idle (by rw [startRunning_flt, actRequest_flt]; exact hf)]
    refine ⟨flagSet_startRunning .., ?_, reported_drain (startRunning_drain ..) ?_⟩
    · simp only [startRunning_rgs, actRequest_rgs, setSeq_rgs, brineDraw_iff]
    · rw [actRequest_drain, setSeq_drain]
  bwMoving := fun i hf hq hi hr => by
    rw [resumedRuns, rgsResume_idle hq, fltResume_moving hf hs hi hr]
    simp only [actRequest_rgs, actRequest_drain, actRequest_flt, flagSet_actRequest, setFlt_rgs, setFlt_drain,
      setFlt_flt]
    exact ⟨trivial, flagSet_raise _ _, target_actRequest (a := .filterRotor) hr, trivial, trivial⟩
  bwCompleted := fun i hf hq hi hr => by
    rw [resumedRuns, rgsResume_idle hq, fltResume_completed hf hs hi hr]
    refine ⟨?_, flagSet_raise _ _, reported_drain (setFlt_drain ..) ?_⟩
    · rw [setFlt_flt, allowanceReport_eq, actRequest_flt, setFlt_flt]
    · rw [actRequest_drain, setFlt_drain]
  still := fun hq hf => by
    rw [resumedRuns, rgsResume_idle hq, fltResume_idle hf]
    exact ⟨rfl, rfl⟩

end Sys2Proof.Machine
end

section
/-! PROOFS. What holds the runs and what resumes them. -/

namespace Sys2Proof.Machine

variable {s s' t t' : State} {k : Grant}

/-! ### The runs' surroundings -/

/-- What a resumption starts from is the same in both states. -/
structure SameRuns (s s' : State) : Prop where
  rgs : s'.rgs = s.rgs
  flt : s'.flt = s.flt
  drain : s'.drain = s.drain
  regenRotor : s'.regenRotor = s.regenRotor
  filterRotor : s'.filterRotor = s.filterRotor

/-- What a resumption leaves is the same in both states, and no flag is lost. -/
structure SameOutcome (t t' : State) : Prop where
  rgs : t'.rgs = t.rgs
  flt : t'.flt = t.flt
  drain : t'.drain = t.drain
  regenTarget : t'.regenRotor.run.target = t.regenRotor.run.target
  filterTarget : t'.filterRotor.run.target = t.filterRotor.run.target
  flags : ∀ f, t.flagSet f → t'.flagSet f

theorem SameOutcome.trans {u : State} (h : SameOutcome s t) (g : SameOutcome t u) : SameOutcome s u :=
  ⟨g.rgs.trans h.rgs, g.flt.trans h.flt, g.drain.trans h.drain, g.regenTarget.trans h.regenTarget,
    g.filterTarget.trans h.filterTarget, fun f c => g.flags f (h.flags f c)⟩

theorem SameRuns.regenAnswer (h : SameRuns s s') (p : Pos) : s'.answer .regenRotor p = s.answer .regenRotor p := by
  have same : s'.act .regenRotor = s.act .regenRotor := h.regenRotor
  rw [State.answer, same, State.answer]

theorem SameRuns.filterAnswer (h : SameRuns s s') (p : Pos) : s'.answer .filterRotor p = s.answer .filterRotor p := by
  have same : s'.act .filterRotor = s.act .filterRotor := h.filterRotor
  rw [State.answer, same, State.answer]

theorem RunsResumed.congr (h : RunsResumed s t) (hs : SameRuns s' s) (ht : SameOutcome t t') : RunsResumed s' t' where
  regenMoving := by
    rw [← hs.rgs, ← hs.flt, ← hs.drain, ht.rgs, ht.flt, ht.drain, ht.regenTarget]
    intro i hq hf hi hr
    obtain ⟨rgs, flag, target, drain, flt⟩ := h.regenMoving i hq hf hi ((hs.regenAnswer _).trans hr)
    exact ⟨rgs, ht.flags _ flag, target, drain, flt⟩
  regenCompleted := by
    rw [← hs.rgs, ← hs.flt, ← hs.drain, ht.rgs, ht.drain]
    intro i hq hf hi hr
    obtain ⟨flag, rest⟩ := h.regenCompleted i hq hf hi ((hs.regenAnswer _).trans hr)
    exact ⟨ht.flags _ flag, rest⟩
  bwMoving := by
    rw [← hs.rgs, ← hs.flt, ← hs.drain, ht.rgs, ht.flt, ht.drain, ht.filterTarget]
    intro i hf hq hi hr
    obtain ⟨flt, flag, target, drain, rgs⟩ := h.bwMoving i hf hq hi ((hs.filterAnswer _).trans hr)
    exact ⟨flt, ht.flags _ flag, target, drain, rgs⟩
  bwCompleted := by
    rw [← hs.rgs, ← hs.flt, ← hs.drain, ht.flt, ht.drain]
    intro i hf hq hi hr
    obtain ⟨flt, flag, rest⟩ := h.bwCompleted i hf hq hi ((hs.filterAnswer _).trans hr)
    exact ⟨flt, ht.flags _ flag, rest⟩
  still := by
    rw [← hs.rgs, ← hs.flt, ht.rgs, ht.flt]
    exact h.still

/-! ### The field link stale (R112, R143) -/

theorem sameOutcome_emissionTrigger (s : State) : SameOutcome s (emissionTrigger s) := by
  have flags : ∀ f, s.flagSet f → (emissionTrigger s).flagSet f := fun f h => by rw [flagSet_emissionTrigger]; exact h
  rw [emissionTrigger_eq] at flags ⊢
  exact ⟨rfl, rfl, rfl, rfl, rfl, flags⟩

theorem lkgStale_idle (h : s.lkg.test.st = .idle) :
    lkgStale k s = { s with lkg := { s.lkg with lossTimer := 0, lostDue := false, lostDone := false } } := by
  simp only [lkgStale, testStale, h]

theorem emissionTrigger_acc (s : State) : (emissionTrigger s).acc = s.acc := by rw [emissionTrigger_eq]; rfl

theorem runsHeld_emissionTrigger (h : RunsHeld s t) : RunsHeld s (emissionTrigger t) :=
  have trigger := sameOutcome_emissionTrigger t
  h.congr rfl rfl rfl trigger.rgs trigger.flt trigger.drain (emissionTrigger_acc t) trigger.flags

theorem runsHeld_lkgStale (ht : s.lkg.test.st = .idle) : RunsHeld s (lkgStale k (heldRuns s)) := by
  have lkg : (heldRuns s).lkg = s.lkg := by rw [heldRuns_eq]
  rw [lkgStale_idle (by rw [lkg]; exact ht)]
  exact (runsHeld_heldRuns s).congr rfl rfl rfl rfl rfl rfl rfl fun _ => id

theorem runsHeld_fieldStaleEvent (hf : s.link.fieldFresh = true) (hm : 250 ≤ s.link.fieldMissing)
    (ht : s.lkg.test.st = .idle) : RunsHeld s (fieldStaleEvent s) := by
  have parts := eq_of_offTracks (trkStale_offTracks (fieldGone s))
  have lkg : (trkStale (fieldGone s)).lkg = s.lkg := by rw [parts]; rfl
  have rgs : (trkStale (fieldGone s)).rgs = s.rgs := by rw [parts]; rfl
  have flt : (trkStale (fieldGone s)).flt = s.flt := by rw [parts]; rfl
  have drain : (trkStale (fieldGone s)).drain = s.drain := by rw [parts]; rfl
  have held : RunsHeld (trkStale (fieldGone s)) (staleNotices (fieldGone s)) :=
    runsHeld_lkgStale (by rw [lkg]; exact ht)
  rw [fieldStaleEvent_due hf hm]
  exact runsHeld_emissionTrigger
    (held.congr rgs.symm flt.symm (congrArg Drain.holder drain).symm rfl rfl rfl rfl fun _ => id)

/-! ### CLOSE_MAIN (R149) -/

theorem testStop_idle {r : TestResult} (h : s.lkg.test.st = .idle) : testStop k r s = s := by
  simp only [testStop, h]

theorem closeMainFor_completed {r : CloseReason} (h : s.answer .main .mainClosed = .completed) :
    closeMainFor k r s = setMainShut (.closed r) (actRequest .main .mainClosed s) := by simp only [closeMainFor, h]

theorem closeMainTaken_opened (hm : s.lkg.main = .opened) (ht : s.lkg.test.st = .idle)
    (h : s.answer .main .mainClosed = .moving ∨ s.answer .main .mainClosed = .completed) :
    ∃ m, closeMainTaken k s = heldRuns (setMain m (actRequest .main .mainClosed s)) := by
  have main : (actRequest .main .mainClosed s).lkg.main = .opened := by rw [actRequest_lkg]; exact hm
  have act : closeMainAct k s = closeMainFor k .manual s := by simp only [closeMainAct, hm]
  obtain ⟨m, shut⟩ : ∃ m, closeMainFor k .manual s = setMainShut m (actRequest .main .mainClosed s) :=
    h.elim (fun c => ⟨_, closeMainFor_moving c⟩) fun c => ⟨_, closeMainFor_completed c⟩
  refine ⟨m, ?_⟩
  rw [closeMainTaken, act, shut, testStop_idle (by rw [setMainShut_lkg, actRequest_lkg]; exact ht),
    setMainShut_opened main]

/-! ### The main's arrival at OPEN (R148) -/

theorem lkgKept_resumedRuns (s : State) : LkgKept s (resumedRuns onGrant s) :=
  (lkgKept_rgsResume keepsLkg_onGrant s).trans (lkgKept_fltResume keepsLkg_onGrant _)

/-- MAIN at its target, and the main OPEN. -/
def State.mainArrived (s : State) : State := setMain .opened (enterPosition .main .mainOpen s)

theorem mainArrived_lkg (s : State) : s.mainArrived.lkg = { s.lkg with main := .opened } := setMain_lkg ..

theorem arrivalEvent_opened {n : Nat} (hr : s.main.run.st = .moving .mainOpen n)
    (hp : s.main.run.recognised = some .mainOpen) (hm : s.lkg.main = .opening) (ht : s.lkg.test.st = .idle)
    (hd : s.drain.holder ≠ none ∨ s.noneWaits) : arrivalEvent .main s = resumedRuns onGrant s.mainArrived := by
  have due : arrivalDue (s.act .main) = some .mainOpen :=
    (arrivalDue_target (x := s.main) (target_of_moving (.inl hr))).trans (if_pos hp)
  have drain : s.mainArrived.drain = s.drain := setMain_drain ..
  have idle : drainRegrant onGrant s.mainArrived = s.mainArrived :=
    drainRegrant_idle (.inr (by rw [State.noneWaits, drain]; exact hd))
  have opened : setMainOpen onGrant (enterPosition .main .mainOpen s) = resumedRuns onGrant s.mainArrived := by
    have shut : ¬ (enterPosition .main .mainOpen s).lkg.main = .opened := fun c => absurd (c.symm.trans hm) nofun
    rw [setMainOpen, if_neg shut, ← State.mainArrived, idle, resumedRuns]
  have done : mainDone onGrant .mainOpen (enterPosition .main .mainOpen s) =
      testOpened onGrant (resumedRuns onGrant s.mainArrived) := by
    have opening : (enterPosition .main .mainOpen s).lkg.main = .opening := hm
    simp only [mainDone, opening, opened]
  have test : s.mainArrived.lkg.test.st = .idle := by rw [mainArrived_lkg]; exact ht
  have kept := (lkgKept_resumedRuns s.mainArrived).lkg (by rw [test]; exact nofun)
  refine (arrivalEvent_due due).trans (done.trans (if_neg fun c => ?_))
  obtain ⟨reopening, -⟩ := c
  rw [kept, test] at reopening
  cases reopening

/-! ### A good field frame (R2, R4) -/

/-- Reading the feedback moves no actuator (R60 to R62). -/
theorem judgePosition_st (b : Bool) (r : ActuatorRun) : (judgePosition b r).st = r.st := by
  unfold judgePosition
  split <;> rfl

theorem readFeedback_st (outs : Vector LaneOut 32) (a : Actr) (x : Actuator) :
    (readFeedback s outs a x).st = x.run.st := by
  unfold readFeedback
  split <;> rfl

theorem actFrame_st (outs : Vector LaneOut 32) (a b : Actr) (s : State) :
    ((actFrame s outs a).act b).run.st = (s.act b).run.st := by
  unfold actFrame
  dsimp only
  split
  · by_cases h : b = a
    · subst h
      rw [setAct_act_self]
      exact (judgePosition_st ..).trans (readFeedback_st ..)
    · rw [setAct_act_other _ _ _ _ h]
  · rfl

theorem actsFrame_st (outs : Vector LaneOut 32) (b : Actr) (s : State) :
    ((actsFrame outs s).act b).run.st = (s.act b).run.st :=
  List.foldlRecOn (motive := fun (t : State) => (t.act b).run.st = (s.act b).run.st) _ _ rfl
    fun _ ht a _ => (actFrame_st outs a b _).trans ht

theorem target_of_st {x y : ActuatorRun} (h : x.st = y.st) : x.target = y.target := by
  simp only [ActuatorRun.target, h]

theorem mchFrame_lxFrame_act (slots : Vector Byte 20) (b : Actr) (s : State) :
    (mchFrame (laneOuts s.lanes slots) (lxFrame slots s)).act b = s.act b := by
  cases b <;> simp only [State.act, mchFrame_lxFrame]

theorem framed_st (slots : Vector Byte 20) (b : Actr) (s : State) :
    ((framed slots s).act b).run.st = (s.act b).run.st :=
  (actsFrame_st ..).trans (congrArg (fun x : Actuator => x.run.st) (mchFrame_lxFrame_act slots b s))

theorem sameOutcome_framed (slots : Vector Byte 20) (s : State) : SameOutcome s (framed slots s) := by
  have regen := target_of_st (framed_st slots .regenRotor s)
  have filter := target_of_st (framed_st slots .filterRotor s)
  obtain ⟨a, b, c, d, e⟩ := framed_eq slots s
  refine ⟨by rw [e], by rw [e], by rw [e], regen, filter, fun f h => ?_⟩
  rw [e]
  exact reach_flagSet (reach_raiseIf (anyMisaligned s.lanes slots) .lane .same) f h

/-- No enabled rule is of kind MOISTURE or SILENCE. -/
def State.noZoneRule (s : State) : Prop := ∀ i : Fin 16, s.lkg.rules[i].conf.enabled = true →
  s.lkg.rules[i].conf.kind ≠ .moisture ∧ s.lkg.rules[i].conf.kind ≠ .silence

theorem judgeZoneRules_none (h : s.noZoneRule) : judgeZoneRules k s = s :=
  List.foldlRecOn (motive := fun t => t = s) _ _ rfl fun t ht i _ => by
    subst ht
    refine if_neg fun c => ?_
    obtain ⟨enabled, kind⟩ := c
    obtain ⟨moisture, silence⟩ := h i enabled
    exact kind.elim moisture silence

theorem sameOutcome_raise (f : Flag) (s : State) : SameOutcome s (raise f s) :=
  ⟨rfl, rfl, rfl, rfl, rfl, fun g h => reach_flagSet (reach_raise f .same) g h⟩

theorem sameOutcome_raiseIf (b : Bool) (f : Flag) (s : State) : SameOutcome s (raiseIf b f s) := by
  cases b
  · exact ⟨rfl, rfl, rfl, rfl, rfl, fun _ => id⟩
  · exact sameOutcome_raise f s

theorem sameOutcome_lkg (l : Lkg) (s : State) : SameOutcome s { s with lkg := l } :=
  ⟨rfl, rfl, rfl, rfl, rfl, fun _ => id⟩

theorem raiseIf_noZoneRule {b : Bool} {f : Flag} (h : s.noZoneRule) : (raiseIf b f s).noZoneRule := by
  rw [State.noZoneRule, raiseIf_lkg]
  exact h

theorem sameOutcome_moistureSample (h : s.noZoneRule) (v : Nat) : SameOutcome s (moistureSample k v s) := by
  unfold moistureSample
  split
  · split
    · have stored : ∀ i z, (setZone i z s).noZoneRule := fun _ _ => h
      unfold zoneReport
      dsimp only
      rw [judgeZoneRules_none (raiseIf_noZoneRule (stored _ _))]
      exact (sameOutcome_lkg ..).trans (sameOutcome_raiseIf ..)
    · exact sameOutcome_lkg s.lkg s
  · exact (sameOutcome_lkg ..).trans (sameOutcome_raise ..)

theorem sameOutcome_moistureFrame (h : s.noZoneRule) (outs : Vector LaneOut 32) :
    SameOutcome s (moistureFrame outs s) := by
  unfold moistureFrame
  split
  · exact sameOutcome_moistureSample h _
  · exact sameOutcome_lkg s.lkg s

/-- The state in which the runs are resumed by a good frame: the link FRESH again, and the trackers informed (R4). -/
def State.freshened (s : State) : State := trkFresh (fieldBack (frameCounted s))

theorem freshened_eq (s : State) : s.freshened = { fieldBack (frameCounted s) with
    trackers := s.freshened.trackers, slt := s.freshened.slt
    mgu := { (fieldBack (frameCounted s)).mgu with changes := s.freshened.mgu.changes } } :=
  eq_of_offTracks (trkFresh_offTracks _)

theorem sameRuns_freshened (s : State) : SameRuns s s.freshened := by
  rw [freshened_eq]
  exact ⟨rfl, rfl, rfl, rfl, rfl⟩

theorem supplied_freshened (s : State) : s.freshened.supplied = s.mainOpen := by
  rw [freshened_eq]
  exact Bool.and_true _

theorem noZoneRule_linkFresh (h : s.noZoneRule) : (linkFresh (frameCounted s)).noZoneRule := by
  have rules (x : State) : x.lkg.rules = x.guarded.rules := rfl
  rw [State.noZoneRule, rules, guarded_linkFresh]
  exact h

theorem noZoneRule_framed (slots : Vector Byte 20) (h : s.noZoneRule) : (framed slots s).noZoneRule := by
  obtain ⟨a, b, c, d, e⟩ := framed_eq slots s
  have lkg : (framed slots s).lkg = s.lkg := by rw [e]
  rw [State.noZoneRule, lkg]
  exact h

theorem sameOutcome_fieldFrame (slots : Vector Byte 20) (hf : s.link.fieldFresh = false) (hz : s.noZoneRule) :
    SameOutcome (resumedRuns onGrant s.freshened) (fieldFrame slots s) := by
  have notices : linkFresh (frameCounted s) = lkgFresh (resumedRuns onGrant s.freshened) :=
    linkFresh_stale (s := frameCounted s) hf
  have fresh : SameOutcome (resumedRuns onGrant s.freshened) (linkFresh (frameCounted s)) := by
    rw [notices]
    exact (sameOutcome_lkg _ _).trans (sameOutcome_lkg _ _)
  have kept (v : State) : SameOutcome v (frameKept slots v) := ⟨rfl, rfl, rfl, rfl, rfl, fun _ => id⟩
  have rules : (frameKept slots (linkFresh (frameCounted s))).noZoneRule := noZoneRule_linkFresh hz
  rw [fieldFrame_eq, lanesFrame_eq]
  exact (((fresh.trans (kept _)).trans (sameOutcome_framed slots _)).trans
    (sameOutcome_moistureFrame (noZoneRule_framed slots rules) _)).trans (sameOutcome_emissionTrigger _)

end Sys2Proof.Machine

namespace Sys2Proof.Proofs
open Sys2Proof Sys2Proof.Machine

/-- Settles O32: each event is a hold or a resumption of both runs, with surroundings that do not touch them. -/
theorem runsAreHeldAndResumed : Obligations.RunsAreHeldAndResumed := by
  unfold Obligations.RunsAreHeldAndResumed
  intro held resumed
  have held_of (s t : State) (h : RunsHeld s t) : held s t :=
    ⟨fun c => ⟨h.regen c, h.rgs.trans (if_pos c)⟩, fun c c' => h.rgs.trans (if_neg (not_or.2 ⟨c, c'⟩)),
      fun c => ⟨h.phase c, h.regenAllowance c⟩, fun c => ⟨h.filter c, h.flt.trans (if_pos c)⟩,
      fun c c' => h.flt.trans (if_neg (not_or.2 ⟨c, c'⟩)), h.bwAllowance, h.holder⟩
  have resumed_of (s t : State) (h : RunsResumed s t) : resumed s t :=
    ⟨fun i hq hf hi => ⟨h.regenMoving i hq hf hi, h.regenCompleted i hq hf hi⟩,
      fun i hf hq hi => ⟨h.bwMoving i hf hq hi, h.bwCompleted i hf hq hi⟩, h.still⟩
  refine ⟨fun s hf hm ht => ?stale, fun tag s hs ht hm hr => ?close, fun n s hr hp hm ht hd => ?arrival, ?frame⟩
  case stale => exact ⟨_, rfl, held_of _ _ (runsHeld_fieldStaleEvent hf hm ht)⟩
  case close =>
    obtain ⟨m, taken⟩ := closeMainTaken_opened (k := onGrant) hm ht hr
    have run := exec_effect hs (c := .closeMain tag) (h := closeMainCmd) (st := closeStatus s)
      (f := closeMainTaken onGrant) rfl rfl
    rw [taken] at run
    refine ⟨_, run, held_of _ _ ((runsHeld_heldRuns _).congr ?_ ?_ ?_ rfl rfl rfl rfl fun _ => id)⟩
    · rw [setMain_rgs, actRequest_rgs]
    · rw [setMain_flt, actRequest_flt]
    · rw [setMain_drain, actRequest_drain]
  case arrival =>
    have same : SameRuns s s.mainArrived := by
      refine ⟨?_, ?_, ?_, ?_, ?_⟩
      · exact setMain_rgs ..
      · exact setMain_flt ..
      · exact setMain_drain ..
      · exact setMain_regenRotor ..
      · exact setMain_filterRotor ..
    have lkg := mainArrived_lkg s
    have link : s.mainArrived.link = s.link := setMain_link ..
    have main : s.mainArrived.lkg.main = .opened := by rw [lkg]
    have kept := (lkgKept_resumedRuns s.mainArrived).lkg (by rw [lkg, ht]; exact nofun)
    refine ⟨_, congrArg Host.Outcome.next (arrivalEvent_opened hr hp hm ht hd), by rw [kept, main], fun hf => ?_,
      fun hf => ?_⟩
    · have supplied : s.mainArrived.supplied = true := supplied_of_mainOpen main (by rw [link]; exact hf)
      exact resumed_of _ _ ((runsResumed_resumedRuns supplied).congr same ⟨rfl, rfl, rfl, rfl, rfl, fun _ => id⟩)
    · have shut : s.mainArrived.supplied = false := by rw [State.supplied, link, hf, Bool.and_false]
      rw [resumedRuns_unsupplied shut]
      exact ⟨same.rgs, same.flt⟩
  case frame =>
    intro slots s u hf hz
    have run : exec (.goodFieldFrame slots) s = .next (fieldFrame slots u) := exec_goodFieldFrame slots s
    clear_value u
    have same := sameRuns_freshened u
    have outcome := sameOutcome_fieldFrame slots hf hz
    refine ⟨_, run, fun hm => ?_, fun hm => ?_⟩
    · have supplied : u.freshened.supplied = true := (supplied_freshened u).trans (decide_eq_true hm)
      exact resumed_of _ _ ((runsResumed_resumedRuns supplied).congr same outcome)
    · have shut : u.freshened.supplied = false := (supplied_freshened u).trans (decide_eq_false hm)
      rw [resumedRuns_unsupplied shut] at outcome
      exact ⟨outcome.rgs.trans same.rgs, outcome.flt.trans same.flt⟩

end Sys2Proof.Proofs
end

section
/-! PROOFS. The books: what the laws of the account speak of, the changes that leave them as they stand, and the stages of a
result that move them. -/

namespace Sys2Proof.Machine

variable {s t u : State}

/-! ### The books and their laws -/

/-- What the laws of the account speak of: the carries with their increments, the tanks with the curve that restores them,
the store with its capacity. -/
structure Books where
  pulseCarry : Nat
  brineCarry : Nat
  allowCarry : Nat
  k : Nat
  kb : Nat
  tankA : Tank
  tankB : Tank
  efficiencyCurve : List (Nat × Nat)
  store : Nat
  capacity : Nat

/-- The books of a state. -/
def State.books (s : State) : Books :=
  { pulseCarry := s.acc.pulseCarry, brineCarry := s.acc.brineCarry, allowCarry := s.acc.allowCarry
    k := s.acc.settings.k, kb := s.acc.settings.kb, tankA := s.rgs.tankA, tankB := s.rgs.tankB
    efficiencyCurve := s.acc.efficiencyCurve, store := s.slt.store, capacity := s.slt.settings.capacity }

/-- The laws of the account are kept. -/
structure Accounted (s t : State) : Prop where
  carries : s.carryLaw → t.carryLaw
  tanks : s.tankLaw → t.tankLaw
  store : s.storeLaw → t.storeLaw

theorem Accounted.refl (s : State) : Accounted s s := ⟨id, id, id⟩

theorem Accounted.trans (h : Accounted s t) (g : Accounted t u) : Accounted s u :=
  ⟨g.carries ∘ h.carries, g.tanks ∘ h.tanks, g.store ∘ h.store⟩

theorem Accounted.after (h : Accounted t u) (g : Accounted s t) : Accounted s u := g.trans h

theorem Accounted.of_books (h : t.books = s.books) : Accounted s t := by
  simp only [State.books, Books.mk.injEq] at h
  obtain ⟨pulse, brine, allow, k, kb, tankA, tankB, curve, store, capacity⟩ := h
  refine ⟨fun g => ?_, fun g => ?_, fun g => ?_⟩
  · rwa [State.carryLaw, pulse, brine, allow, k, kb]
  · rwa [State.tankLaw, tankA, tankB, curve]
  · rwa [State.storeLaw, store, capacity]

theorem Accounted.of_reach (h : Reach s t) : Accounted s t := ⟨reach_carryLaw h, reach_tankLaw h, reach_storeLaw h⟩

/-- A change of the books' parts is their laws' change alone. -/
theorem Accounted.of_carries (h : s.carryLaw → t.carryLaw) (hr : t.rgs = s.rgs) (hs : t.slt = s.slt)
    (hc : t.acc.efficiencyCurve = s.acc.efficiencyCurve) : Accounted s t :=
  ⟨h, fun g => by rwa [State.tankLaw, hr, hc], fun g => by rwa [State.storeLaw, hs]⟩

theorem Accounted.ite {p : Prop} [Decidable p] {t' : State} (h : Accounted s t) (h' : Accounted s t') :
    Accounted s (if p then t else t') := by
  split
  · exact h
  · exact h'

/-- An event that is only taken when it is due. -/
theorem Accounted.due {p : Prop} [Decidable p] (h : p → Accounted s t) : Accounted s (if p then t else s) := by
  split
  · exact h ‹_›
  · exact .refl s

theorem foldl_accounted {α : Type} {f : State → α → State} (hf : ∀ s a, Accounted s (f s a)) (l : List α) (s : State) :
    Accounted s (l.foldl f s) :=
  List.foldlRecOn (motive := Accounted s) _ _ (.refl s) fun t h a _ => h.trans (hf t a)

/-! ### Changes beside the books -/

theorem books_raise (f : Flag) (s : State) : (raise f s).books = s.books := rfl

theorem books_raiseIf (b : Bool) (f : Flag) (s : State) : (raiseIf b f s).books = s.books := by
  cases b <;> rfl

theorem books_setAct (a : Actr) (x : Actuator) (s : State) : (setAct a x s).books = s.books := by cases a <;> rfl

theorem books_setRun (a : Actr) (r : ActuatorRun) (s : State) : (setRun a r s).books = s.books := books_setAct ..

theorem books_offerFault (k : FaultKind) (n : Nat) (d : Vector Byte 4) (s : State) :
    (offerFault k n d s).books = s.books := by
  unfold offerFault
  split <;> rfl

theorem books_actFault (a : Actr) (q : ActState) (k : FaultKind) (d1 d2 : Byte) (s : State) :
    (actFault a q k d1 d2 s).books = s.books :=
  (books_offerFault ..).trans ((books_raise ..).trans (books_setRun ..))

theorem books_setLanes (lanes : Vector Lane 32) (s : State) : ({ s with lanes := lanes } : State).books = s.books := rfl

theorem books_onAir (s : State) (g f : Transmitter) (r : List Reply) (n : Option Nat) :
    (s.onAir g f r n).books = s.books := rfl

theorem books_emissionTrigger (s : State) : (emissionTrigger s).books = s.books := by
  rw [emissionTrigger_eq, books_onAir]

theorem books_afterFrame (p : OutPort) (s : State) : (afterFrame p s).books = s.books := by
  have started : (startFrame p s).books = s.books := by
    cases p
    · exact (congrArg State.books (startReport_eq s)).trans (books_onAir ..)
    · rfl
  unfold afterFrame
  split
  · exact started
  · cases p <;> rfl

theorem accounted_moveTracker (i : Fin 7) (r : TrackerRun) (s : State) : Accounted s (moveTracker i r s) :=
  .trans (.of_books (t := setTracker i { s.trackers[i] with run := r } s) rfl) (.of_reach (reach_moveTracker i r s))

/-! ### The stages of a result (R82 to R94) -/

theorem accounted_noteClamp (q : Nat) (s : State) : Accounted s (noteClamp q s) :=
  .due fun _ => .of_books (books_raiseIf ..)

theorem accounted_volumeStage (z : Nat) (hk : 1 ≤ s.acc.settings.k) : Accounted s (volumeStage z s) :=
  .after (accounted_noteClamp ..) (.of_carries (fun ⟨_, hb, ha⟩ => ⟨.inr (meterCarry_lt _ _ z hk), hb, ha⟩) rfl rfl rfl)

theorem accounted_allowanceStage (e : Nat) (s : State) : Accounted s (allowanceStage e s) := by
  refine .of_carries (fun ⟨hp, hb, _⟩ => ⟨hp, hb, ?_⟩) rfl rfl rfl
  show s.acc.allowCarry + s.drain.allowance * e - _ < 30000
  omega

theorem accounted_hardnessStage (s : State) : Accounted s (hardnessStage s) := .of_books rfl

theorem accounted_addSlip (x : Nat) (s : State) : Accounted s (addSlip x s) :=
  .ite (.refl s) (.of_books (books_raiseIf ..))

theorem accounted_chargeTank (x : TankId) (dl : Nat) (s : State) : Accounted s (chargeTank x dl s) := by
  unfold chargeTank
  dsimp only
  refine .ite (.after (accounted_addSlip ..) (.of_reach (reach_setTank x .same ⟨rfl, .inl ?_, id⟩))) (accounted_addSlip ..)
  exact Nat.sub_le ..

theorem accounted_chargeStage (dvt : Nat) (s : State) : Accounted s (chargeStage dvt s) := by
  refine .trans (.of_books (t := { s with acc := { s.acc with totalTreated := wrapAdd mod40 s.acc.totalTreated dvt } }) rfl) ?_
  unfold chargeStage charge
  split
  · exact accounted_chargeTank ..
  · exact .ite (.of_books rfl) (accounted_addSlip ..)

theorem accounted_inletResult (r : ChanResult) (hk : 1 ≤ s.acc.settings.k) : Accounted s (inletResult r s) := by
  have stages : Accounted s (hardnessStage (allowanceStage r.e (volumeStage r.z s))) :=
    ((accounted_volumeStage r.z hk).trans (accounted_allowanceStage ..)).trans (accounted_hardnessStage _)
  exact ((stages.trans (accounted_chargeStage ..)).trans (.of_reach (reach_fltIncrement _
    (reach_lkgIncrement _ _ _ reach_onGrant .same)))).trans (.of_reach (reach_giveNotices ..))

theorem accounted_toInlet (ch : Fin 8) (m : ChannelMode) (r : ChanResult) (s : State) :
    Accounted s (toInlet ch m r s) :=
  .due fun h => accounted_inletResult r (by have := h.2; simp [State.takesInlet] at this; omega)

theorem accounted_brineStage (z : Nat) (hk : 1 ≤ s.acc.settings.kb) : Accounted s (brineStage z s) :=
  .after (accounted_noteClamp ..) (.of_carries (fun ⟨hp, _, ha⟩ => ⟨hp, .inr (meterCarry_lt _ _ z hk), ha⟩) rfl rfl rfl)

theorem accounted_brineIncrement (p : BrinePhase) (dv : Nat) (s : State) : Accounted s (brineIncrement p dv s) := by
  have steps : Reach s (rgsIncrement dv s) := reach_rgsIncrement dv .same
  cases p with
  | none => exact .of_reach steps
  | draw => exact (Accounted.of_reach steps).trans (.of_books rfl)
  | refill => exact .of_reach (reach_refillIncrement dv steps)

theorem accounted_toBrine (ch : Fin 8) (m : ChannelMode) (r : ChanResult) (s : State) :
    Accounted s (toBrine ch m r s) :=
  .due fun h => (accounted_brineStage r.z (by have := h.2; simp [State.takesBrine] at this; omega)).trans
    (accounted_brineIncrement ..)

theorem accounted_toTracker (ch : Fin 8) (c : ChannelRec) (r : ChanResult) (i : Fin 7) (s : State) :
    Accounted s (toTracker ch c r i s) := by
  have taken : Accounted s (trackerResult i c r s) :=
    .due fun _ => (accounted_moveTracker ..).trans (.of_books (books_raiseIf ..))
  exact .due fun _ => .ite (taken.trans (.of_reach (reach_fltFlowUpdate .same))) taken

theorem accounted_publication (ch : Fin 8) (c : Channel) (r : ChanResult) (s : State) :
    Accounted s (publication ch c r s) := by
  have closed : Accounted s (raiseIf s.channels[ch].run.ready .channel (setChannel ch c s)) :=
    .of_books (books_raiseIf ..)
  exact ((closed.trans (accounted_toInlet ..)).trans (accounted_toBrine ..)).trans
    (foldl_accounted (fun s i => accounted_toTracker ch _ r i s) _ _)

end Sys2Proof.Machine
end

section
/-! PROOFS. Every command keeps the laws of the account. -/

namespace Sys2Proof.Machine

variable {s t u : State}

/-! ### Events -/

theorem accounted_arrivalEvent (a : Actr) (s : State) : Accounted s (arrivalEvent a s) := by
  unfold arrivalEvent
  split
  · exact .trans (.of_books (books_setRun ..)) (.of_reach (reach_notifyDone _ _ _ .same))
  · exact .refl s

theorem accounted_adoptionEvent (a : Actr) (s : State) : Accounted s (adoptionEvent a s) := by
  unfold adoptionEvent
  split
  · exact .trans (.of_books (books_setRun ..)) (.of_reach (reach_notifyAdopted _ _ _ .same))
  · exact .refl s

theorem accounted_timeoutEvent (a : Actr) (s : State) : Accounted s (timeoutEvent a s) := by
  unfold timeoutEvent
  split
  · exact .ite (.of_books (books_setRun ..)) (.trans (.of_books (books_actFault ..)) (.of_reach (reach_notifyFault _ _ .same)))
  · exact .refl s

theorem accounted_pauseEvent (a : Actr) (s : State) : Accounted s (pauseEvent a s) := by
  unfold pauseEvent
  split
  · exact .of_books (books_setRun ..)
  · exact .refl s

theorem accounted_stallEvent (a : Actr) (s : State) : Accounted s (stallEvent a s) := by
  unfold stallEvent
  split
  · exact .trans (.of_books (books_actFault ..)) (.of_reach (reach_notifyFault _ _ .same))
  · exact .refl s

theorem accounted_displacementEvent (a : Actr) (s : State) : Accounted s (displacementEvent a s) := by
  unfold displacementEvent
  split
  · exact .trans (.of_books (books_actFault ..)) (.of_reach (reach_notifyDisplaced _ _ .same))
  · exact .refl s

theorem accounted_trkStale (s : State) : Accounted s (trkStale s) :=
  foldl_accounted (fun _ _ => .due fun _ => accounted_moveTracker ..) _ s

theorem accounted_trkFresh (s : State) : Accounted s (trkFresh s) :=
  foldl_accounted (fun _ _ => .due fun _ => accounted_moveTracker ..) _ s

theorem accounted_fieldStaleEvent (s : State) : Accounted s (fieldStaleEvent s) := by
  have notices : ∀ s, Accounted s (staleNotices s) := fun s => (accounted_trkStale s).trans
    (.of_reach (reach_lkgStale _ reach_onGrant (reach_fltHold (reach_rgsHold .same))))
  exact .due fun _ => .trans (.of_books (t := fieldGone s) rfl) ((notices _).trans (.of_books (books_emissionTrigger _)))

theorem accounted_event (f : State → State) (h : f ∈ events) (s : State) : Accounted s (f s) := by
  simp only [events, List.mem_append, List.mem_map, List.mem_cons, List.not_mem_nil, or_false] at h
  casesm* _ ∨ _ <;> (try obtain ⟨a, -, rfl⟩ := ‹∃ _, _›) <;> (try subst f)
  · exact .due fun _ => accounted_publication ..
  · exact .due fun _ => accounted_publication ..
  · exact .due fun _ => .of_books rfl
  · exact accounted_fieldStaleEvent s
  · exact .due fun _ => .of_books rfl
  · exact accounted_arrivalEvent a s
  · exact accounted_stallEvent a s
  · exact accounted_adoptionEvent a s
  · exact accounted_timeoutEvent a s
  · exact accounted_pauseEvent a s
  · exact accounted_displacementEvent a s
  · exact .of_reach (reach_drainGrantEvent .same)
  · exact .of_reach (reach_regenStepEndEvent .same)
  · exact .of_reach (reach_regenHoldEvent .same)
  · exact .of_reach (reach_settlingEvent .same)
  · exact .of_reach (reach_bwStepEndEvent .same)
  · exact .of_reach (reach_bwHoldEvent .same)
  · exact .of_reach (reach_testWindowEvent .same)
  · exact .of_reach (reach_testSettleEvent .same)
  · exact .of_reach (reach_testMeasureEvent .same)
  · exact .of_reach (reach_testCalendarEvent .same)
  · exact .of_reach (reach_calendarRegenEvent .same)
  · exact .of_reach (reach_ruleTripEvent _ .same)
  · exact .of_reach (reach_drawEndEvent .same)
  · exact .of_reach (reach_zoneSilentEvent _ .same)
  · exact .of_reach (reach_fieldLostEvent .same)
  · exact .of_reach (reach_retryEvent .same)
  · exact .of_reach (reach_stageDueEvent _ .same)
  · exact .of_reach (reach_demandEvent .same)
  · exact .of_reach (reach_queueEvent .same)

theorem accounted_settle (s : State) : Accounted s (settle s) :=
  takeAll_induction Accounted.refl Accounted.trans events accounted_event s

/-! ### Good field frames -/

theorem accounted_linkFresh (s : State) : Accounted s (linkFresh s) := by
  unfold linkFresh
  refine .ite (.refl s) (.trans (.of_books (t := fieldBack s) rfl) ((accounted_trkFresh _).trans (.of_reach ?_)))
  exact reach_freshNotices _

theorem accounted_actsFrame (outs : Vector LaneOut 32) (s : State) : Accounted s (actsFrame outs s) :=
  foldl_accounted (fun s a => by
    unfold actFrame
    dsimp only
    exact .due fun _ => .of_books (books_setAct ..)) _ s

theorem accounted_fieldFrame (slots : Vector Byte 20) (s : State) : Accounted s (fieldFrame slots s) := by
  have counted : Accounted s (frameCounted s) := .of_books rfl
  have stored : ∀ v, Accounted v (frameKept slots v) := fun _ => .of_books rfl
  have kept := (counted.trans (accounted_linkFresh _)).trans (stored _)
  have lanes : ∀ v, Accounted v (lxFrame slots v) := fun v =>
    .of_books ((books_raiseIf ..).trans (books_setLanes ..))
  have channels : ∀ outs v, Accounted v (mchFrame outs v) := fun _ _ => .of_books rfl
  rw [fieldFrame_eq]
  exact ((((kept.trans (lanes _)).trans (channels _ _)).trans (accounted_actsFrame _ _)).trans
    (.of_reach (reach_moistureFrame _ _))).trans (.of_books (books_emissionTrigger _))

/-! ### Writes -/

/-- What a handler does keeps the laws of the account. -/
def Handler.Accounted (h : Handler) : Prop := ∀ s, Machine.Accounted s (h s).1

theorem Accounted.checked {check : Option Status} {f : State → State} (h : check = none → Accounted s (f s)) :
    Accounted s (checked check f s).1 := by
  cases check with
  | none => exact h rfl
  | some st => exact .refl s

theorem accounted_storeLane (i : Nat) (d : LaneDesc) (s : State) : Accounted s (storeLane i d s) := by
  have acts : ∀ hit u, Accounted u (actsLaneReset hit u) := fun hit u =>
    foldl_accounted (fun u a => .of_books (books_setAct a _ u)) _ u
  have channels : ∀ hit u, Accounted u (mchLaneReset hit u) := fun _ _ => .of_books rfl
  exact (acts _ _).after ((channels _ _).after (.of_books (books_setLanes ..)))

theorem accounted_storeChannel (i : Nat) (c : ChannelRec) (s : State) : Accounted s (storeChannel i c s) := by
  have rebound : ∀ j s, Accounted s (rebindAfterChannel j s) := fun j s => by
    rcases rebindAfterChannel_cases j s with e | ⟨r, e⟩ <;> rw [e]
    · exact .refl s
    · exact accounted_moveTracker ..
  unfold storeChannel
  split
  · exact .after (foldl_accounted (fun s j => .due fun _ => rebound j s) _ _) (.of_books rfl)
  · exact .refl s

theorem accounted_storeTracker (i : Nat) (c : TrackerRec) (s : State) : Accounted s (storeTracker i c s) := by
  unfold storeTracker
  split
  · exact .after (accounted_moveTracker ..) (.of_books rfl)
  · exact .refl s

/-- A carry outlives a write of the settings only under the increment it was taken by (R81). -/
theorem accounted_writeSoftener (c : Softener) (s : State) : Accounted s (writeSoftener c s) := by
  have stored : Accounted s (storeSoftener c s) := by
    refine .of_carries (fun ⟨hp, hb, ha⟩ => ⟨?_, ?_, ha⟩) rfl rfl rfl
    · show (if _ then 0 else s.acc.pulseCarry) = 0 ∨ (if _ then 0 else s.acc.pulseCarry) < c.k
      split
      · exact .inl rfl
      · have : c.k = s.acc.settings.k := by tauto
        rwa [this]
    · show (if _ then 0 else s.acc.brineCarry) = 0 ∨ (if _ then 0 else s.acc.brineCarry) < c.kb
      split
      · exact .inl rfl
      · have : c.kb = s.acc.settings.kb := by tauto
        rwa [this]
  exact .ite (stored.trans (.due fun _ => accounted_moveTracker ..)) stored

/-- A tank written holds at most its nominal, its seconds under their ceiling (R99). -/
theorem accounted_writeTank (x : TankId) (c : TankContents) (s : State) : Accounted s (writeTank x c s) := by
  have within : ∀ y : Tank, min c.nominal (c.remaining.getD y.remaining) ≤ c.nominal := fun _ => Nat.min_le_left ..
  cases x
  · exact .after (.of_books (books_raiseIf ..))
      ⟨id, fun ⟨_, hb, ha, hsb, hc⟩ => ⟨within s.rgs.tankA, hb, writtenSeconds_le c _ ha, hsb, hc⟩, id⟩
  · exact .after (.of_books (books_raiseIf ..))
      ⟨id, fun ⟨ha, _, hsa, hb, hc⟩ => ⟨ha, within s.rgs.tankB, hsa, writtenSeconds_le c _ hb, hc⟩, id⟩

/-- A change of SLT that leaves the store within the capacity. -/
theorem accounted_setSalt {x : Salt} (h : x.store ≤ x.settings.capacity) (s : State) : Accounted s (setSalt x s) :=
  .after (.of_books (books_raiseIf ..)) ⟨id, id, fun _ => h⟩

theorem accounted_writeSalt (c : SaltSettings) (s : State) : Accounted s (writeSalt c s) :=
  (accounted_setSalt (Nat.min_le_left ..) s).trans (.of_reach (reach_judgeSalt .same))

theorem accounted_saltRefilled (mass : Nat) (s : State) : Accounted s (saltRefilled mass s) :=
  (accounted_setSalt (Nat.min_le_left ..) s).trans (.of_reach (reach_judgeSalt (reach_setBridgeCount _ .same)))

/-- An efficiency curve accepted gives at most 1024 (R86). -/
theorem accounted_writeCurve (c : CurveId) (i : Nat) (pts : List (Nat × Nat)) : (writeCurve c i pts).Accounted :=
  fun s => .checked fun h => by
    have hr : curveRange c pts = false := by
      rw [checkCurve, firstFailing_none] at h
      exact h (curveRange c pts, .range) (by simp)
    cases c with
    | hardness => exact .of_books rfl
    | brine => exact .of_books rfl
    | efficiency =>
      have top : ∀ p ∈ pts, p.2 ≤ 1024 := fun p hp => (((curveRange_eq_false ..).1 hr).2.2.1 p hp).2
      exact ⟨id, fun ⟨ha, hb, hsa, hsb, _⟩ => ⟨ha, hb, hsa, hsb, top⟩, id⟩

theorem accounted_writeStage (i : Fin 4) (c : StageContents) (s : State) : Accounted s (writeStage i c s) := by
  have fouled : ∀ u, Accounted u (setFouled false u) := fun u => .of_books (books_raiseIf ..)
  have dropped : ∀ u, Accounted u { (setFouled false u) with
      flt := { (setFouled false u).flt with demand := none, watch := false } } := fun u =>
    (fouled u).trans (.of_books rfl)
  have stored : Accounted s (setStage i (writtenStage c s.flt.stages[i]) s) := .of_books rfl
  have judged : Accounted s (dueAfresh i _) := .after (.of_reach (reach_dueAfresh i .same))
    (.ite (p := recIsMedia s.flt.stages[i].conf
      && !recIsMedia (setStage i (writtenStage c s.flt.stages[i]) s).flt.stages[i].conf)
      (.after (dropped _) stored) stored)
  exact .ite (.after (.of_reach (reach_judgeDemand .same)) judged) judged

/-! ### Requests -/

theorem accounted_writePlain (i : Nat) (c : PlainContents) : (writePlain i c).Accounted := fun s => by
  cases c with
  | reportConst b => exact .checked fun _ => .of_books (by unfold storeConst; split <;> rfl)
  | driveMask b => exact .checked fun _ => .of_books (by unfold storeMask; split <;> rfl)
  | regenStep r =>
    refine .checked fun h => .of_books ?_
    obtain ⟨x, rfl, -⟩ := checkTyped_none h
    dsimp only [storeRegenStep]
    split <;> rfl
  | backwashStep r =>
    refine .checked fun h => .of_books ?_
    obtain ⟨x, rfl, -⟩ := checkTyped_none h
    dsimp only [storeBackwashStep]
    split <;> rfl
  | zoneWindow r =>
    refine .checked fun h => .of_books ?_
    obtain ⟨x, rfl, -⟩ := checkTyped_none h
    dsimp only [storeZoneWindow]
    split <;> rfl
  | leakConfig r =>
    refine .checked fun h => .of_books ?_
    obtain ⟨x, rfl, -⟩ := checkTyped_none h
    rfl
  | unusable n => exact .refl s

/-- A write of a record with one writer, refused when its contents are of no type. -/
theorem accounted_typed {α : Type} {top i : Nat} {check : α → Option Status} {c : Option α} {f : State → State}
    {write : α → State → State} (hw : ∀ x, c = some x → f = write x) (h : ∀ x, Accounted s (write x s)) :
    Accounted s (checked (checkTyped top i check c) f s).1 :=
  .checked fun hc => by
    obtain ⟨x, rfl, -⟩ := checkTyped_none hc
    rw [hw x rfl]
    exact h x

theorem accounted_storeReportField (i : Nat) (f : ReportField) (s : State) : Accounted s (storeReportField i f s) := by
  unfold storeReportField
  split
  · exact .of_books rfl
  · exact .refl s

theorem accounted_writeTankEntry (i : Nat) (c : TankContents) : (writeTankEntry i c).Accounted := fun s => by
  unfold writeTankEntry
  split
  · exact .checked fun _ => accounted_writeTank ..
  · exact .refl s

theorem accounted_writeStageEntry (i : Nat) (c : Option StageContents) : (writeStageEntry i c).Accounted := fun s => by
  unfold writeStageEntry
  split
  · split
    · exact .checked fun _ => accounted_writeStage ..
    · exact .refl s
  · exact .refl s

theorem accounted_writeLeakRuleEntry (i : Nat) (c : Option LeakRule) : (writeLeakRuleEntry i c).Accounted := fun s => by
  unfold writeLeakRuleEntry
  split
  · split
    · exact .checked fun _ => .of_books rfl
    · exact .refl s
  · exact .refl s

theorem accounted_writeActuatorEntry (i : Nat) (c : Option ActuatorRec) : (writeActuatorEntry i c).Accounted := fun s => by
  unfold writeActuatorEntry
  split
  · split
    · exact .refl s
    · split
      · exact .checked fun _ => .after (.of_reach (reach_notifyReset _ .same)) (.of_books (books_setAct ..))
      · exact .refl s
  · exact .refl s

theorem accounted_readResult (ch mode : Nat) : (readResult ch mode).Accounted := fun s => by
  unfold readResult
  split
  · split
    · exact .refl s
    · exact .due fun _ => .of_books rfl
  · exact .refl s

theorem accounted_readState (object i part mode : Nat) : (readState object i part mode).Accounted := fun s => by
  have acknowledged : (acknowledge object i s).books = s.books := by
    unfold acknowledge
    split
    · split <;> rfl
    · split <;> rfl
    · split
      · exact books_setRun ..
      · rfl
    · rfl
    · rfl
    · rfl
  unfold readState
  split
  · exact .refl s
  · exact .due fun _ => .of_books acknowledged

theorem accounted_clearFaultCmd (arg : Nat) : (clearFaultCmd arg).Accounted := fun s => by
  unfold clearFaultCmd
  split
  · split
    · exact .of_books (books_setRun ..)
    · exact .refl s
  · split
    · exact .of_books rfl
    · exact .refl s

/-! Commands that the machine's blocks take -/

theorem reach_openMainCmd (s : State) : Reach s (openMainCmd s).1 := by
  unfold openMainCmd
  repeat' split
  all_goals first | exact .same | exact reach_openMainAsk _ reach_onGrant .same

theorem reach_clearLatchCmd (s : State) : Reach s (clearLatchCmd s).1 := by
  unfold clearLatchCmd effect
  dsimp only
  split
  · exact reach_clearLatch .same
  · exact .same

theorem reach_startRegenCmd (x : Nat) (s : State) : Reach s (startRegenCmd x s).1 := by
  unfold startRegenCmd
  repeat' split
  all_goals first | exact .same | exact reach_rgsQueue _ _ _ _ reach_onGrant .same

theorem reach_cancelRegenCmd (s : State) : Reach s (cancelRegenCmd s).1 := by
  unfold cancelRegenCmd
  split
  · exact .same
  · exact .same
  · exact reach_cancelQueued _ reach_onGrant .same
  · exact reach_cancelRun _ reach_onGrant .same

theorem reach_bypassOnCmd (s : State) : Reach s (bypassOnCmd s).1 := by
  unfold bypassOnCmd
  repeat' split
  all_goals first | exact .same | exact reach_bypassOnTaken _ reach_onGrant .same

theorem reach_bypassOffCmd (s : State) : Reach s (bypassOffCmd s).1 := by
  unfold bypassOffCmd
  repeat' split
  all_goals first | exact .same | exact reach_bypassOffTaken _ _ reach_onGrant .same

theorem reach_startBackwashCmd (s : State) : Reach s (startBackwashCmd s).1 := by
  unfold startBackwashCmd
  repeat' split
  all_goals first | exact .same | exact reach_fltQueue _ _ _ reach_onGrant .same

theorem reach_startTestCmd (s : State) : Reach s (startTestCmd s).1 := by
  unfold startTestCmd
  repeat' split
  all_goals first | exact .same | exact reach_testStart _ _ reach_onGrant .same

theorem accounted_filterReplacedCmd (i : Nat) : (filterReplacedCmd i).Accounted := fun s => by
  unfold filterReplacedCmd
  split
  · exact .checked fun _ => .of_reach (reach_filterReplacedTaken _ .same)
  · exact .refl s

theorem accounted_handlerOf {c : Instr} {tag : Byte} {h : Handler} (e : handlerOf c = some (tag, h)) : h.Accounted := by
  cases c <;> simp only [handlerOf, Option.some.injEq, Prod.mk.injEq, reduceCtorEq] at e <;> obtain ⟨-, rfl⟩ := e
    <;> intro s
  case readEntry => unfold readEntry; split <;> exact .refl s
  case writeEntry => exact accounted_writePlain _ _ s
  case writeEntryLane => exact accounted_typed (by rintro x rfl; rfl) fun x => accounted_storeLane _ x s
  case writeEntryReportField => exact accounted_typed (by rintro x rfl; rfl) fun x => accounted_storeReportField _ x s
  case writeEntryChannel => exact accounted_typed (by rintro x rfl; rfl) fun x => accounted_storeChannel _ x s
  case writeEntryPreset => exact .checked fun _ => .of_books (by unfold storePreset; split <;> rfl)
  case writeEntryTracker => exact accounted_typed (by rintro x rfl; rfl) fun x => accounted_storeTracker _ x s
  case writeEntryCurve => exact accounted_writeCurve _ _ _ s
  case writeEntrySoftener => exact accounted_typed (by rintro x rfl; rfl) fun x => accounted_writeSoftener x s
  case writeEntryTank => exact accounted_writeTankEntry _ _ s
  case writeEntrySalt => exact .checked fun _ => accounted_writeSalt ..
  case writeEntryStage => exact accounted_writeStageEntry _ _ s
  case writeEntryLeakRule => exact accounted_writeLeakRuleEntry _ _ s
  case writeEntryActuator => exact accounted_writeActuatorEntry _ _ s
  case readResult => exact accounted_readResult _ _ s
  case readState => exact accounted_readState _ _ _ _ s
  case readStateLane => exact accounted_readState _ _ _ _ s
  case readStateTracker => exact accounted_readState _ _ _ _ s
  case readStateActuator => exact accounted_readState _ _ _ _ s
  case readStateTank => exact accounted_readState _ _ _ _ s
  case readStateLeakGuard => exact accounted_readState _ _ _ _ s
  case ackChanges => exact .of_books rfl
  case openMain => exact .of_reach (reach_openMainCmd s)
  case closeMain => exact .of_reach (reach_closeMainTaken _ reach_onGrant .same)
  case clearLeakLatch => exact .of_reach (reach_clearLatchCmd s)
  case startRegen => exact .of_reach (reach_startRegenCmd _ s)
  case cancelRegen => exact .of_reach (reach_cancelRegenCmd s)
  case bypassOn => exact .of_reach (reach_bypassOnCmd s)
  case bypassOff => exact .of_reach (reach_bypassOffCmd s)
  case startBackwash => exact .of_reach (reach_startBackwashCmd s)
  case startLeakTest => exact .of_reach (reach_startTestCmd s)
  case abortLeakTest => exact .of_reach (reach_abortTest _ reach_onGrant .same)
  case saltRefilled => exact .checked fun _ => accounted_saltRefilled ..
  case filterReplaced => exact accounted_filterReplacedCmd _ s
  case clearFault => exact accounted_clearFaultCmd _ s
  case clearFaultRecord => exact .of_books rfl
  case clearSlip => exact .of_books rfl
  case setTime => exact .checked fun _ => .of_books rfl
  case restart => exact .of_books rfl

theorem accounted_answer {h : Handler} (hs : h.Accounted) (tag : Byte) (s : State) : Accounted s (answer tag h s) := by
  rcases answer_cases tag h s with ⟨-, e⟩ | ⟨-, -, e⟩ | ⟨-, -, e⟩ <;> rw [e]
  · exact .refl s
  · exact .of_books rfl
  · exact (hs s).trans (.of_books rfl)

theorem accounted_runRequest (c : Instr) (s : State) : Accounted s (runRequest c s) := by
  unfold runRequest
  split
  · exact accounted_answer (accounted_handlerOf ‹_›) _ s
  · exact .refl s

/-! ### Messages and runs of bytes -/

theorem accounted_closeMessage (bytes : List Byte) (n : Nat) (s : State) : Accounted s (closeMessage bytes n s) := by
  have run : ∀ body, Accounted s (runMessage body s) := fun body => by
    unfold runMessage
    split
    · exact accounted_runRequest ..
    · exact accounted_answer (fun s => .refl s) _ s
  exact .ite (.refl s) (.due fun _ => run _)

theorem accounted_receiveByte (b : Byte) (s : State) : Accounted s (receiveByte b s) := by
  have received : Accounted s (setReceiver (receiverStep b s.mgu.rx).1 s) := .of_books rfl
  exact .ite (received.trans (accounted_closeMessage ..)) received

theorem accounted_controlFrame (drive : Vector Byte 6) (first second : Byte) (s : State) :
    Accounted s (controlFrame drive first second s) := by
  have stored : Accounted s { s with link := { s.link with gwMissing := 0, gwSeen := true, driveBytes := drive } } :=
    .of_books rfl
  have fresh : ∀ u : State, Accounted u { u with link := { u.link with gwFresh := true } } := fun _ => .of_books rfl
  exact ((stored.trans (accounted_receiveByte first _)).trans (accounted_receiveByte second _)).trans (fresh _)

theorem accounted_runTaken (p : Port) (bytes : List Byte) (framing : Bool) (s : State) :
    Accounted s (runTaken p bytes framing s) := by
  refine .due fun _ => ?_
  cases p with
  | frx => exact (accounted_settle s).trans (accounted_fieldFrame ..)
  | grx => exact accounted_controlFrame ..

/-! ### The frame timer and the internal second -/

theorem books_timerField (s : State) : (timerField s).books = s.books := by
  have missing : (missingFrame s).books = s.books := (books_raiseIf ..).trans (books_setLanes ..)
  unfold timerField
  split
  · rfl
  · exact missing

theorem accounted_frameTimer (s : State) : Accounted s (frameTimer s) := by
  have timers : Accounted s (timerGateway (timerField s)) := .of_books (books_timerField s)
  exact .ite timers (timers.trans (.of_books (books_emissionTrigger _)))

theorem accounted_actsSecond (s : State) : Accounted s (actsSecond s) :=
  foldl_accounted (fun s a => .of_books (books_setRun a _ s)) _ s

theorem accounted_measureSecond (s : State) : Accounted s (measureSecond onGrant s) := by
  have checked : ∀ u, Accounted u (measureCheck onGrant u) := fun u => .of_reach (reach_measureCheck _ reach_onGrant .same)
  unfold measureSecond
  dsimp only
  split
  · split
    · exact .after (checked _) (.of_books rfl)
    · exact .of_books rfl
  · exact .after (checked _) (.of_books rfl)

theorem accounted_guardSecond (s : State) : Accounted s (guardSecond s) := by
  have tested : ∀ u, Accounted u (testSecond onGrant u) := fun u => by
    unfold testSecond
    split
    · exact accounted_measureSecond u
    · exact .of_books rfl
    · exact .of_books rfl
    · exact .refl u
  exact .after (tested _) (.of_reach (reach_lossSecond (reach_drawSecond (reach_judgeZoneRules _ reach_onGrant
    (reach_zonesSecond (reach_rulesSecond .same))))))

theorem accounted_secondPassed (s : State) : Accounted s (secondPassed s) := by
  have calendar : Accounted s (calendarSecond (nextSecond s)) :=
    .after (.due fun _ => .of_books rfl) (.of_books (t := nextSecond s) rfl)
  have counted := (calendar.trans (accounted_actsSecond _)).trans (.of_reach (reach_countersSecond _))
  have waited : ∀ u, Accounted u (queueSecond (retrySecond u)) := fun _ => .of_books rfl
  exact (counted.trans (accounted_guardSecond _)).trans (waited _)

/-! ### The restarts and the end of a frame -/

theorem accounted_lanesRestart (s : State) : Accounted s (trkRestart (mchRestart (lxRestart s))) := by
  have lanes : Accounted s (lxRestart s) := .of_books (books_setLanes ..)
  have channels : ∀ u, Accounted u (mchRestart u) := fun _ => .of_books rfl
  have trackers : ∀ u, Accounted u (trkRestart u) := fun _ => .of_books rfl
  exact (lanes.trans (channels _)).trans (trackers _)

theorem accounted_actsRestart (s : State) : Accounted s (actsRestart s) :=
  foldl_accounted (fun s a => .of_books (books_setRun a _ s)) _ s

theorem accounted_rgsRestart (s : State) : Accounted s (rgsRestart s) := by
  have run : Reach s (rgsRestartRun s) := by
    unfold rgsRestartRun
    split
    · exact reach_keepTank _ _ .same
    · split
      · exact reach_exhaustTank _ (reach_closeDraw _ .same)
      · exact .same
  have idle : ∀ u : State, Accounted u { u with rgs := { u.rgs with
      seq := .idle, run := RegenRun.empty, move := .none, holdDue := false } } := fun _ => .of_books rfl
  exact .after (.of_books (books_raiseIf ..)) ((Accounted.of_reach run).trans (idle _))

theorem accounted_accRestart (s : State) : Accounted s (accRestart s) :=
  .of_carries (fun _ => ⟨.inl rfl, .inl rfl, (by decide : 0 < 30000)⟩) rfl rfl rfl

theorem accounted_sltRestart (s : State) : Accounted s (sltRestart s) := by
  refine .of_reach (reach_judgeSalt ?_)
  split
  · exact .same
  · exact reach_endRefillUnchecked .same

theorem accounted_fltRestart (s : State) : Accounted s (fltRestart s) := by
  have run : Accounted s (fltRestartRun s) := by
    unfold fltRestartRun
    exact .ite (.refl s) (.of_books rfl)
  have idle : ∀ (f : Flt) (u : State), Accounted u { u with flt := f } := fun _ _ => .of_books rfl
  exact .after (.of_books (books_raiseIf ..)) (run.trans (idle _ _))

theorem accounted_drainRestart (s : State) : Accounted s (drainRestart s) :=
  .of_carries (fun ⟨hp, hb, _⟩ => ⟨hp, hb, (by decide : 0 < 30000)⟩) rfl rfl rfl

theorem accounted_lkgRestart (s : State) : Accounted s (lkgRestart s) := by
  have test : Reach s (testRestart (setMain .unknown s)) := by
    unfold testRestart
    split
    · exact reach_setMain _ .same
    · exact reach_testIdle (reach_setResult _ (reach_setMain _ .same))
  have rules : ∀ (l : Lkg) (u : State), Accounted u { u with lkg := l } := fun _ _ => .of_books rfl
  exact (Accounted.of_reach (reach_zonesReported test)).trans (rules _ _)

theorem accounted_warmRestart (s : State) : Accounted s (warmRestart s) := by
  have inputs := (accounted_lanesRestart s).trans (accounted_actsRestart _)
  have account := (inputs.trans (accounted_rgsRestart _)).trans (accounted_accRestart _)
  have blocks := (account.trans (accounted_sltRestart _)).trans (accounted_fltRestart _)
  have management : ∀ u, Accounted u (mguRestart u) := fun _ => .of_books rfl
  exact ((blocks.trans (accounted_drainRestart _)).trans (accounted_lkgRestart _)).trans (management _)

theorem reset_carryLaw : State.reset.carryLaw := ⟨.inl rfl, .inl rfl, by decide⟩

theorem reset_tankLaw : State.reset.tankLaw :=
  ⟨Nat.le_refl 0, Nat.le_refl 0, Nat.le_refl max32, Nat.le_refl max32, fun _ h => nomatch h⟩

theorem reset_storeLaw : State.reset.storeLaw := Nat.le_refl 0

theorem accounted_powerOn (s : State) : Accounted s (powerOn s) :=
  ⟨fun _ => reset_carryLaw, fun _ => reset_tankLaw, fun _ => reset_storeLaw⟩

theorem accounted_frameEnd (p : OutPort) (s : State) : Accounted s (frameEnd p s) :=
  .due fun _ => .after (.of_books (books_afterFrame p _)) (.due fun _ => accounted_warmRestart s)

/-! ### Every command -/

theorem accounted_exec (c : Instr) (h : exec c s = .next t) : Accounted s t := by
  rcases hc : handlerOf c with _ | p
  · have event : ∀ {u}, exec c s = .next u → Accounted s u → Accounted s t := fun e k => by
      rw [e] at h; cases h; exact k
    have reached : ∀ {u}, exec c s = .next u → Reach s u → Accounted s t := fun e r => event e (.of_reach r)
    cases c <;> simp only [handlerOf, reduceCtorEq] at hc
    case powerOnReset => exact event rfl (accounted_powerOn s)
    case goodFieldFrame slots => exact event rfl ((accounted_settle s).trans (accounted_fieldFrame slots _))
    case discardedRun p bytes framing => exact event rfl (accounted_runTaken p bytes framing s)
    case goodControlFrame drive a b => exact event rfl (accounted_controlFrame drive a b s)
    case frameTimerExpiry => exact event rfl ((accounted_settle s).trans (accounted_frameTimer _))
    case fieldLinkStale => exact event rfl (accounted_fieldStaleEvent s)
    case gatewayStale => exact event rfl (.due fun _ => .of_books rfl)
    case transmitterFrameEnd p => exact event rfl (accounted_frameEnd p s)
    case channelResult ch => exact event rfl (.due fun _ => accounted_publication ..)
    case periodTimeout ch => exact event rfl (.due fun _ => accounted_publication ..)
    case windowAbandoned ch => exact event rfl (.due fun _ => .of_books rfl)
    case arrival a => exact event rfl (accounted_arrivalEvent a s)
    case travelTimeout a => exact event rfl (accounted_timeoutEvent a s)
    case pauseExpiry a => exact event rfl (accounted_pauseEvent a s)
    case stall a => exact event rfl (accounted_stallEvent a s)
    case displacement a => exact event rfl (accounted_displacementEvent a s)
    case adoption a => exact event rfl (accounted_adoptionEvent a s)
    case drainGrant => exact reached rfl (reach_drainGrantEvent .same)
    case calendarRegenTrigger => exact reached rfl (reach_calendarRegenEvent .same)
    case regenStepEnd => exact reached rfl (reach_regenStepEndEvent .same)
    case settlingExpiry => exact reached rfl (reach_settlingEvent .same)
    case regenHoldLimit => exact reached rfl (reach_regenHoldEvent .same)
    case internalSecond => exact event rfl ((accounted_settle s).trans (accounted_secondPassed _))
    case stageDue i => exact reached rfl (reach_stageDueEvent i .same)
    case backwashDemand => exact reached rfl (reach_demandEvent .same)
    case backwashQueue => exact reached rfl (reach_queueEvent .same)
    case backwashStepEnd => exact reached rfl (reach_bwStepEndEvent .same)
    case backwashHoldLimit => exact reached rfl (reach_bwHoldEvent .same)
    case ruleTimerTrip i => exact reached rfl (reach_ruleTripEvent i .same)
    case drawEventEnd => exact reached rfl (reach_drawEndEvent .same)
    case zoneSilent z => exact reached rfl (reach_zoneSilentEvent z .same)
    case fieldLost => exact reached rfl (reach_fieldLostEvent .same)
    case latchedCloseRetry => exact reached rfl (reach_retryEvent .same)
    case testCalendarTrigger => exact reached rfl (reach_testCalendarEvent .same)
    case testWindowExpiry => exact reached rfl (reach_testWindowEvent .same)
    case testSettleExpiry => exact reached rfl (reach_testSettleEvent .same)
    case testMeasureExpiry => exact reached rfl (reach_testMeasureEvent .same)
  · rw [exec_request hc] at h
    cases h
    exact accounted_runRequest c s

end Sys2Proof.Machine

namespace Sys2Proof.Proofs
open Sys2Proof Sys2Proof.Machine

/-- Settles O57: every event and every request is an operation of the machine's blocks, a change beside the books, or one of
the account's own stages and writes, each of which keeps the laws. -/
theorem everyCommandKeepsTheAccountLaws : Obligations.EveryCommandKeepsTheAccountLaws := by
  unfold Obligations.EveryCommandKeepsTheAccountLaws
  intro c s t h
  have kept := accounted_exec c h
  exact ⟨kept.carries, kept.tanks, kept.store⟩

end Sys2Proof.Proofs
end

section
/-! PROOFS. A result delivered: what the trackers and FLT leave of it, and the brine stage with its accumulator. -/

namespace Sys2Proof.Machine

variable {s t u : State}

/-! ### What the trackers and FLT leave of an accounted result (R43, R53) -/

/-- The account, RGS, the SELECTOR and the refill check: what an accounted result has moved before the trackers take it. -/
structure Accounts where
  acc : Account
  rgs : Rgs
  selector : Actuator
  refill : RefillCheck

/-- The accounts of a state. -/
def State.accounts (s : State) : Accounts :=
  { acc := s.acc, rgs := s.rgs, selector := s.selector, refill := s.slt.refill }

theorem accounts_iff : t.accounts = s.accounts ↔ t.acc = s.acc ∧ t.rgs = s.rgs ∧ t.selector = s.selector
    ∧ t.slt.refill = s.slt.refill := by
  simp only [State.accounts, Accounts.mk.injEq]

theorem accounts_setStage (i : Fin 4) (x : Stage) (s : State) : (setStage i x s).accounts = s.accounts := rfl

theorem accounts_setFouled (b : Bool) (s : State) : (setFouled b s).accounts = s.accounts := by
  unfold setFouled raiseIf
  split <;> rfl

theorem accounts_markDue (i : Fin 4) (s : State) : (markDue i s).accounts = s.accounts := by
  unfold markDue
  split <;> rfl

theorem accounts_setDemand (c : BwTrigger) (s : State) : (setDemand c s).accounts = s.accounts := by
  unfold setDemand
  split <;> rfl

theorem accounts_judgeWatch (i : Fin 4) (b : Bool) (s : State) : (judgeWatch i b s).accounts = s.accounts := by
  have judged : (setFouled b { s with flt := { s.flt with watch := false } }).accounts = s.accounts :=
    accounts_setFouled ..
  unfold judgeWatch
  split
  · dsimp only
    split
    · exact (accounts_markDue ..).trans judged
    · exact judged
  · rfl

theorem accounts_persisted (i : Fin 4) (s : State) : (persisted i s).accounts = s.accounts := by
  unfold persisted
  split
  · exact accounts_markDue ..
  · split
    · rfl
    · exact accounts_setDemand ..

theorem accounts_evaluateStage (i : Fin 4) (s : State) : (evaluateStage i s).accounts = s.accounts := by
  unfold evaluateStage
  dsimp only
  split
  · rfl
  · have watched : ∀ b x, (judgeWatch i b (setStage i x s)).accounts = s.accounts := fun b x =>
      (accounts_judgeWatch ..).trans (accounts_setStage i x s)
    split
    · exact (accounts_persisted ..).trans (watched ..)
    · exact watched ..

theorem accounts_foldl {α : Type} {f : State → α → State} (hf : ∀ s a, (f s a).accounts = s.accounts) (l : List α)
    (s : State) : (l.foldl f s).accounts = s.accounts :=
  List.foldlRecOn (motive := fun t => t.accounts = s.accounts) _ _ rfl fun t h a _ => (hf t a).trans h

theorem accounts_fltFlowUpdate (s : State) : (fltFlowUpdate s).accounts = s.accounts :=
  accounts_foldl (fun s i => accounts_evaluateStage i s) _ s

theorem accounts_raiseIf (b : Bool) (f : Flag) (s : State) : (raiseIf b f s).accounts = s.accounts := by
  cases b <;> rfl

theorem accounts_judgeSalt (s : State) : (judgeSalt s).accounts = s.accounts := accounts_raiseIf ..

theorem accounts_moveTracker (i : Fin 7) (r : TrackerRun) (s : State) : (moveTracker i r s).accounts = s.accounts := by
  have moved : (raiseIf ((s.trackers[i].run.st == .locked) != (r.st == .locked)) .lock
      (setTracker i { s.trackers[i] with run := r } s)).accounts = s.accounts := accounts_raiseIf ..
  unfold moveTracker
  dsimp only
  split
  · exact (accounts_judgeSalt _).trans moved
  · exact moved

theorem accounts_toTracker (ch : Fin 8) (c : ChannelRec) (r : ChanResult) (i : Fin 7) (s : State) :
    (toTracker ch c r i s).accounts = s.accounts := by
  have taken : (trackerResult i c r s).accounts = s.accounts := by
    unfold trackerResult
    split
    · exact (accounts_raiseIf ..).trans (accounts_moveTracker ..)
    · rfl
  unfold toTracker
  dsimp only
  split
  · split
    · exact (accounts_fltFlowUpdate _).trans taken
    · exact taken
  · rfl

/-- The state in which a closed channel's result is delivered (R35, R36). -/
def State.closing (s : State) (ch : Fin 8) (c : Channel) : State :=
  raiseIf s.channels[ch].run.ready .channel (setChannel ch c s)

theorem closing_eq (ch : Fin 8) (c : Channel) (s : State) : s.closing ch c = { s with
    channels := s.channels.set ch c, mgu := { s.mgu with changes := (s.closing ch c).mgu.changes } } := by
  unfold State.closing
  rw [raiseIf_eq]
  rfl

/-- The state after ACC has taken a published result, before the trackers. -/
def State.accounted (s : State) (ch : Fin 8) (c : Channel) (r : ChanResult) : State :=
  toBrine ch s.channels[ch].conf.mode r (toInlet ch s.channels[ch].conf.mode r (s.closing ch c))

theorem accounts_publication (ch : Fin 8) (c : Channel) (r : ChanResult) (s : State) :
    (publication ch c r s).accounts = (s.accounted ch c r).accounts := by
  unfold publication deliver
  exact accounts_foldl (fun u i => accounts_toTracker ch s.channels[ch].conf r i u) _ _

theorem handed_accounted (ch : Fin 8) (c : Channel) (r : ChanResult) (s : State) :
    Handed (s.accounted ch c r) (publication ch c r s) := by
  unfold publication deliver
  exact foldl_handed _ (fun u i => handed_toTracker ch s.channels[ch].conf r i u) _ _

/-! ### The meters (R83, R93) -/

theorem noteClamp_eq (q : Nat) (s : State) : noteClamp q s = { s with
    acc := { s.acc with clamp := s.acc.clamp || decide (65535 < q) }
    mgu := { s.mgu with changes := (noteClamp q s).mgu.changes } } := by
  unfold noteClamp
  split
  · rename_i h
    rw [raiseIf_eq, decide_eq_true h, Bool.or_true]
  · rename_i h
    rw [decide_eq_false h, Bool.or_false]

/-- A clamp that sets CLAMP raises TANK (R83). -/
theorem flagSet_noteClamp {q : Nat} (h : 65535 < q) (hc : s.acc.clamp = false) : (noteClamp q s).flagSet .tank := by
  rw [noteClamp, if_pos h, flagSet_raiseIf, hc, Bool.not_false, Bool.or_true]

/-- The brine stage moves the brine carry and CLAMP (R93). -/
theorem brineStage_eq (z : Nat) (s : State) : brineStage z s = { s with
    acc := { s.acc with
      brineCarry := meterCarry s.acc.settings.kb s.acc.brineCarry z
      clamp := s.acc.clamp || decide (65535 < meterQuotient s.acc.settings.kb s.acc.brineCarry z) }
    mgu := { s.mgu with changes := (brineStage z s).mgu.changes } } := noteClamp_eq ..

/-! ### The brine increment (R94, R110, R126) -/

theorem rgsIncrement_eq (dv : Nat) (s : State) : rgsIncrement dv s = { s with rgs := (rgsIncrement dv s).rgs } := by
  unfold rgsIncrement
  split
  · split <;> rfl
  · rfl

/-- A RUNNING VOLUME step counts the increment (R110). -/
theorem rgsIncrement_counts {i : Fin 8} (hq : s.rgs.seq = .running) (hi : s.rgs.run.step = some i)
    (hk : s.rgs.snapshot[i].endKind = .volume) (dv : Nat) : (rgsIncrement dv s).rgs =
      { s.rgs with run := { s.rgs.run with brine := min max40 (s.rgs.run.brine + dv) } } := by
  have step : s.regenStep = some s.rgs.snapshot[i] := by rw [State.regenStep, hi]; rfl
  unfold rgsIncrement
  rw [step]
  exact congrArg State.rgs (if_pos ⟨hq, hk⟩)

theorem rgsIncrement_duration {i : Fin 8} (hi : s.rgs.run.step = some i)
    (hk : s.rgs.snapshot[i].endKind = .duration) (dv : Nat) : rgsIncrement dv s = s := by
  have step : s.regenStep = some s.rgs.snapshot[i] := by rw [State.regenStep, hi]; rfl
  unfold rgsIncrement
  rw [step]
  exact if_neg fun h => by rw [hk] at h; cases h.2

theorem rgsIncrement_stopped (h : s.rgs.seq ≠ .running ∨ s.rgs.run.step = none) (dv : Nat) : rgsIncrement dv s = s := by
  unfold rgsIncrement State.regenStep
  rcases h with h | h
  · split
    · exact if_neg fun c => h c.1
    · rfl
  · simp [h]

/-- The increment goes to RGS, and by the phase to the accumulator or to the refill check. -/
theorem brineIncrement_rgs (p : BrinePhase) (dv : Nat) (s : State) :
    (brineIncrement p dv s).rgs = (rgsIncrement dv s).rgs := by
  cases p with
  | none => rfl
  | draw => rfl
  | refill => unfold brineIncrement refillIncrement; dsimp only; split <;> rfl

theorem brineIncrement_acc (p : BrinePhase) (dv : Nat) (s : State) :
    (brineIncrement p dv s).acc = if p = .draw then (accumulate dv s).acc else s.acc := by
  unfold brineIncrement
  rw [rgsIncrement_eq]
  cases p with
  | none => rfl
  | draw => rfl
  | refill => unfold refillIncrement; dsimp only; split <;> rfl

theorem brineIncrement_refill (p : BrinePhase) (dv : Nat) (s : State) : (brineIncrement p dv s).slt.refill =
    if p = .refill ∧ s.slt.refill.phase = .inRefill then
      { s.slt.refill with volume := min 65535 (s.slt.refill.volume + dv) }
    else s.slt.refill := by
  unfold brineIncrement
  rw [rgsIncrement_eq]
  cases p with
  | none => rfl
  | draw => rfl
  | refill => unfold refillIncrement satAdd; dsimp only; split <;> simp [*]

/-- The concentration under lock, or the last one locked (R94). -/
theorem concentration_eq (s : State) (last : Option Nat) :
    (if s.measuredConc.isSome then s.measuredConc else last) =
      if s.trackers[condBrine].run.st = .locked ∧ s.acc.brineCurve ≠ [] then
        curveEval s.acc.brineCurve (s.estimate condBrine) else last := by
  have locked : s.locked condBrine = true ↔ s.trackers[condBrine].run.st = .locked := decide_eq_true_iff
  unfold State.measuredConc curveAtTracker
  by_cases h : s.trackers[condBrine].run.st = .locked
  · rw [if_pos (locked.2 h)]
    rcases s.acc.brineCurve with _ | ⟨p, rest⟩
    · exact (if_neg fun c => c.2 rfl).symm
    · exact (if_pos ⟨h, List.cons_ne_nil p rest⟩).symm
  · rw [if_neg (mt locked.1 h)]
    exact (if_neg fun c => h c.1).symm

/-- The accumulator after an increment in phase DRAW (R94). -/
theorem accumulate_draw (dv : Nat) (s : State) : (accumulate dv s).acc =
    let conc := if s.trackers[condBrine].run.st = .locked ∧ s.acc.brineCurve ≠ [] then
      curveEval s.acc.brineCurve (s.estimate condBrine) else s.acc.draw.lastConc
    { s.acc with draw := { s.acc.draw with
      saltDg := min max40 (s.acc.draw.saltDg + dv * conc.getD s.acc.settings.cNom)
      volume := min max40 (s.acc.draw.volume + dv), lastConc := conc
      measured := s.acc.draw.measured && conc.isSome } } := by
  dsimp only
  rw [← concentration_eq]
  rfl

/-- The conditions under which a brine result is taken (R93). -/
theorem takesBrine_iff (s : State) (m : ChannelMode) : s.takesBrine m = true ↔ s.acc.phase ≠ .none
    ∧ 1 ≤ s.acc.settings.kb ∧ s.acc.settings.kb ≤ 60000
    ∧ (m = .edgeCount ∨ m = .countDelta ∨ m = .gatedCount) := by
  cases m <;> simp [State.takesBrine, countingMode]

theorem fullResult_counts {c : Channel}
    (h : c.conf.mode = .edgeCount ∨ c.conf.mode = .countDelta ∨ c.conf.mode = .gatedCount) :
    fullResult c = { z := c.run.acc, e := c.run.e, timeout := false } := by
  rcases h with h | h | h <;> simp [fullResult, windowZ, h]

theorem estimate_congr {i : Fin 7} (h : t.trackers = s.trackers) : t.estimate i = s.estimate i := by
  unfold State.estimate
  rw [h]

/-- A brine result: the account but for its accumulator, and RGS (R93, R110). -/
theorem brineResult_acc (r : ChanResult) (s : State) : (brineResult r s).acc = { s.acc with
    brineCarry := meterCarry s.acc.settings.kb s.acc.brineCarry r.z
    clamp := s.acc.clamp || decide (65535 < meterQuotient s.acc.settings.kb s.acc.brineCarry r.z)
    draw := (brineResult r s).acc.draw } := by
  unfold brineResult
  rw [brineIncrement_acc, brineStage_eq]
  split <;> rfl

theorem brineResult_rgs (r : ChanResult) (s : State) :
    (brineResult r s).rgs = (rgsIncrement (s.brineVolume r.z) (brineStage r.z s)).rgs := brineIncrement_rgs ..

theorem brineStage_rgs (z : Nat) (s : State) : (brineStage z s).rgs = s.rgs := by rw [brineStage_eq]

theorem brineStage_slt (z : Nat) (s : State) : (brineStage z s).slt = s.slt := by rw [brineStage_eq]

theorem brineResult_clamped {r : ChanResult} (hc : s.acc.clamp = false)
    (h : 65535 < meterQuotient s.acc.settings.kb s.acc.brineCarry r.z) : (brineResult r s).flagSet .tank := by
  have clamped (u : State) (hu : u.acc.clamp = false) := flagSet_noteClamp (s := u) h hu
  exact (handed_brineIncrement ..).flags _ (clamped _ hc)

/-- The accumulator after a brine result in phase DRAW (R94). -/
theorem brineResult_draw (r : ChanResult) (h : s.acc.phase = .draw) : (brineResult r s).acc.draw =
    let conc := if s.trackers[condBrine].run.st = .locked ∧ s.acc.brineCurve ≠ [] then
      curveEval s.acc.brineCurve (s.estimate condBrine) else s.acc.draw.lastConc
    { s.acc.draw with
      saltDg := min max40 (s.acc.draw.saltDg + s.brineVolume r.z * conc.getD s.acc.settings.cNom)
      volume := min max40 (s.acc.draw.volume + s.brineVolume r.z), lastConc := conc
      measured := s.acc.draw.measured && conc.isSome } := by
  unfold brineResult
  rw [brineIncrement_acc, if_pos h, accumulate_draw, brineStage_eq]
  rfl

theorem brineResult_kept (r : ChanResult) (h : s.acc.phase ≠ .draw) : (brineResult r s).acc.draw = s.acc.draw := by
  unfold brineResult
  rw [brineIncrement_acc, if_neg h, brineStage_eq]

theorem brineResult_refill (r : ChanResult) (s : State) : (brineResult r s).slt.refill =
    if s.acc.phase = .refill ∧ s.slt.refill.phase = .inRefill then
      { s.slt.refill with volume := min 65535 (s.slt.refill.volume + s.brineVolume r.z) }
    else s.slt.refill := by
  unfold brineResult
  rw [brineIncrement_refill, brineStage_slt]

theorem toBrine_taken {ch : Fin 8} {m : ChannelMode} (hb : s.acc.settings.brine = some ch.val)
    (h : s.takesBrine m = true) (r : ChanResult) : toBrine ch m r s = brineResult r s := if_pos ⟨hb, h⟩

theorem toBrine_left {ch : Fin 8} {m : ChannelMode} (h : ¬ s.takesBrine m = true) (r : ChanResult) :
    toBrine ch m r s = s := if_neg fun c => h c.2

/-- The state that a close leaves holds what ACC reads of it as it was. -/
theorem closing_kept (ch : Fin 8) (c : Channel) (s : State) : (s.closing ch c).accounts = s.accounts
    ∧ (s.closing ch c).trackers = s.trackers ∧ (s.closing ch c).takesBrine = s.takesBrine := by
  rw [closing_eq]
  exact ⟨rfl, rfl, rfl⟩

theorem accounted_notInlet {ch : Fin 8} (h : s.acc.settings.inlet ≠ some ch.val) (c : Channel) (r : ChanResult) :
    s.accounted ch c r = toBrine ch s.channels[ch].conf.mode r (s.closing ch c) := by
  unfold State.accounted
  rw [show toInlet ch s.channels[ch].conf.mode r (s.closing ch c) = s.closing ch c from if_neg fun i => h ?_]
  have inlet := i.1
  rwa [closing_eq] at inlet

end Sys2Proof.Machine

namespace Sys2Proof.Proofs
open Sys2Proof Sys2Proof.Machine

/-- Settles O15: the brine stage and the increment act on the state that the channel's close leaves, which has the accounts
as they were, and the trackers leave the accounts alone. -/
theorem aBrineResultIsCountedAndAccumulated : Obligations.ABrineResultIsCountedAndAccumulated := by
  unfold Obligations.ABrineResultIsCountedAndAccumulated
  intro ch s c d q dv counts conc taken brine notInlet opened full
  have due : windowFull c = true := windowFull_iff.2 ⟨opened, by tauto⟩
  obtain ⟨acc, rgs, -, refill⟩ := accounts_iff.1 (accounts_publication ch (closeFull c) (fullResult c) s)
  obtain ⟨kept, utrackers, utakes⟩ := closing_kept ch (closeFull c) s
  obtain ⟨uacc, urgs, -, urefill⟩ := accounts_iff.1 kept
  set u := s.closing ch (closeFull c) with hu
  have flags := (handed_accounted ch (closeFull c) (fullResult c) s).flags
  refine ⟨_, (exec_channelResult ch s).trans (congrArg Host.Outcome.next (if_pos due)), fun ht => ?taken, fun ht => ?left⟩
  case left =>
    have same : s.accounted ch (closeFull c) (fullResult c) = u :=
      (accounted_notInlet notInlet ..).trans (toBrine_left (utakes ▸ mt (takesBrine_iff ..).1 ht) _)
    rw [acc, rgs, refill, same]
    exact ⟨uacc, urgs, urefill⟩
  case taken =>
    have same : s.accounted ch (closeFull c) (fullResult c) = brineResult (fullResult c) u :=
      (accounted_notInlet notInlet ..).trans
        (toBrine_taken (uacc.symm ▸ brine) (utakes ▸ (takesBrine_iff ..).2 ht) _)
    have pulses : (fullResult c).z = c.run.acc := by rw [fullResult_counts ht.2.2.2]
    have volume : u.brineVolume (fullResult c).z = dv := by rw [State.brineVolume, uacc, pulses]; rfl
    have uest : u.estimate condBrine = s.estimate condBrine := estimate_congr utrackers
    rw [acc, rgs, refill, same]
    refine ⟨?_, fun hc hq => flags _ (same ▸ brineResult_clamped (uacc ▸ hc) ?_), fun i hq hi hk => ?_, fun i hi hk => ?_,
      fun h => ?_, fun h => ⟨?_, ?_⟩, fun h => ⟨?_, fun hr => ?_, fun hr => ?_⟩⟩
    · rw [brineResult_acc, uacc, pulses]
      rfl
    · rw [uacc, pulses]
      exact hq
    · rw [brineResult_rgs, volume, rgsIncrement_counts (i := i)] <;> simp only [brineStage_rgs, urgs, hq, hi, hk]
    · rw [brineResult_rgs, rgsIncrement_duration (i := i)] <;> simp only [brineStage_rgs, urgs, hi, hk]
    · rw [brineResult_rgs, rgsIncrement_stopped] <;> simp only [brineStage_rgs, urgs, h]
    · rw [brineResult_refill, uacc, if_neg (by rw [h]; simp), urefill]
    · rw [brineResult_draw _ (uacc ▸ h), uacc, uest, utrackers, volume]
    · rw [brineResult_kept _ (by rw [uacc, h]; simp), uacc]
    · rw [brineResult_refill, uacc, urefill, volume, if_pos ⟨h, hr⟩]
    · rw [brineResult_refill, uacc, urefill, if_neg fun c => hr c.2]

end Sys2Proof.Proofs
end

section
/-! PROOFS. An inlet result: its stages, the charge, and what the consumers after it leave of the figures. -/

namespace Sys2Proof.Machine

variable {s t u : State}

/-! ### Curves (R87) -/

/-- A curve's points ascend. -/
abbrev Ascending (c : List (Nat × Nat)) : Prop := c.Pairwise fun p q => p.1 < q.1 ∧ p.2 ≤ q.2

theorem segment_right {p q : Nat × Nat} (h : p.1 < q.1 ∧ p.2 ≤ q.2) : segment p q q.1 = q.2 := by
  have width : 0 < q.1 - p.1 := Nat.sub_pos_of_lt h.1
  rw [segment, Nat.mul_div_cancel_left _ width]
  omega

theorem segment_left (p q : Nat × Nat) : segment p q p.1 = p.2 := by simp [segment]

theorem Ascending.lt_head {p q : Nat × Nat} {c : List (Nat × Nat)} (h : Ascending (p :: c)) (hq : q ∈ c) : p.1 < q.1 :=
  ((List.pairwise_cons.1 h).1 q hq).1

/-- At and above its last point a curve has the last y. -/
theorem curveFrom_last {c : List (Nat × Nat)} {p q : Nat × Nat} {x : Nat} (hc : Ascending (p :: c))
    (hq : (p :: c).getLast? = some q) (hx : q.1 ≤ x) : curveFrom p x c = q.2 := by
  induction c generalizing p with
  | nil => cases hq; rfl
  | cons r c ih =>
    have last : (r :: c).getLast? = some q := by rwa [List.getLast?_cons_cons] at hq
    have tail := (List.pairwise_cons.1 hc).2
    by_cases below : x ≤ r.1
    · have rq : r = q := by
        rcases List.mem_cons.1 (List.mem_of_getLast? last) with e | e
        · exact e.symm
        · exact absurd (Ascending.lt_head tail e) (by omega)
      subst rq
      have right : x = r.1 := le_antisymm below hx
      rw [curveFrom, if_pos below, right]
      exact segment_right ((List.pairwise_cons.1 hc).1 r (List.mem_cons_self ..))
    · rw [curveFrom, if_neg below]
      exact ih tail last

/-- Between two neighbours a curve has the interpolation of their segment. -/
theorem curveFrom_between {before rest : List (Nat × Nat)} {o p q : Nat × Nat} {x : Nat}
    (hc : Ascending (o :: (before ++ p :: q :: rest))) (hp : p.1 ≤ x) (hq : x ≤ q.1) :
    curveFrom o x (before ++ p :: q :: rest) = segment p q x := by
  induction before generalizing o with
  | nil =>
    show (if x ≤ p.1 then segment o p x else if x ≤ q.1 then segment p q x else curveFrom q x rest) = _
    rw [if_pos hq]
    split
    · have left : x = p.1 := le_antisymm ‹_› hp
      rw [left, segment_left]
      exact segment_right ((List.pairwise_cons.1 hc).1 p (List.mem_cons_self ..))
    · rfl
  | cons r before ih =>
    have tail := (List.pairwise_cons.1 hc).2
    have above : r.1 < p.1 := Ascending.lt_head tail (by simp)
    show (if x ≤ r.1 then _ else _) = _
    rw [if_neg (by omega)]
    exact ih tail

/-! ### The stages before the charge (R83, R84, R88, R89) -/

theorem measuredHardness_eq (s : State) : s.measuredHardness =
    if s.acc.settings.mode = .auto ∧ s.trackers[condSupply].run.st = .locked then
      curveEval s.acc.hardnessCurve (s.estimate condSupply) else none := by
  have locked : s.locked condSupply = true ↔ s.trackers[condSupply].run.st = .locked := decide_eq_true_iff
  unfold State.measuredHardness curveAtTracker
  cases s.acc.settings.mode with
  | forced => exact (if_neg fun c => nomatch c.1).symm
  | auto => simp only [locked, true_and]

theorem hardnessInUse_eq (s : State) : s.hardnessInUse = if s.acc.settings.mode = .forced then s.acc.settings.hf
    else s.measuredHardness.getD (s.acc.held.getD s.acc.settings.hf) := by
  unfold State.hardnessInUse
  cases s.acc.settings.mode <;> rfl

theorem volumeStage_eq (z : Nat) (s : State) : volumeStage z s = { s with
    acc := { s.acc with
      pulseCarry := meterCarry s.acc.settings.k s.acc.pulseCarry z
      totalInlet := wrapAdd mod40 s.acc.totalInlet (s.inletVolume z)
      clamp := s.acc.clamp || decide (65535 < meterQuotient s.acc.settings.k s.acc.pulseCarry z) }
    mgu := { s.mgu with changes := (volumeStage z s).mgu.changes } } := noteClamp_eq ..

/-- The state an inlet result has left before the charge. -/
def State.metered (s : State) (r : ChanResult) : State := hardnessStage (allowanceStage r.e (volumeStage r.z s))

/-- The volume, allowance and hardness stages move figures of the account alone. -/
theorem metered_eq (r : ChanResult) (s : State) : s.metered r = { s with
    acc := { s.acc with
      pulseCarry := meterCarry s.acc.settings.k s.acc.pulseCarry r.z
      totalInlet := wrapAdd mod40 s.acc.totalInlet (s.inletVolume r.z)
      clamp := s.acc.clamp || decide (65535 < meterQuotient s.acc.settings.k s.acc.pulseCarry r.z)
      allowCarry := (s.metered r).acc.allowCarry
      h := s.hardnessInUse
      hc := compensated s.hardnessInUse s.acc.settings.fe s.acc.settings.kFe
      held := if s.measuredHardness.isSome then s.measuredHardness else s.acc.held }
    mgu := { s.mgu with changes := (s.metered r).mgu.changes } } := by
  unfold State.metered
  rw [volumeStage_eq]
  rfl

/-! ### The charge (R90, R91) -/

/-- The slip after an increase. -/
def slipAfter (slip x : Nat) : Nat := if x = 0 then slip else min max40 (slip + x)

theorem addSlip_eq (x : Nat) (s : State) : addSlip x s = { s with
    acc := { s.acc with slip := slipAfter s.acc.slip x, slipSet := (addSlip x s).acc.slipSet }
    mgu := { s.mgu with changes := (addSlip x s).mgu.changes } } := by
  unfold addSlip slipAfter
  split
  · rfl
  · rw [raiseIf_eq]

/-- A charged tank takes the load, and slip what is more than the tank holds. -/
theorem chargeTank_charged {x : TankId} (h : (s.tank x).charged = true) (dl : Nat) : chargeTank x dl s =
    addSlip (dl - (s.tank x).remaining)
      (setTank x { s.tank x with remaining := (s.tank x).remaining - dl } s) := if_pos h

theorem chargeTank_uncharged {x : TankId} (h : (s.tank x).charged = false) (dl : Nat) :
    chargeTank x dl s = addSlip dl s := if_neg (by rw [h]; exact Bool.false_ne_true)

theorem charge_serving {x : TankId} (h : s.confirmed = some x.pos) (dvt dl : Nat) :
    charge dvt dl s = chargeTank x dl s := by
  unfold charge
  rw [(serviceTank_iff s x).2 h]

theorem charge_bypass (h : s.confirmed = some .bypass) (dvt dl : Nat) : charge dvt dl s =
    { s with acc := { s.acc with bypassVolume := wrapAdd mod40 s.acc.bypassVolume dvt } } := by
  have serves : s.serviceTank = none := by rw [State.serviceTank, h]; rfl
  unfold charge
  rw [serves]
  exact if_pos h

theorem charge_unknown (h : s.confirmed = none) (dvt dl : Nat) : charge dvt dl s = addSlip dl s := by
  have serves : s.serviceTank = none := by rw [State.serviceTank, h]; rfl
  unfold charge
  rw [serves]
  exact if_neg (by rw [h]; exact nofun)

/-- A charge moves slip and the bypass volume among the figures of the account. -/
theorem charge_acc (dvt dl : Nat) (s : State) : (charge dvt dl s).acc = { s.acc with
    slip := (charge dvt dl s).acc.slip, slipSet := (charge dvt dl s).acc.slipSet
    bypassVolume := (charge dvt dl s).acc.bypassVolume } := by
  have slipped (x : Nat) (u : State) : (addSlip x u).acc = { u.acc with
      slip := (addSlip x u).acc.slip, slipSet := (addSlip x u).acc.slipSet
      bypassVolume := (addSlip x u).acc.bypassVolume } := by rw [addSlip_eq]
  unfold charge
  split
  · unfold chargeTank
    dsimp only
    split
    · rw [slipped, setTank_acc]
    · exact slipped ..
  · split
    · rfl
    · exact slipped ..

/-! ### What follows the charge leaves of the figures -/

/-- The account with what the later consumers of an inlet result move blanked: the other carries, CLAMP, the brine phase
and the accumulator. -/
def State.figures (s : State) : Account :=
  { s.acc with allowCarry := 0, brineCarry := 0, clamp := false, phase := .none, draw := DrawAcc.reset }

/-- What the consumers after the charge leave of the account. -/
structure Figured (s t : State) : Prop where
  figures : t.figures = s.figures
  clamp : s.acc.clamp = true → t.acc.clamp = true

theorem Figured.refl (s : State) : Figured s s := ⟨rfl, id⟩

theorem Figured.trans (h : Figured s t) (g : Figured t u) : Figured s u :=
  ⟨g.figures.trans h.figures, g.clamp ∘ h.clamp⟩

/-- The figures themselves stand as they were. -/
theorem Figured.fields (g : Figured s t) : t.acc.totalInlet = s.acc.totalInlet ∧ t.acc.pulseCarry = s.acc.pulseCarry
    ∧ t.acc.h = s.acc.h ∧ t.acc.hc = s.acc.hc ∧ t.acc.held = s.acc.held ∧ t.acc.totalTreated = s.acc.totalTreated
    ∧ t.acc.slip = s.acc.slip ∧ t.acc.bypassVolume = s.acc.bypassVolume := by
  have fields := g.figures
  simp only [State.figures, Account.mk.injEq] at fields
  tauto

theorem figured_of_reach (h : Reach s t) : Figured s t := by
  have apart : t.apart.acc = s.apart.acc := by rw [reach_apart h]
  have clamp : t.acc.clamp = s.acc.clamp := (congrArg Account.clamp apart :)
  exact ⟨congrArg (fun a : Account => { a with brineCarry := 0, clamp := false }) apart, clamp.trans⟩

theorem figured_brineResult (r : ChanResult) (s : State) : Figured s (brineResult r s) := by
  constructor
  · unfold State.figures
    rw [brineResult_acc]
  · intro h
    rw [brineResult_acc, h]
    rfl

theorem figured_toBrine (ch : Fin 8) (m : ChannelMode) (r : ChanResult) (s : State) : Figured s (toBrine ch m r s) := by
  unfold toBrine
  split
  · exact figured_brineResult ..
  · exact .refl s

/-- The state the charge of an inlet result leaves. -/
def State.charged (s : State) (r : ChanResult) : State :=
  chargeStage (treatedVolume (s.inletVolume r.z) (s.allowanceVolume r.e) s.drain.kind) (s.metered r)

theorem figured_inletResult (r : ChanResult) (s : State) : Figured (s.charged r) (inletResult r s) :=
  .trans (figured_of_reach (reach_fltIncrement _ (reach_lkgIncrement _ _ _ reach_onGrant .same)))
    (figured_of_reach (reach_giveNotices ..))

theorem takesInlet_iff (s : State) (m : ChannelMode) : s.takesInlet m = true ↔ (1 ≤ s.acc.settings.k
    ∧ s.acc.settings.k ≤ 60000) ∧ (m = .edgeCount ∨ m = .countDelta ∨ m = .gatedCount) := by
  cases m <;> simp [State.takesInlet, countingMode]

/-! ### The figures of an inlet result -/

variable {r : ChanResult}

/-- The load of an inlet result (R90). -/
def State.inletLoad (s : State) (r : ChanResult) : Nat :=
  treatedVolume (s.inletVolume r.z) (s.allowanceVolume r.e) s.drain.kind
    * compensated s.hardnessInUse s.acc.settings.fe s.acc.settings.kFe

/-- The state before the charge, the treated volume counted. -/
def State.treated (s : State) (r : ChanResult) : State :=
  { s.metered r with acc := { (s.metered r).acc with
    totalTreated := wrapAdd mod40 (s.metered r).acc.totalTreated
      (treatedVolume (s.inletVolume r.z) (s.allowanceVolume r.e) s.drain.kind) } }

theorem charged_eq (r : ChanResult) (s : State) : s.charged r =
    charge (treatedVolume (s.inletVolume r.z) (s.allowanceVolume r.e) s.drain.kind) (s.inletLoad r) (s.treated r) := by
  have load : (s.metered r).acc.hc = compensated s.hardnessInUse s.acc.settings.fe s.acc.settings.kFe := by
    rw [metered_eq]
  rw [State.inletLoad, ← load]
  rfl

/-- The stages before the charge leave the tanks, the positions and the slip. -/
theorem treated_reads (r : ChanResult) (s : State) : (s.treated r).confirmed = s.confirmed
    ∧ (s.treated r).tank = s.tank ∧ (s.treated r).acc.slip = s.acc.slip
    ∧ (s.treated r).acc.bypassVolume = s.acc.bypassVolume := by
  rw [State.treated, metered_eq]
  exact ⟨rfl, rfl, rfl, rfl⟩

/-- The charge moves slip and the bypass volume among the figures that stand before it. -/
theorem charged_acc (r : ChanResult) (s : State) : (s.charged r).acc = { s.acc with
    pulseCarry := meterCarry s.acc.settings.k s.acc.pulseCarry r.z
    totalInlet := wrapAdd mod40 s.acc.totalInlet (s.inletVolume r.z)
    totalTreated := wrapAdd mod40 s.acc.totalTreated
      (treatedVolume (s.inletVolume r.z) (s.allowanceVolume r.e) s.drain.kind)
    clamp := s.acc.clamp || decide (65535 < meterQuotient s.acc.settings.k s.acc.pulseCarry r.z)
    allowCarry := (s.metered r).acc.allowCarry
    h := s.hardnessInUse
    hc := compensated s.hardnessInUse s.acc.settings.fe s.acc.settings.kFe
    held := if s.measuredHardness.isSome then s.measuredHardness else s.acc.held
    slip := (s.charged r).acc.slip, slipSet := (s.charged r).acc.slipSet
    bypassVolume := (s.charged r).acc.bypassVolume } := by
  have treated : (s.treated r).acc = { (s.metered r).acc with
      totalTreated := wrapAdd mod40 (s.metered r).acc.totalTreated
        (treatedVolume (s.inletVolume r.z) (s.allowanceVolume r.e) s.drain.kind) } := rfl
  have stages := congrArg State.acc (metered_eq r s)
  rw [charged_eq, charge_acc, treated, stages]

theorem charged_serving {x : TankId} (hx : s.confirmed = some x.pos) (hc : (s.tank x).charged = true) :
    s.charged r = addSlip (s.inletLoad r - (s.tank x).remaining)
      (setTank x { s.tank x with remaining := (s.tank x).remaining - s.inletLoad r } (s.treated r)) := by
  obtain ⟨confirmed, tank, -, -⟩ := treated_reads r s
  rw [charged_eq, charge_serving (x := x) (confirmed.trans hx), chargeTank_charged (by rw [tank]; exact hc), tank]

theorem slip_charged {x : TankId} (hx : s.confirmed = some x.pos) (hc : (s.tank x).charged = true) :
    (s.charged r).acc.slip = slipAfter s.acc.slip (s.inletLoad r - (s.tank x).remaining)
      ∧ (s.charged r).acc.bypassVolume = s.acc.bypassVolume := by
  obtain ⟨-, -, slip, bypassed⟩ := treated_reads r s
  rw [charged_serving hx hc, addSlip_eq, setTank_acc]
  exact ⟨congrArg (slipAfter · _) slip, bypassed⟩

theorem slip_uncharged {x : TankId} (hx : s.confirmed = some x.pos) (hc : (s.tank x).charged = false) :
    (s.charged r).acc.slip = slipAfter s.acc.slip (s.inletLoad r)
      ∧ (s.charged r).acc.bypassVolume = s.acc.bypassVolume := by
  obtain ⟨confirmed, tank, slip, bypassed⟩ := treated_reads r s
  rw [charged_eq, charge_serving (x := x) (confirmed.trans hx), chargeTank_uncharged (by rw [tank]; exact hc), addSlip_eq]
  exact ⟨congrArg (slipAfter · _) slip, bypassed⟩

theorem slip_bypass (h : s.confirmed = some .bypass) : (s.charged r).acc.slip = s.acc.slip
    ∧ (s.charged r).acc.bypassVolume = wrapAdd mod40 s.acc.bypassVolume
      (treatedVolume (s.inletVolume r.z) (s.allowanceVolume r.e) s.drain.kind) := by
  obtain ⟨confirmed, -, slip, bypassed⟩ := treated_reads r s
  rw [charged_eq, charge_bypass (confirmed.trans h)]
  exact ⟨slip, congrArg (wrapAdd mod40 · _) bypassed⟩

theorem slip_unknown (h : s.confirmed = none) : (s.charged r).acc.slip = slipAfter s.acc.slip (s.inletLoad r)
    ∧ (s.charged r).acc.bypassVolume = s.acc.bypassVolume := by
  obtain ⟨confirmed, -, slip, bypassed⟩ := treated_reads r s
  rw [charged_eq, charge_unknown (confirmed.trans h), addSlip_eq]
  exact ⟨congrArg (slipAfter · _) slip, bypassed⟩

theorem accounted_inlet {ch : Fin 8} (hi : s.acc.settings.inlet = some ch.val)
    (ht : s.takesInlet s.channels[ch].conf.mode = true) (c : Channel) (r : ChanResult) : s.accounted ch c r =
      toBrine ch s.channels[ch].conf.mode r (inletResult r (s.closing ch c)) := by
  unfold State.accounted
  rw [show toInlet ch s.channels[ch].conf.mode r (s.closing ch c) = inletResult r (s.closing ch c) from if_pos ?_]
  rw [closing_eq]
  exact ⟨hi, ht⟩

/-- What a close leaves of the state as the stages of an inlet result read it. -/
theorem closing_reads (ch : Fin 8) (c : Channel) (s : State) : (s.closing ch c).acc = s.acc
    ∧ (s.closing ch c).measuredHardness = s.measuredHardness ∧ (s.closing ch c).hardnessInUse = s.hardnessInUse
    ∧ (s.closing ch c).inletVolume = s.inletVolume ∧ (s.closing ch c).allowanceVolume = s.allowanceVolume
    ∧ (s.closing ch c).inletLoad = s.inletLoad ∧ (s.closing ch c).drain = s.drain
    ∧ (s.closing ch c).lkg = s.lkg ∧ (s.closing ch c).rgs = s.rgs ∧ (s.closing ch c).selector = s.selector := by
  rw [closing_eq]
  exact ⟨rfl, rfl, rfl, rfl, rfl, rfl, rfl, rfl, rfl, rfl⟩

/-! ### An inlet result with no EVENT_VOLUME rule enabled (R92, R153, R157) -/

/-- No EVENT_VOLUME rule is enabled. -/
abbrev State.noEventRule (s : State) : Prop :=
  ∀ i : Fin 16, s.lkg.rules[i].conf.enabled = true → s.lkg.rules[i].conf.kind ≠ .eventVolume

theorem drawIncrement_eq (net : Nat) (s : State) : drawIncrement net s = { s with lkg := { s.lkg with
    event := (drawIncrement net s).lkg.event, drawDue := (drawIncrement net s).lkg.drawDue } } := by
  unfold drawIncrement
  split <;> rfl

theorem lkgIncrement_quiet {k : Grant} (h : s.noEventRule) (dv aVol : Nat) :
    lkgIncrement k dv aVol s = drawIncrement (netVolume dv aVol) s := by
  refine List.foldlRecOn (motive := fun t => t = drawIncrement (netVolume dv aVol) s) _ _ rfl fun t ht i _ => ?_
  have rules : t.lkg.rules = s.lkg.rules := by rw [ht, drawIncrement_eq]
  refine (if_neg fun c => ?_).trans ht
  rw [rules] at c
  exact h i c.1 c.2.1

/-- The state in which the notices of an inlet result are given, no EVENT_VOLUME rule being enabled. -/
def State.noticed (s : State) (r : ChanResult) : State :=
  fltIncrement (s.inletVolume r.z)
    (drawIncrement (netVolume (s.inletVolume r.z) (s.allowanceVolume r.e)) (s.charged r))

theorem noticed_eq (r : ChanResult) (s : State) : s.noticed r = { s.charged r with
    flt := (s.noticed r).flt, lkg := (s.noticed r).lkg } := by
  unfold State.noticed
  rw [drawIncrement_eq]
  rfl

theorem lkg_charged (r : ChanResult) (s : State) : (s.charged r).lkg = s.lkg := by
  have treated : (s.treated r).lkg = s.lkg := by rw [State.treated, metered_eq]
  have slipped (x : Nat) (u : State) : (addSlip x u).lkg = u.lkg := by rw [addSlip_eq]
  rw [← treated, charged_eq]
  unfold charge chargeTank
  dsimp only
  split
  · split
    · rw [slipped, setTank_lkg]
    · exact slipped ..
  · split
    · rfl
    · exact slipped ..

theorem inletResult_quiet (h : s.noEventRule) (r : ChanResult) : inletResult r s =
    giveNotices (noticesAfter (s.inletLoad r) (s.charged r)) (s.noticed r) := by
  have load : (s.metered r).load (treatedVolume (s.inletVolume r.z) (s.allowanceVolume r.e) s.drain.kind) =
      s.inletLoad r := by
    rw [State.load, metered_eq]
    rfl
  rw [← load, State.noticed, ← lkgIncrement_quiet (k := onGrant) (by rw [State.noEventRule, lkg_charged]; exact h)]
  rfl

/-- A tank replaced is a change of RGS, and of the flags. -/
theorem setTank_eq (x : TankId) (y : Tank) (s : State) : setTank x y s = { s with
    rgs := { s.rgs with
      tankA := if x = .a then y else s.rgs.tankA
      tankB := if x = .b then y else s.rgs.tankB }
    mgu := { s.mgu with changes := (setTank x y s).mgu.changes } } := by
  unfold setTank
  cases x <;> (rw [raiseIf_eq]; rfl)

/-- The state that a charge leaves, a charged tank serving: the tank has taken the load. -/
theorem charged_reads {x : TankId} (hx : s.confirmed = some x.pos) (hc : (s.tank x).charged = true) (r : ChanResult) :
    (s.charged r).tank x = { s.tank x with remaining := (s.tank x).remaining - s.inletLoad r }
      ∧ (s.charged r).tank x.other = s.tank x.other ∧ (s.charged r).rgs.seq = s.rgs.seq
      ∧ (s.charged r).rgs.move = s.rgs.move ∧ (s.charged r).selector = s.selector
      ∧ (s.charged r).acc.settings = s.acc.settings := by
  obtain ⟨tank, other, seq, move, selector, settings⟩ : (s.treated r).tank = s.tank ∧ x.other ≠ x
      ∧ (s.treated r).rgs.seq = s.rgs.seq ∧ (s.treated r).rgs.move = s.rgs.move
      ∧ (s.treated r).selector = s.selector ∧ (s.treated r).acc.settings = s.acc.settings := by
    rw [State.treated, metered_eq]
    exact ⟨rfl, by cases x <;> exact nofun, rfl, rfl, rfl, rfl⟩
  have slipped (n : Nat) (u : State) : (addSlip n u).rgs = u.rgs ∧ (addSlip n u).tank = u.tank
      ∧ (addSlip n u).selector = u.selector ∧ (addSlip n u).acc.settings = u.acc.settings := by
    rw [addSlip_eq]
    exact ⟨rfl, rfl, rfl, rfl⟩
  obtain ⟨rgs', tank', selector', settings'⟩ := slipped (s.inletLoad r - (s.tank x).remaining)
    (setTank x { s.tank x with remaining := (s.tank x).remaining - s.inletLoad r } (s.treated r))
  rw [charged_serving hx hc, rgs', tank', selector', settings', setTank_tank_self, setTank_tank_other _ _ _ _ other,
    setTank_selector, setTank_acc, tank]
  refine ⟨rfl, rfl, ?_, ?_, selector, settings⟩
  · rw [setTank_eq]
    exact seq
  · rw [setTank_eq]
    exact move

/-- The notices find the state as the charge has left it. -/
theorem noticed_reads (r : ChanResult) (s : State) : (s.noticed r).tank = (s.charged r).tank
    ∧ (s.noticed r).rgs = (s.charged r).rgs ∧ (s.noticed r).selector = (s.charged r).selector
    ∧ (s.noticed r).acc = (s.charged r).acc := by
  rw [noticed_eq]
  exact ⟨rfl, rfl, rfl, rfl⟩

theorem noticesAfter_serving {x : TankId} (hx : s.confirmed = some x.pos) (hc : (s.tank x).charged = true)
    (r : ChanResult) : noticesAfter (s.inletLoad r) (s.charged r) = if 0 < s.inletLoad r then
      some (x, decide ((s.tank x).remaining - s.inletLoad r ≤ s.acc.settings.reserve),
        decide ((s.tank x).remaining - s.inletLoad r = 0)) else none := by
  obtain ⟨tank, -, -, -, selector, settings⟩ := charged_reads hx hc r
  have serves : (s.charged r).serviceTank = some x := (serviceTank_iff ..).2 (by rw [State.confirmed, selector]; exact hx)
  have charged : ((s.charged r).tank x).charged = true := by rw [tank]; exact hc
  unfold noticesAfter
  rw [serves]
  dsimp only
  rw [tank, settings] at *
  simp only [charged, true_and]

theorem brineResult_selector (r : ChanResult) (s : State) : (brineResult r s).selector = s.selector := by
  unfold brineResult brineIncrement
  rw [rgsIncrement_eq, brineStage_eq]
  cases s.acc.phase with
  | none => rfl
  | draw => rfl
  | refill => unfold refillIncrement; dsimp only; split <;> rfl

theorem rgsIncrement_run (dv : Nat) (s : State) :
    ∃ n, (rgsIncrement dv s).rgs = { s.rgs with run := { s.rgs.run with brine := n } } := by
  unfold rgsIncrement
  split
  · split
    · exact ⟨_, rfl⟩
    · exact ⟨_, rfl⟩
  · exact ⟨_, rfl⟩

/-- A brine result after the inlet's moves nothing of RGS but the brine volume of the step. -/
theorem toBrine_reads (ch : Fin 8) (m : ChannelMode) (r : ChanResult) (s : State) :
    (toBrine ch m r s).tank = s.tank ∧ (toBrine ch m r s).rgs.seq = s.rgs.seq
      ∧ (toBrine ch m r s).rgs.move = s.rgs.move ∧ (toBrine ch m r s).selector = s.selector := by
  unfold toBrine
  split
  · obtain ⟨n, run⟩ := rgsIncrement_run (s.brineVolume r.z) (brineStage r.z s)
    rw [brineStage_rgs] at run
    have rgs : (brineResult r s).rgs = _ := (brineResult_rgs r s).trans run
    have tank : (brineResult r s).tank = s.tank := by
      funext x
      unfold State.tank
      rw [rgs]
    exact ⟨tank, by rw [rgs], by rw [rgs], brineResult_selector ..⟩
  · exact ⟨rfl, rfl, rfl, rfl⟩

/-- A full window of an inlet channel that counts: its result goes through ACC, then the trackers leave the accounts. -/
theorem exec_inletResult {ch : Fin 8} (opened : s.channels[ch].run.cond = .opened)
    (full : s.channels[ch].conf.x ≤ s.channels[ch].run.g)
    (counts : s.channels[ch].conf.mode = .edgeCount ∨ s.channels[ch].conf.mode = .countDelta
      ∨ s.channels[ch].conf.mode = .gatedCount)
    (inlet : s.acc.settings.inlet = some ch.val) (hk : 1 ≤ s.acc.settings.k) (hk' : s.acc.settings.k ≤ 60000) :
    let r : ChanResult := { z := s.channels[ch].run.acc, e := s.channels[ch].run.e, timeout := false }
    let v := inletResult r (s.closing ch (closeFull s.channels[ch]))
    ∃ t, exec (.channelResult ch) s = .next t
      ∧ t.accounts = (toBrine ch s.channels[ch].conf.mode r v).accounts ∧ Handed v t := by
  intro r v
  have due : windowFull s.channels[ch] = true := windowFull_iff.2 ⟨opened, by tauto⟩
  refine ⟨_, (exec_channelResult ch s).trans (congrArg Host.Outcome.next (if_pos due)), ?_⟩
  have result : fullResult s.channels[ch] = r := fullResult_counts counts
  have accounted := accounted_inlet inlet ((takesInlet_iff ..).2 ⟨⟨hk, hk'⟩, counts⟩) (closeFull s.channels[ch]) r
  rw [accounts_publication, result, accounted]
  refine ⟨rfl, Handed.trans ?_ (accounted ▸ handed_accounted ..)⟩
  exact .ite fun _ => handed_brineResult ..

/-- The figures of a full window's result are those of the charge. -/
theorem figures_of_accounts {ch : Fin 8} {m : ChannelMode}
    (h : t.accounts = (toBrine ch m r (inletResult r u)).accounts) : Figured (u.charged r) t := by
  obtain ⟨figures, clamp⟩ := (figured_inletResult r u).trans (figured_toBrine ch m r _)
  obtain ⟨acc, -⟩ := accounts_iff.1 h
  exact ⟨by rw [← figures, State.figures, acc]; rfl, by rw [acc]; exact clamp⟩

theorem inletLoad_whole (h : s.drain.kind ≠ some .backwash) (r : ChanResult) : s.inletLoad r =
    s.inletVolume r.z * compensated s.hardnessInUse s.acc.settings.fe s.acc.settings.kFe := by
  rw [State.inletLoad, treatedVolume, if_neg h]

/-- A load that leaves the serving tank above the reserve gives no notice. -/
theorem inletResult_above {x : TankId} (hr : s.noEventRule) (hx : s.confirmed = some x.pos)
    (hc : (s.tank x).charged = true) (hl : s.acc.settings.reserve + s.inletLoad r < (s.tank x).remaining) :
    inletResult r s = s.noticed r := by
  have reserve : ¬ (s.tank x).remaining - s.inletLoad r ≤ s.acc.settings.reserve := by omega
  have left : ¬ (s.tank x).remaining - s.inletLoad r = 0 := by omega
  rw [inletResult_quiet hr, noticesAfter_serving hx hc, decide_eq_false reserve, decide_eq_false left]
  split <;> rfl

/-- The accounts that the trackers and the brine stage leave of an inlet result hold its tanks, its move and the SELECTOR. -/
theorem reads_of_accounts {ch : Fin 8} {m : ChannelMode} (h : t.accounts = (toBrine ch m r u).accounts) :
    t.tank = u.tank ∧ t.rgs.seq = u.rgs.seq ∧ t.rgs.move = u.rgs.move ∧ t.selector = u.selector := by
  obtain ⟨tank, seq, move, selector⟩ := toBrine_reads ch m r u
  obtain ⟨-, rgs, tselector, -⟩ := accounts_iff.1 h
  have tanks : t.tank = (toBrine ch m r u).tank := by
    funext x
    cases x <;> simp only [State.tank, rgs]
  exact ⟨tanks.trans tank, by rw [rgs, seq], by rw [rgs, move], tselector.trans selector⟩

/-! ### A curve from its first point (R87) -/

theorem curveEval_from {p : Nat × Nat} {x : Nat} (h : p.1 ≤ x) (c : List (Nat × Nat)) :
    curveEval (p :: c) x = some (curveFrom p x c) := congrArg some (if_neg (Nat.not_lt.2 h))

theorem curveEval_below {c : List (Nat × Nat)} {p : Nat × Nat} {x : Nat} (hp : c.head? = some p) (hx : x < p.1) :
    curveEval c x = some p.2 := by
  cases c with
  | nil => cases hp
  | cons o rest => cases hp; exact congrArg some (if_pos hx)

theorem curveEval_last {c : List (Nat × Nat)} {p : Nat × Nat} {x : Nat} (hc : Ascending c) (hp : c.getLast? = some p)
    (hx : p.1 ≤ x) : curveEval c x = some p.2 := by
  cases c with
  | nil => cases hp
  | cons o rest =>
    have first : o.1 ≤ p.1 := by
      rcases List.mem_cons.1 (List.mem_of_getLast? hp) with e | e
      · rw [e]
      · exact (Ascending.lt_head hc e).le
    rw [curveEval_from (first.trans hx), curveFrom_last hc hp hx]

theorem curveEval_between {before rest : List (Nat × Nat)} {p q : Nat × Nat} {x : Nat}
    (hc : Ascending (before ++ p :: q :: rest)) (hp : p.1 ≤ x) (hq : x ≤ q.1) :
    curveEval (before ++ p :: q :: rest) x = some (segment p q x) := by
  cases before with
  | nil => exact (curveEval_from hp _).trans (congrArg some (if_pos hq))
  | cons o before =>
    have first : o.1 < p.1 := Ascending.lt_head hc (by simp)
    exact (curveEval_from (first.le.trans hp) _).trans (congrArg some (curveFrom_between hc hp hq))

end Sys2Proof.Machine

namespace Sys2Proof.Proofs
open Sys2Proof Sys2Proof.Machine

/-- Settles O14: the consumers after the charge leave the figures, which the stages give; a curve by induction on its
points. -/
theorem anInletResultIsAccountedAndCharged : Obligations.AnInletResultIsAccountedAndCharged := by
  unfold Obligations.AnInletResultIsAccountedAndCharged
  refine ⟨?figures, fun x => rfl, ?curves, ?above⟩
  case curves =>
    intro c x ascending
    refine ⟨fun p => curveEval_below, fun p => curveEval_last ascending, fun before p q rest hc => ?_⟩
    subst hc
    exact curveEval_between ascending
  case figures =>
    intro ch s c q dv aVol dvt measured h hc grow opened full counts inlet hk hk'
    obtain ⟨t, taken, accounts, -⟩ := exec_inletResult opened full counts inlet hk hk'
    obtain ⟨uacc, umeasured, uhardness, uvolume, uallowance, uload, udrain, -, urgs, uselector⟩ :=
      closing_reads ch (closeFull c) s
    have figured := figures_of_accounts accounts
    obtain ⟨total, carry, hardness, compensates, held, treated, slip, bypassed⟩ := figured.fields
    set u := s.closing ch (closeFull c)
    let r : ChanResult := { z := c.run.acc, e := c.run.e, timeout := false }
    have before := charged_acc r u
    have same : s.measuredHardness = measured := measuredHardness_eq s
    have use : s.hardnessInUse = h := by rw [hardnessInUse_eq, same]
    have load : s.inletLoad r = dvt * hc := by rw [State.inletLoad, use]; rfl
    have confirmed : u.confirmed = s.confirmed := congrArg (·.run.lastConfirmed) uselector
    have tank (x : TankId) : u.tank x = s.tank x := by cases x <;> simp only [State.tank, urgs]
    rw [uacc, uvolume, uallowance, uhardness, umeasured, udrain, use, same] at before
    refine ⟨t, taken, ?_, ?_, ?_, ?_, ?_, ?_, fun hq => figured.clamp ?_, fun x hx hx' => ?_, fun x hx hx' => ?_, fun hb => ?_,
      fun hn => ?_⟩
    · rw [total, before]
      rfl
    · rw [carry, before]
      rfl
    · rw [hardness, before]
    · rw [compensates, before]
      rfl
    · rw [held, before]
    · rw [treated, before]
      rfl
    · rw [before]
      exact Bool.or_eq_true_iff.2 (.inr (decide_eq_true hq))
    all_goals
      rw [slip, bypassed]
    · have := slip_charged (r := r) (confirmed.trans hx) ((tank x).symm ▸ hx')
      rwa [uacc, uload, load, tank] at this
    · have := slip_uncharged (r := r) (confirmed.trans hx) ((tank x).symm ▸ hx')
      rwa [uacc, uload, load] at this
    · have := slip_bypass (r := r) (confirmed.trans hb)
      rwa [uacc, uvolume, uallowance, udrain] at this
    · have := slip_unknown (r := r) (confirmed.trans hn)
      rwa [uacc, uload, load] at this
  case above =>
    intro ch s x c dv measured h dl opened full counts inlet hk hk' noBackwash serves holds above noRule
    obtain ⟨t, taken, accounts, -⟩ := exec_inletResult opened full counts inlet hk hk'
    obtain ⟨uacc, -, uhardness, uvolume, -, uload, udrain, ulkg, urgs, uselector⟩ := closing_reads ch (closeFull c) s
    set u := s.closing ch (closeFull c)
    let r : ChanResult := { z := c.run.acc, e := c.run.e, timeout := false }
    have use : s.hardnessInUse = h := by rw [hardnessInUse_eq, measuredHardness_eq]
    have load : u.inletLoad r = dl := by rw [uload, inletLoad_whole noBackwash, use]; rfl
    have confirmed : u.confirmed = some x.pos := (congrArg (·.run.lastConfirmed) uselector).trans serves
    have tank (y : TankId) : u.tank y = s.tank y := by cases y <;> simp only [State.tank, urgs]
    have charged : (u.tank x).charged = true := (tank x).symm ▸ holds
    have quiet : inletResult r u = u.noticed r :=
      inletResult_above (by rw [State.noEventRule, ulkg]; exact noRule) confirmed charged (by
        rw [uacc, load, tank]; exact above)
    obtain ⟨-, -, -, -, -, -, slip, -⟩ := (figures_of_accounts accounts).fields
    obtain ⟨ttank, seq, -, -⟩ := reads_of_accounts accounts
    obtain ⟨ntank, nrgs, -, -⟩ := noticed_reads r u
    obtain ⟨ctank, cother, cseq, -⟩ := charged_reads confirmed charged r
    obtain ⟨cslip, -⟩ := slip_charged (r := r) confirmed charged
    refine ⟨t, taken, ?_, ?_, ?_, ?_⟩
    · rw [ttank, quiet, ntank, ctank, load, tank]
    · rw [ttank, quiet, ntank, cother, tank]
    · rw [slip, cslip, uacc, load, tank, Nat.sub_eq_zero_of_le (by omega)]
      rfl
    · rw [seq, quiet, nrgs, cseq, urgs]

end Sys2Proof.Proofs
end

section
/-! PROOFS. A swap whose SELECTOR arrives at the tank the swap leaves. -/

namespace Sys2Proof.Machine

/-- A swap toward tank B in flight, the SELECTOR in a move toward tank A, which it recognises; tank B, in service, holds
more than the reserve and tank A nothing; the drain line is free, the main OPEN and the program without an enabled step.
No run reaches it: `State.runTankLaw` has the SELECTOR in no move but the one the swap has asked. -/
def crossedSwap : State := { State.reset with
  selector := { Actuator.reset with
    conf := { Actuator.reset.conf with enabled := true }
    run := { Actuator.reset.run with
      st := .moving .tankA 1, recognised := some .tankA, lastConfirmed := some .tankB } }
  rgs := { Rgs.reset with
    tankA := { Tank.reset with nominal := 1, st := .exhausted }
    tankB := { Tank.reset with nominal := 1, remaining := 1, st := .service }
    move := .swap .b }
  lkg := { Lkg.reset with main := .opened } }

/-- The arrival at tank A queues tank A's run, which gets the line at once, has no step and ends CANCELLED; the swap then
sought at its end (R101) asks the SELECTOR away from tank A within the same event. -/
theorem crossedSwap_leaves : (arrivalEvent .selector crossedSwap).selector.run.st = .moving .tankB 1 := by decide

end Sys2Proof.Machine

namespace Sys2Proof.Proofs
open Sys2Proof Sys2Proof.Machine

/-- Refutes O31: its second part has the SELECTOR rest at the position after every arrival of any state, also where the
swap's run gets the drain line at once and ends within the event. From `crossedSwap` the SELECTOR is in a move again. -/
theorem not_selectorMovesStartAndEnd : ¬ Obligations.SelectorMovesStartAndEnd := by
  unfold Obligations.SelectorMovesStartAndEnd
  rintro ⟨-, positions, -⟩
  obtain ⟨t, taken, rests, -⟩ := positions (.arrival .selector) .tankA crossedSwap (fun y h => nomatch h) rfl (.inl ⟨rfl, rfl⟩)
  have next : t = arrivalEvent .selector crossedSwap := by
    injection taken with next
    exact next.symm
  rw [next, crossedSwap_leaves] at rests
  cases rests

end Sys2Proof.Proofs
end

section
/-! PROOFS. The end of a run at SERVICE. -/

namespace Sys2Proof.Machine

variable {s t u : State} {k : Grant}

/-! ### The closing of the accumulator (R95, R122) -/

/-- Two states that differ in SLT and the flags alone. -/
def SaltMoved (s t : State) : Prop := t = { s with slt := t.slt, mgu := { s.mgu with changes := t.mgu.changes } }

theorem SaltMoved.trans (h : SaltMoved s t) (g : SaltMoved t u) : SaltMoved s u := by
  unfold SaltMoved at h g ⊢
  rw [g, h]

theorem SaltMoved.ite {p : Prop} [Decidable p] (h : SaltMoved s t) : SaltMoved s (if p then t else s) := by
  split
  · exact h
  · rfl

theorem saltMoved_setSalt (x : Salt) (s : State) : SaltMoved s (setSalt x s) := by
  unfold SaltMoved
  rw [setSalt_slt]
  exact setSalt_eq x s

theorem saltMoved_bridgeCheck (b : BridgeResult) (s : State) : SaltMoved s (bridgeCheck b s) := by
  cases b with
  | notChecked => rfl
  | weak => exact saltMoved_setSalt ..
  | normal => exact saltMoved_setSalt ..

theorem saltMoved_sltClose (v : DrawValues) (warm : Bool) (s : State) : SaltMoved s (sltClose v warm s) := by
  unfold sltClose
  dsimp only
  refine SaltMoved.trans (.trans (.trans (.trans (.ite (saltMoved_setSalt ..)) (saltMoved_setSalt ..))
    (saltMoved_bridgeCheck ..)) (.ite ?_)) rfl
  exact rfl

theorem store_judgeSalt (s : State) : (judgeSalt s).slt.store = s.slt.store := by rw [judgeSalt, setSalt_slt]

theorem store_bridgeCheck (b : BridgeResult) (s : State) : (bridgeCheck b s).slt.store = s.slt.store := by
  cases b with
  | notChecked => rfl
  | weak => exact (congrArg Salt.store (setSalt_slt ..)).trans rfl
  | normal => exact (congrArg Salt.store (setSalt_slt ..)).trans rfl

/-- The store loses the salt of a draw that moved any brine (R122). -/
theorem store_sltClose (v : DrawValues) (warm : Bool) (s : State) : (sltClose v warm s).slt.store =
    if 0 < v.volume then s.slt.store - v.saltG else s.slt.store := by
  have unchecked (u : State) : (if u.slt.refill.phase = .inRefill then endRefillUnchecked u else u).slt.store =
      u.slt.store := by split <;> rfl
  refine (unchecked _).trans ((store_bridgeCheck ..).trans ((store_judgeSalt _).trans ?_))
  split
  · rw [setSalt_slt]
  · rfl

/-- The closing moves the accumulator, SLT and the brine values of the record. -/
theorem closeDraw_eq (warm : Bool) (s : State) : closeDraw warm s = { s with
    acc := { s.acc with draw := { s.acc.draw with isOpen := false } }
    slt := (sltClose (drawValues s.acc.draw) warm (accClosed s)).slt
    rgs := { s.rgs with record := s.rgs.record.map fun r => { r with brine := some (drawValues s.acc.draw) } }
    mgu := { s.mgu with changes := (closeDraw warm s).mgu.changes } } := by
  have closed : SaltMoved (accClosed s) _ := saltMoved_sltClose (drawValues s.acc.draw) warm (accClosed s)
  have changes : (closeDraw warm s).mgu.changes = (sltClose (drawValues s.acc.draw) warm (accClosed s)).mgu.changes := rfl
  rw [changes, closeDraw, updateRecord]
  generalize sltClose (drawValues s.acc.draw) warm (accClosed s) = v at closed ⊢
  rw [closed]
  rfl

/-! ### The restoration (R95, R111) -/

/-- The restoration moves the accumulator, SLT, the tank and the record. -/
theorem restoreTank_eq (x : TankId) (s : State) : restoreTank x s =
    let r := restoration s (s.acc.draw.saltDg / 10) (s.tank x).nominal
    let y := { s.tank x with st := .standby, remaining := r.restored, seconds := 0, lastOutcome := some .complete }
    { s with
      acc := { s.acc with draw := { s.acc.draw with isOpen := false } }
      slt := (sltClose (drawValues s.acc.draw) false (accClosed s)).slt
      rgs := { s.rgs with
        tankA := if x = .a then y else s.rgs.tankA
        tankB := if x = .b then y else s.rgs.tankB
        record := s.rgs.record.map fun rec => { rec with
          brine := some (drawValues s.acc.draw), endedAt := some s.mgu.seconds, outcome := some .complete
          restoration := some r } }
      mgu := { s.mgu with changes := (restoreTank x s).mgu.changes } } := by
  have ended (y : Tank) (r : Restoration) (u : State) :
      updateRecord (fun rec => { rec with restoration := some r }) (recordEnd .complete (setTank x y u)) = { u with
        rgs := { u.rgs with
          tankA := if x = .a then y else u.rgs.tankA
          tankB := if x = .b then y else u.rgs.tankB
          record := u.rgs.record.map fun rec => { rec with
            endedAt := some u.mgu.seconds, outcome := some .complete, restoration := some r } }
        mgu := { u.mgu with changes := (setTank x y u).mgu.changes } } := by
    rw [setTank_eq]
    simp only [recordEnd, updateRecord, Option.map_map]
    rfl
  have tank : (closeDraw false s).tank = s.tank := by
    rw [closeDraw_eq]
    rfl
  have closed : restoration (closeDraw false s) = restoration s := by
    rw [closeDraw_eq]
    rfl
  have step : restoreTank x s = _ := ended _ _ (closeDraw false s)
  have changes : (restoreTank x s).mgu.changes = _ := congrArg (·.mgu.changes) step
  dsimp only at changes
  rw [← changes, tank, closed, closeDraw_eq] at step
  simp only [Option.map_map] at step
  exact step

/-! ### The line given back, and no swap sought (R74, R101) -/

theorem drainRelease_held {r : Requester} (h : s.drain.holder = some r) (hw : s.noneWaits) :
    drainRelease k r s = drainFreed s := by
  rw [drainRelease, if_pos h]
  refine drainRegrant_idle (.inr (.inr ?_))
  rw [State.noneWaits, drainFreed_drain]
  exact hw

theorem drainFreed_eq (s : State) : drainFreed s = { s with
    drain := { s.drain with holder := none, allowance := 0, kind := none }
    acc := { s.acc with allowCarry := (drainFreed s).acc.allowCarry } } := by
  rw [← drainFreed_drain]
  unfold drainFreed setAllowance
  split <;> rfl

/-- No swap is sought with no tank serving, or one that holds more than the reserve. -/
theorem swapSeek_content (h : s.confirmed = none ∨ s.confirmed = some .bypass
    ∨ ∃ x : TankId, s.confirmed = some x.pos ∧ s.reserve < (s.tank x).remaining) : swapSeek k s = s := by
  unfold swapSeek
  rcases h with h | h | ⟨x, hx, hr⟩
  · rw [State.serviceTank, h]
    rfl
  · rw [State.serviceTank, h]
    rfl
  · rw [(serviceTank_iff s x).2 hx]
    exact if_neg (Nat.not_le.2 hr)

theorem releaseAndFinish_idle (hd : s.drain.holder = some .regen) (hw : s.noneWaits)
    (h : s.confirmed = none ∨ s.confirmed = some .bypass
      ∨ ∃ x : TankId, s.confirmed = some x.pos ∧ s.reserve < (s.tank x).remaining) :
    releaseAndFinish k s = toIdle (drainFreed s) := by
  have reads : (toIdle (drainFreed s)).confirmed = s.confirmed ∧ (toIdle (drainFreed s)).reserve = s.reserve
      ∧ (toIdle (drainFreed s)).tank = s.tank := by
    rw [drainFreed_eq]
    exact ⟨rfl, rfl, rfl⟩
  obtain ⟨confirmed, reserve, tank⟩ := reads
  rw [releaseAndFinish, drainRelease_held hd hw, finish]
  exact swapSeek_content (by rw [confirmed, reserve, tank]; exact h)

/-- The rotor at SERVICE in PARKING completes the run. -/
theorem rgsRotorDone_parked {x : TankId} (hq : s.rgs.seq = .parking) (hx : s.rgs.run.tank = some x) :
    rgsRotorDone k .service s = releaseAndFinish k (restoreTank x s) := by
  simp only [rgsRotorDone, hq, if_pos, parkDone, hx]

/-! ### The end of a backwash (R142, R143) -/

theorem bwRotorDone_parked (hq : s.flt.st = .parking) : bwRotorDone k .service s = bwParkDone k s := by
  simp only [bwRotorDone, hq, if_pos]

theorem bwRestore_eq (s : State) : bwRestore s = { s with flt := (bwRestore s).flt } := by
  unfold bwRestore
  cases s.flt.run.stage <;> rfl

theorem bwRestore_stage {i : Fin 4} (h : s.flt.run.stage = some i) : (bwRestore s).flt = { s.flt with
    demand := none, watch := true
    stages := s.flt.stages.set i { s.flt.stages[i] with volBw := 0, secBw := 0, dpCount := 0 }
    record := s.flt.record.map fun r => { r with endedAt := some s.mgu.seconds, outcome := some .complete } } := by
  unfold bwRestore
  rw [h]
  rfl

theorem drainRelease_unheld {r : Requester} (h : s.drain.holder ≠ some r) (hw : s.drain.waits r = false) :
    drainRelease k r s = s := by
  rw [drainRelease, if_neg h, if_neg (by rw [hw]; exact Bool.false_ne_true)]

/-- The line given back with nobody waiting moves the line and the allowance's carry alone. -/
theorem drainRelease_quiet (r : Requester) (hw : s.noneWaits) : ∃ d n, drainRelease k r s =
    { s with drain := d, acc := { s.acc with allowCarry := n } } := by
  by_cases h : s.drain.holder = some r
  · rw [drainRelease_held h hw, drainFreed_eq]
    exact ⟨_, _, rfl⟩
  · have waits : s.drain.waits r = false := by
      obtain ⟨regen, backwash, test⟩ := hw
      cases r <;> assumption
    rw [drainRelease_unheld h waits]
    exact ⟨_, _, rfl⟩

end Sys2Proof.Machine

namespace Sys2Proof.Proofs
open Sys2Proof Sys2Proof.Machine

/-- Settles O24: the restoration, the line given back and IDLE are one change of the state the rotor's arrival has left. -/
theorem aRunCompletesAtService : Obligations.ARunCompletesAtService := by
  unfold Obligations.ARunCompletesAtService
  refine ⟨fun x n s => ?regeneration, fun n s => ?backwash⟩
  case regeneration =>
    intro saltG dose eff restored parking tank moves recognised holds waits content
    have due : arrivalDue (s.act .regenRotor) = some .service :=
      (arrivalDue_target (target_of_moving (.inl moves))).trans (if_pos recognised)
    let u := enterPosition .regenRotor .service s
    have restoredLine : (restoreTank x u).drain = s.drain ∧ (restoreTank x u).confirmed = s.confirmed
        ∧ (restoreTank x u).reserve = s.acc.settings.reserve
        ∧ (restoreTank x u).tank x.other = s.tank x.other := by
      rw [restoreTank_eq]
      exact ⟨rfl, rfl, rfl, by cases x <;> rfl⟩
    obtain ⟨drain, confirmed, reserve, other⟩ := restoredLine
    have ends : arrivalEvent .regenRotor s = toIdle (drainFreed (restoreTank x u)) := by
      rw [arrivalEvent_due due]
      refine (rgsRotorDone_parked (s := u) parking tank).trans (releaseAndFinish_idle (by rw [drain]; exact holds)
        (by rw [State.noneWaits, drain]; exact waits) ?_)
      rw [confirmed, reserve]
      exact content.imp_right (.imp_right fun h => ⟨x.other, h.1, by rw [other]; exact h.2⟩)
    refine ⟨_, congrArg Host.Outcome.next ends, ?_⟩
    rw [drainFreed_eq, restoreTank_eq]
    exact ⟨by cases x <;> rfl, by cases x <;> rfl, rfl, rfl, rfl, rfl, rfl, rfl, store_sltClose .., rfl, flagSet_raise _ _,
      rfl, rfl⟩
  case backwash =>
    intro parking moves recognised waits
    have due : arrivalDue (s.act .filterRotor) = some .service :=
      (arrivalDue_target (target_of_moving moves)).trans (if_pos recognised)
    let u := enterPosition .filterRotor .service s
    have ends : arrivalEvent .filterRotor s = bwParkDone onGrant u :=
      (arrivalEvent_due due).trans (bwRotorDone_parked (s := u) parking)
    refine ⟨_, congrArg Host.Outcome.next ends, ?_⟩
    cases decided : s.flt.run.decided with
    | true =>
      have idle : bwParkDone onGrant u = bwIdle u := if_pos decided
      rw [idle]
      exact ⟨rfl, flagSet_raise _ _, rfl, rfl, rfl, rfl, fun _ => nofun, fun _ => ⟨rfl, rfl⟩⟩
    | false =>
      have idle : bwParkDone onGrant u = bwIdle (drainRelease onGrant .backwash (bwRestore u)) :=
        if_neg (by rw [show u.flt.run.decided = false from decided]; exact Bool.false_ne_true)
      have restored : (bwRestore u).drain = s.drain := by
        rw [bwRestore_eq]
        rfl
      have quiet : (bwRestore u).noneWaits := by rw [State.noneWaits, restored]; exact waits
      rw [idle]
      refine ⟨?_, flagSet_raise _ _, ?_, ?_, ?_, ?_, fun i _ hi hh => ?_, nofun⟩
      case refine_6 =>
        rw [drainRelease_held (by rw [restored]; exact hh) quiet, drainFreed_eq]
        refine ⟨?_, congrArg (fun d : Drain => { d with holder := none, allowance := 0, kind := none }) restored⟩
        exact congrArg (fun f : Flt => { f with st := .idle, run := BwRun.empty }) (bwRestore_stage (s := u) hi)
      all_goals
        obtain ⟨d, n, released⟩ := drainRelease_quiet (k := onGrant) .backwash quiet
        rw [released, bwRestore_eq]
        rfl

end Sys2Proof.Proofs
end

section
/-! PROOFS. Writes of the softener settings, of a tank and of the salt settings. -/

namespace Sys2Proof.Machine

variable {s t u : State}

/-! ### The softener settings (R79 to R81) -/

theorem softenerRange_eq_false (c : Softener) : softenerRange c = false ↔
    c.k ≤ 60000 ∧ c.kb ≤ 60000 ∧ c.hf ≤ 2000 ∧ c.fe ≤ 2000 ∧ c.kFe ≤ 4000 ∧ c.reserve ≤ 100000000
      ∧ (∀ h, c.regenHour = some h → h ≤ 23) ∧ (∀ d, c.maxDays = some d → 1 ≤ d ∧ d ≤ 30)
      ∧ (60 ≤ c.holdLimit ∧ c.holdLimit ≤ 14400) ∧ (1 ≤ c.resin ∧ c.resin ≤ 255) ∧ c.cNom ≤ 400
      ∧ (∀ n, c.inlet = some n → n ≤ 7) ∧ (∀ n, c.brine = some n → n ≤ 7) := by
  simp [softenerRange, notIn_eq_false, outside_eq_false, above_eq_false, and_assoc]

theorem sameChannel_eq_false (c : Softener) :
    sameChannel c = false ↔ ∀ n, ¬ (c.inlet = some n ∧ c.brine = some n) := by
  unfold sameChannel
  cases c.inlet with
  | none => exact iff_of_true rfl fun n h => nomatch h.1
  | some m =>
    rw [Option.isSome_some, Bool.true_and, beq_eq_false_iff_ne]
    exact ⟨fun h n e => h (e.1.trans e.2.symm), fun h e => h m ⟨rfl, e.symm⟩⟩

/-- A tracker other than BRINE_LEVEL moves alone, with the flags. -/
theorem moveTracker_eq {i : Fin 7} (h : i ≠ brineLevel) (r : TrackerRun) (s : State) : moveTracker i r s = { s with
    trackers := s.trackers.set i { s.trackers[i] with run := r }
    mgu := { s.mgu with changes := (moveTracker i r s).mgu.changes } } := by
  unfold moveTracker
  dsimp only
  rw [if_neg h, raiseIf_eq]
  rfl

/-- A write of the settings is stored, and FLOW, while enabled, discards its estimate at a change of K (R42, R81). -/
theorem writeSoftener_cases (c : Softener) (s : State) :
    (writeSoftener c s = storeSoftener c s ∧ (c.k = s.acc.settings.k ∨ s.trackers[flow].conf.enabled = false))
      ∨ ((c.k ≠ s.acc.settings.k ∧ s.trackers[flow].conf.enabled = true) ∧ ∃ r : TrackerRun, r.est = none ∧ r.st ≠ .locked
        ∧ writeSoftener c s = moveTracker flow r (storeSoftener c s)) := by
  unfold writeSoftener
  split
  · rename_i changed
    unfold rebindAfterK
    split
    · rename_i enabled
      refine .inr ⟨⟨changed, enabled⟩, _, ?_, ?_, rfl⟩
      · split <;> rfl
      · split <;> exact nofun
    · exact .inl ⟨rfl, .inr (Bool.eq_false_of_not_eq_true ‹_›)⟩
  · exact .inl ⟨rfl, .inl (not_not.1 ‹_›)⟩

/-! ### A tank (R99) -/

theorem tankRange_eq_false (c : TankContents) : tankRange c = false ↔
    c.nominal ≤ 100000000 ∧ ∀ n, c.remaining = some n → n ≤ 100000000 := by
  simp [tankRange, above_eq_false]

theorem judgeWrittenTank_eq (s : State) (x : TankId) (n r : Nat) : judgeWrittenTank s x n r =
    if n = 0 then .unconfigured
    else if s.confirmed = some x.pos then (if 0 < r then .service else .exhausted)
    else if s.acc.settings.reserve < r then .standby else .exhausted := by
  unfold judgeWrittenTank State.reserve
  by_cases serves : s.confirmed = some x.pos
  · rw [if_pos ((serviceTank_iff s x).2 serves), if_pos serves]
  · rw [if_neg (mt (serviceTank_iff s x).1 serves), if_neg serves]

/-! ### The salt settings (R119, R120, R123) -/

theorem saltRanges_eq_false (c : SaltSettings) : (!SaltRanges c) = false ↔
    c.capacity ≤ 500000 ∧ c.reminder ≤ 500000 ∧ c.bridgeConc ≤ 400 ∧ c.presentHeight ≤ 2000
      ∧ c.emptyHeight ≤ 2000 ∧ c.minRise ≤ 2000 := by
  simp [SaltRanges]

theorem writeSalt_eq (c : SaltSettings) (s : State) : writeSalt c s = { s with
    slt := (writeSalt c s).slt, mgu := { s.mgu with changes := (writeSalt c s).mgu.changes } } :=
  (saltMoved_setSalt ..).trans (saltMoved_setSalt ..)

/-- SLT after a write: the store clamped, and SALT_LOW of the settings written. -/
theorem writeSalt_slt (c : SaltSettings) (s : State) : (writeSalt c s).slt =
    let x : Salt := { s.slt with settings := c, store := min c.capacity s.slt.store }
    { x with
      storeCause := storeCause x, levelCause := levelCause x s.trackers[brineLevel]
      saltLow := storeCause x || levelCause x s.trackers[brineLevel]
      levelState := s.trackers[brineLevel].run.st, levelEst := s.trackers[brineLevel].run.est } := by
  simp only [writeSalt, judgeSalt, setSalt_slt, setSalt_trackers]

theorem levelCause_iff (x : Salt) (t : Tracker) : levelCause x t = true ↔
    t.run.st = .locked ∧ ∃ e, t.run.est = some e ∧ e ≤ x.settings.emptyHeight := by
  unfold levelCause
  cases t.run.est <;> simp

theorem flagSet_setSalt {x : Salt} (h : x.store ≠ s.slt.store ∨ x.saltLow ≠ s.slt.saltLow) :
    (setSalt x s).flagSet .salt := by
  have moved : x.store ≠ s.slt.store ∨ x.saltLow ≠ s.slt.saltLow ∨ x.bridge ≠ s.slt.bridge
      ∨ x.refillShort ≠ s.slt.refillShort := h.imp_right .inl
  rw [setSalt, flagSet_raiseIf, decide_eq_true moved, Bool.or_true]

theorem flagSet_writeSalt {c : SaltSettings}
    (h : (writeSalt c s).slt.store ≠ s.slt.store ∨ (writeSalt c s).slt.saltLow ≠ s.slt.saltLow) :
    (writeSalt c s).flagSet .salt := by
  rcases h with store | low
  · refine reach_flagSet (reach_judgeSalt .same) _ (flagSet_setSalt (.inl ?_))
    rwa [writeSalt_slt] at store
  · refine flagSet_setSalt (.inr fun same => low ?_)
    exact (congrArg Salt.saltLow (setSalt_slt ..)).trans (same.trans ((congrArg Salt.saltLow (setSalt_slt _ s)).trans rfl))

end Sys2Proof.Machine

namespace Sys2Proof.Proofs
open Sys2Proof Sys2Proof.Machine

/-- Settles O47: the checks of a write in their order, then what it stores; K changed sets FLOW back, and the salt judged
afresh reads the settings written. -/
theorem settingsTanksAndSaltAreWritten : Obligations.SettingsTanksAndSaltAreWritten := by
  unfold Obligations.SettingsTanksAndSaltAreWritten
  intro tag s hs
  have entry (x : TankId) (c : TankContents) :
      writeTankEntry x.index c s = checked (checkTank s x c) (writeTank x c) s := by cases x <;> rfl
  refine ⟨fun c => ⟨fun hr hd => ?softener, fun hr => ?softenerRange, fun hr hd => ?softenerConflict⟩,
    fun i c hi => ?softenerIndex, fun x c => ⟨fun hr hb => ?tank, fun hr => ?tankRange, fun hr hb => ?tankBusy⟩,
    fun i c hi => ?tankIndex, fun c => ⟨fun hr hh => ?salt, fun hr => ?saltRange, fun hr hh => ?saltConflict,
      fun i hi => ?saltIndex⟩⟩
  case softenerIndex =>
    exact exec_refused (h := writeSoftenerEntry i c) hs rfl rfl (checkTyped_above hi (fun _ => nonzero_badIndex hi _) c)
  case softenerRange =>
    exact exec_refused (h := writeSoftenerEntry 0 (some c)) hs rfl rfl
      (checks_range (top := 0) le_rfl (mt (softenerRange_eq_false c).1 hr) _)
  case softenerConflict =>
    exact exec_refused (h := writeSoftenerEntry 0 (some c)) hs rfl rfl
      (checks_conflict (top := 0) le_rfl ((softenerRange_eq_false c).2 hr) (mt (sameChannel_eq_false c).1 hd))
  case softener =>
    have passed : checkTyped 0 0 (checkSoftener 0) (some c) = none :=
      checks_passed (top := 0) le_rfl ((softenerRange_eq_false c).2 hr) ((sameChannel_eq_false c).2 hd)
    have stored {t : State} (ht : writeSoftener c s = t) :
        exec (.writeEntrySoftener tag 0 (some c)) s = .next (pushReply tag [0] t) :=
      exec_stored (h := writeSoftenerEntry 0 (some c)) hs rfl rfl passed ht
    rcases writeSoftener_cases c s with ⟨e, kept⟩ | ⟨⟨changed, enabled⟩, r, est, st, e⟩
    · refine ⟨_, stored e, rfl, fun _ _ => rfl, fun _ => rfl, fun hk he => ?_, rfl, rfl⟩
      exact kept.elim (absurd · hk) fun disabled => nomatch disabled.symm.trans he
    · have moved : (s.trackers.set flow { s.trackers[flow] with run := r })[flow].run = r :=
        congrArg Tracker.run (Vector.getElem_set_self flow.isLt)
      refine ⟨_, stored (e.trans (moveTracker_eq (by decide) r _)), rfl, fun i hi => ?_, fun hk => ?_, fun _ _ => ?_, rfl, rfl⟩
      · exact Vector.getElem_set_ne flow.isLt _ fun c => hi (Fin.ext c.symm)
      · exact hk.elim (absurd · changed) fun disabled => nomatch disabled.symm.trans enabled
      · exact ⟨(congrArg TrackerRun.est moved).trans est, fun locked => st ((congrArg TrackerRun.st moved).symm.trans locked)⟩
  case tankIndex =>
    obtain ⟨n, rfl⟩ : ∃ n, i = n + 2 := ⟨i - 2, by omega⟩
    exact exec_taken (h := writeTankEntry (n + 2) c) hs rfl
  case tank =>
    have passed : checkTank s x c = none := by
      rw [checkTank, (tankRange_eq_false c).2 hr, beq_eq_false_iff_ne.2 hb]
      rfl
    refine exec_stored (h := writeTankEntry x.index c) hs rfl (entry x c) passed ?_
    rw [writeTank, judgeWrittenTank_eq]
    rfl
  case tankRange =>
    have failed : checkTank s x c = some .range := by
      rw [checkTank, Bool.eq_true_of_not_eq_false (mt (tankRange_eq_false c).1 hr)]
      rfl
    exact exec_refused (h := writeTankEntry x.index c) hs rfl (entry x c) failed
  case tankBusy =>
    have failed : checkTank s x c = some .busy := by
      rw [checkTank, (tankRange_eq_false c).2 hr, beq_iff_eq.2 hb]
      rfl
    exact exec_refused (h := writeTankEntry x.index c) hs rfl (entry x c) failed
  case saltIndex => exact exec_refused (h := writeSaltEntry i c) hs rfl rfl (nonzero_badIndex hi _)
  case saltRange =>
    exact exec_refused (h := writeSaltEntry 0 c) hs rfl rfl
      (checks_range (top := 0) le_rfl (mt (saltRanges_eq_false c).1 hr) _)
  case saltConflict =>
    exact exec_refused (h := writeSaltEntry 0 c) hs rfl rfl
      (checks_conflict (top := 0) le_rfl ((saltRanges_eq_false c).2 hr) (by simpa using hh))
  case salt =>
    have passed : checkSalt 0 c = none :=
      checks_passed (top := 0) le_rfl ((saltRanges_eq_false c).2 hr) (by simpa using hh)
    refine ⟨_, exec_stored (h := writeSaltEntry 0 c) hs rfl rfl passed rfl, ?_⟩
    have whole : pushReply tag [0] (writeSalt c s) = { s with
        slt := (writeSalt c s).slt
        mgu := { s.mgu with
          replies := s.mgu.replies ++ [{ tag := tag, body := [0] }], changes := (writeSalt c s).mgu.changes } } := by
      rw [writeSalt_eq]
      rfl
    refine ⟨?_, ?_, ?_, ?_, ?_, ?_, fun h => flagSet_writeSalt h, whole⟩
    all_goals rw [pushReply_slt, writeSalt_slt]
    rw [Bool.or_eq_true_iff, levelCause_iff]
    exact or_congr_left decide_eq_true_iff

end Sys2Proof.Proofs
end

section
/-! PROOFS. A rotor at the position of the step, and at another one. -/

namespace Sys2Proof.Machine

variable {s : State} {k : Grant}

/-! ### RUNNING entered (R109, R126, R142) -/

theorem startRunning_phase (x : RegenStep) (s : State) : (startRunning x s).acc.phase = phaseOf x.pos := by
  unfold startRunning refillStart
  dsimp only
  split <;> rfl

theorem startRunning_regenRotor (x : RegenStep) (s : State) : (startRunning x s).regenRotor = s.regenRotor := by
  have report : (allowanceReport .regen (some x.allowance) s).regenRotor = s.regenRotor := by rw [allowanceReport_eq]
  unfold startRunning refillStart
  dsimp only
  split <;> exact report

/-- The refill check starts with a REFILL step entered from its start, and stands otherwise. -/
theorem startRunning_slt (x : RegenStep) (s : State) : (startRunning x s).slt =
    if x.pos = .refill ∧ s.rgs.run.fromStart = true then (refillStart s).slt else s.slt := by
  unfold startRunning
  rw [allowanceReport_eq]
  dsimp only
  split <;> rfl

/-! ### HELD entered from POSITIONING (R109, R112, R142, R143) -/

theorem enterHeld_positioning (h : s.rgs.seq = .positioning) (q : SeqState) : enterHeld q s =
    raise .regen { s with rgs := { s.rgs with
      seq := .held, holdDue := false, run := { s.rgs.run with hold := 0, interrupted := some q } } } := by
  rw [enterHeld, stopStep_idle (by rw [h]; exact nofun)]
  rfl

theorem enterBwHeld_positioning (h : s.flt.st = .positioning) (q : SeqState) : enterBwHeld q s =
    raise .filter { s with flt := { s.flt with
      st := .held, holdDue := false, run := { s.flt.run with hold := 0, interrupted := some q } } } := by
  rw [enterBwHeld, stopBwStep_idle (by rw [h]; exact nofun)]
  rfl

/-- A completion at the position of the step in POSITIONING without supply (R109). -/
theorem rgsRotorDone_held {i : Fin 8} (hq : s.rgs.seq = .positioning) (hi : s.rgs.run.step = some i)
    (hs : s.supplied = false) : rgsRotorDone k (regenPos s.rgs.snapshot[i].pos) s = enterHeld .running s := by
  have current : s.regenStep = some s.rgs.snapshot[i] := by rw [State.regenStep, hi]; rfl
  unfold rgsRotorDone
  simp only [hq, current, hs, if_true, Bool.false_eq_true, if_false]

/-- A completion at the position of the step in POSITIONING without supply (R142). -/
theorem bwRotorDone_held {i : Fin 4} (hq : s.flt.st = .positioning) (hi : s.flt.run.step = some i)
    (hs : s.supplied = false) : bwRotorDone k (backwashPos s.flt.snapshot[i].pos) s = enterBwHeld .running s := by
  have current : s.bwStep = some s.flt.snapshot[i] := by rw [State.bwStep, hi]; rfl
  unfold bwRotorDone
  simp only [hq, current, hs, if_true, Bool.false_eq_true, if_false]

theorem supplied_eq_false (h : s.lkg.main ≠ .opened ∨ s.link.fieldFresh = false) : s.supplied = false := by
  rcases h with h | h
  · rw [State.supplied, State.mainOpen, decide_eq_false h, Bool.false_and]
  · rw [State.supplied, h, Bool.and_false]

/-! ### A completion elsewhere is not taken -/

theorem rgsRotorDone_elsewhere {p : Pos} (hq : s.rgs.seq = .positioning)
    (hp : ∀ i, s.rgs.run.step = some i → p ≠ regenPos s.rgs.snapshot[i].pos) : rgsRotorDone k p s = s := by
  unfold rgsRotorDone State.regenStep
  rw [hq]
  cases hi : s.rgs.run.step with
  | none => rfl
  | some i => exact if_neg (hp i hi).symm

theorem bwRotorDone_elsewhere {p : Pos} (hq : s.flt.st = .positioning)
    (hp : ∀ i, s.flt.run.step = some i → p ≠ backwashPos s.flt.snapshot[i].pos) : bwRotorDone k p s = s := by
  unfold bwRotorDone State.bwStep
  rw [hq]
  cases hi : s.flt.run.step with
  | none => rfl
  | some i => exact if_neg (hp i hi).symm

/-! ### The rotor's arrival -/

/-- The arrival of an actuator that recognises the target of its move. -/
theorem arrivalEvent_recognised {a : Actr} {p : Pos} (ht : (s.act a).run.target = some p)
    (hr : (s.act a).run.recognised = some p) :
    arrivalEvent a s = notifyDone a s.confirmed p (enterPosition a p s) :=
  arrivalEvent_due ((arrivalDue_target ht).trans (if_pos hr))

end Sys2Proof.Machine

namespace Sys2Proof.Proofs
open Sys2Proof Sys2Proof.Machine

/-- Settles O18: the arrival is a completion at the position entered, which makes the step RUNNING under supply and the run
HELD without. -/
theorem aStepRunsAtItsPosition : Obligations.AStepRunsAtItsPosition := by
  unfold Obligations.AStepRunsAtItsPosition
  refine ⟨fun i n s => ?regen, fun i n s => ?backwash, fun p n s positioning elsewhere moves recognised => ?regenElsewhere,
    fun p n s positioning elsewhere moves recognised => ?backwashElsewhere⟩
  case regen =>
    intro x p positioning step moves recognised
    let u := enterPosition .regenRotor p s
    have arrives : arrivalEvent .regenRotor s = rgsRotorDone onGrant p u :=
      arrivalEvent_recognised (a := .regenRotor) (target_of_moving moves) recognised
    cases supplied : s.supplied with
    | true =>
      obtain ⟨opened, fresh⟩ := (supplied_line s).1 supplied
      have runs : arrivalEvent .regenRotor s = startRunning x u :=
        arrives.trans (rgsRotorDone_running (s := u) positioning step supplied)
      refine ⟨_, congrArg Host.Outcome.next runs, ?_, flagSet_startRunning x u, startRunning_lkg x u, startRunning_flt x u,
        fun _ _ => ⟨startRunning_rgs x u, ?_, fun holds => ?_, fun refill start => ?_, fun other => ?_⟩, fun shut => ?_⟩
      · rw [startRunning_regenRotor]
        rfl
      · rw [startRunning_phase]
        cases x.pos <;> rfl
      · rw [startRunning_drain, allowanceReport_drain]
        exact if_pos holds
      · exact (startRunning_slt x u).trans (if_pos ⟨refill, start⟩)
      · refine (startRunning_slt x u).trans (if_neg fun c => ?_)
        obtain ⟨refill, start⟩ := c
        exact other.elim (absurd refill) fun resumed => nomatch resumed.symm.trans start
      · exact absurd supplied (by rw [supplied_eq_false shut]; exact nofun)
    | false =>
      have barred : ¬ s.supplied = true := by rw [supplied]; exact nofun
      have held : arrivalEvent .regenRotor s = enterHeld .running u :=
        arrives.trans (rgsRotorDone_held (s := u) positioning step supplied)
      refine ⟨_, congrArg Host.Outcome.next held, ?_⟩
      rw [enterHeld_positioning (s := u) positioning]
      exact ⟨rfl, flagSet_raise _ _, rfl, rfl,
        fun opened fresh => absurd (supplied_of_mainOpen opened fresh) barred, fun _ => ⟨rfl, rfl, rfl, rfl⟩⟩
  case backwash =>
    intro x p positioning step moves recognised
    let u := enterPosition .filterRotor p s
    have arrives : arrivalEvent .filterRotor s = bwRotorDone onGrant p u :=
      arrivalEvent_recognised (a := .filterRotor) (target_of_moving moves) recognised
    cases supplied : s.supplied with
    | true =>
      have runs : arrivalEvent .filterRotor s = setFlt .running (allowanceReport .backwash (some x.allowance) u) :=
        arrives.trans (bwRotorDone_running (s := u) positioning step supplied)
      have drain := allowanceReport_drain .backwash (some x.allowance) u
      refine ⟨_, congrArg Host.Outcome.next runs, ?_⟩
      rw [allowanceReport_eq]
      exact ⟨rfl, flagSet_raise _ _, rfl, rfl, rfl, fun _ _ => ⟨rfl, fun holds => drain.trans (if_pos holds)⟩,
        fun shut => nomatch supplied.symm.trans (supplied_eq_false shut)⟩
    | false =>
      have barred : ¬ s.supplied = true := by rw [supplied]; exact nofun
      have held : arrivalEvent .filterRotor s = enterBwHeld .running u :=
        arrives.trans (bwRotorDone_held (s := u) positioning step supplied)
      refine ⟨_, congrArg Host.Outcome.next held, ?_⟩
      rw [enterBwHeld_positioning (s := u) positioning]
      exact ⟨rfl, flagSet_raise _ _, rfl, rfl, rfl,
        fun opened fresh => absurd (supplied_of_mainOpen opened fresh) barred, fun _ => ⟨rfl, rfl, rfl⟩⟩
  case regenElsewhere =>
    let u := enterPosition .regenRotor p s
    have still : arrivalEvent .regenRotor s = u :=
      (arrivalEvent_recognised (a := .regenRotor) (target_of_moving (.inl moves)) recognised).trans
        (rgsRotorDone_elsewhere (s := u) positioning elsewhere)
    exact ⟨_, congrArg Host.Outcome.next still, rfl, rfl, rfl, rfl⟩
  case backwashElsewhere =>
    let u := enterPosition .filterRotor p s
    have still : arrivalEvent .filterRotor s = u :=
      (arrivalEvent_recognised (a := .filterRotor) (target_of_moving (.inl moves)) recognised).trans
        (bwRotorDone_elsewhere (s := u) positioning elsewhere)
    exact ⟨_, congrArg Host.Outcome.next still, rfl, rfl, rfl⟩

end Sys2Proof.Proofs
end

section
/-! PROOFS. The ends of a run before its rotor has parked: the step stopped, the draw closed, the tank and the record
ended, the fault offered and the line given back. -/

namespace Sys2Proof.Machine

variable {s t u : State} {k : Grant}

/-! ### A fault offered (R173) -/

/-- The first-fault record after an offer. -/
def Mgu.offered (kind : FaultKind) (source : Nat) (detail : Vector Byte 4) (m : Mgu) : FaultRecord :=
  if m.fault.valid then { m.fault with lost := true }
  else { valid := true, lost := m.fault.lost, kind := kind, source := source, seconds := m.seconds, detail := detail }

theorem offerFault_eq (kind : FaultKind) (n : Nat) (d : Vector Byte 4) (s : State) : offerFault kind n d s = { s with
    mgu := { s.mgu with
      fault := s.mgu.offered kind n d, changes := (offerFault kind n d s).mgu.changes } } := by
  unfold offerFault Mgu.offered
  split <;> rfl

theorem offered_valid (kind : FaultKind) (n : Nat) (d : Vector Byte 4) (m : Mgu) :
    (m.offered kind n d).valid = true := by
  unfold Mgu.offered
  split
  · assumption
  · rfl

/-- A valid record is marked LOST. -/
theorem offered_later {m : Mgu} (h : m.fault.valid = true) (kind : FaultKind) (n : Nat) (d : Vector Byte 4) :
    m.offered kind n d = { m.fault with lost := true } := if_pos h

/-- A record that is not valid is filled. -/
theorem offered_first {m : Mgu} (h : m.fault.valid = false) (kind : FaultKind) (n : Nat) (d : Vector Byte 4) :
    m.offered kind n d =
      { valid := true, lost := m.fault.lost, kind := kind, source := n, seconds := m.seconds, detail := d } :=
  if_neg (by rw [h]; exact nofun)

/-! ### The draw closed and the tank ended (R95, R113 to R116) -/

theorem stopStep_draw (s : State) : (stopStep s).acc.draw = s.acc.draw := by
  unfold stopStep allowanceReport setAllowance
  repeat' split
  all_goals rfl

/-- A run with its step stopped and its draw closed. -/
def State.drawEnded (s : State) : State := closeDraw false (stopStep s)

theorem drawEnded_eq (s : State) : s.drawEnded = { s with
    drain := (stopStep s).drain
    acc := { (stopStep s).acc with draw := { s.acc.draw with isOpen := false } }
    slt := s.drawEnded.slt
    rgs := { s.rgs with record := s.rgs.record.map fun r => { r with brine := some (drawValues s.acc.draw) } }
    mgu := { s.mgu with changes := s.drawEnded.mgu.changes } } := by
  have closed := closeDraw_eq false (stopStep s)
  have slt : s.drawEnded.slt = (sltClose (drawValues (stopStep s).acc.draw) false (accClosed (stopStep s))).slt :=
    by rw [State.drawEnded, closed]
  rw [slt, State.drawEnded, closed, stopStep_draw]
  generalize (closeDraw false (stopStep s)).mgu.changes = c
  generalize (sltClose _ _ _).slt = x
  rw [stopStep_eq]

theorem drawEnded_store (s : State) : s.drawEnded.slt.store =
    if 0 < s.acc.draw.volume then s.slt.store - s.acc.draw.saltDg / 10 else s.slt.store := by
  have store : (accClosed (stopStep s)).slt.store = s.slt.store := by rw [stopStep_eq]; rfl
  rw [State.drawEnded, closeDraw_eq]
  refine (store_sltClose ..).trans ?_
  rw [store, stopStep_draw]
  rfl

/-- The run's tank ended: a change of the tank, the record and the flags. -/
theorem endTank_eq {x : TankId} (h : s.rgs.run.tank = some x) (q : TankState) (n : Nat) (o : RunOutcome) :
    endTank q n o s =
      let y := { s.tank x with st := q, remaining := n, lastOutcome := some o }
      { s with
        rgs := { s.rgs with
          tankA := if x = .a then y else s.rgs.tankA
          tankB := if x = .b then y else s.rgs.tankB
          record := s.rgs.record.map fun r => { r with endedAt := some s.mgu.seconds, outcome := some o } }
        mgu := { s.mgu with changes := (endTank q n o s).mgu.changes } } := by
  have ended : endTank q n o s =
      recordEnd o (setTank x { s.tank x with st := q, remaining := n, lastOutcome := some o } s) := by
    simp only [endTank, h]
  rw [ended, setTank_eq]
  rfl

/-- A run with its step stopped, its draw closed, and its tank and record ended. -/
def State.runEnded (q : TankState) (n : Nat) (o : RunOutcome) (s : State) : State := endTank q n o s.drawEnded

theorem runEnded_eq {x : TankId} (h : s.rgs.run.tank = some x) (q : TankState) (n : Nat) (o : RunOutcome) :
    s.runEnded q n o =
      let y := { s.tank x with st := q, remaining := n, lastOutcome := some o }
      { s with
        drain := (stopStep s).drain
        acc := { (stopStep s).acc with draw := { s.acc.draw with isOpen := false } }
        slt := s.drawEnded.slt
        rgs := { s.rgs with
          tankA := if x = .a then y else s.rgs.tankA
          tankB := if x = .b then y else s.rgs.tankB
          record := s.rgs.record.map fun r => { r with
            endedAt := some s.mgu.seconds, outcome := some o, brine := some (drawValues s.acc.draw) } }
        mgu := { s.mgu with changes := (s.runEnded q n o).mgu.changes } } := by
  have tank : s.drawEnded.rgs.run.tank = some x := by rw [drawEnded_eq]; exact h
  have ended : s.runEnded q n o = _ := endTank_eq tank q n o
  have changes : (endTank q n o s.drawEnded).mgu.changes = (s.runEnded q n o).mgu.changes := rfl
  dsimp only at ended
  rw [changes, drawEnded_eq] at ended
  simp only [Option.map_map] at ended
  exact ended

theorem flagSet_endTank {x : TankId} (h : s.rgs.run.tank = some x) {q : TankState} (n : Nat) (o : RunOutcome)
    (hq : (s.tank x).st ≠ q) : (endTank q n o s).flagSet .tank := by
  have ended : endTank q n o s =
      recordEnd o (setTank x { s.tank x with st := q, remaining := n, lastOutcome := some o } s) := by
    simp only [endTank, h]
  rw [ended]
  exact flagSet_setTank (y := { s.tank x with st := q, remaining := n, lastOutcome := some o }) hq.symm

theorem offerRgs_tank {x : TankId} (h : s.rgs.run.tank = some x) (kind : FaultKind) (code : Byte) :
    offerRgs kind code s = offerFault kind x.index (detailBytes (stepByte s.rgs.run.step) code) s := by
  simp only [offerRgs, h]

/-! ### The line given back -/

/-- The line given back with nobody waiting. -/
theorem drainRelease_noneWaits (r : Requester) (hw : s.noneWaits) :
    drainRelease k r s = if s.drain.holder = some r then drainFreed s else s := by
  split
  · exact drainRelease_held ‹_› hw
  · refine drainRelease_unheld ‹_› ?_
    obtain ⟨regen, backwash, test⟩ := hw
    cases r <;> assumption

/-- The line given back with nobody waiting is not the requester's, and nobody waits for it. -/
theorem drainRelease_drain (r : Requester) (hw : s.noneWaits) : (drainRelease k r s).drain =
    if s.drain.holder = some r then { s.drain with holder := none, allowance := 0, kind := none } else s.drain := by
  rw [drainRelease_noneWaits r hw]
  split
  · exact drainFreed_drain s
  · rfl

theorem drainRelease_eq (r : Requester) (hw : s.noneWaits) : drainRelease k r s = { s with
    drain := (drainRelease k r s).drain
    acc := { s.acc with allowCarry := (drainRelease k r s).acc.allowCarry } } := by
  rw [drainRelease_noneWaits r hw]
  split
  · rw [drainFreed_eq]
  · rfl

/-! ### A run ended at a failure (R113, R115, R116) -/

/-- A run that has failed: ended with its tank EXHAUSTED, and the fault offered. -/
def State.runFailed (kind : FaultKind) (o : RunOutcome) (code : Byte) (s : State) : State :=
  offerRgs kind code (s.runEnded .exhausted 0 o)

theorem runFailed_offer {x : TankId} (h : s.rgs.run.tank = some x) (kind : FaultKind) (o : RunOutcome) (code : Byte) :
    s.runFailed kind o code =
      offerFault kind x.index (detailBytes (stepByte s.rgs.run.step) code) (s.runEnded .exhausted 0 o) := by
  have ended := runEnded_eq h .exhausted 0 o
  have tank : (s.runEnded .exhausted 0 o).rgs.run.tank = some x := by rw [ended]; exact h
  have step : (s.runEnded .exhausted 0 o).rgs.run.step = s.rgs.run.step := by rw [ended]
  rw [State.runFailed, offerRgs_tank tank, step]

theorem runFailed_eq {x : TankId} (h : s.rgs.run.tank = some x) (kind : FaultKind) (o : RunOutcome) (code : Byte) :
    s.runFailed kind o code =
      let y := { s.tank x with st := .exhausted, remaining := 0, lastOutcome := some o }
      { s with
        drain := (stopStep s).drain
        acc := { (stopStep s).acc with draw := { s.acc.draw with isOpen := false } }
        slt := s.drawEnded.slt
        rgs := { s.rgs with
          tankA := if x = .a then y else s.rgs.tankA
          tankB := if x = .b then y else s.rgs.tankB
          record := s.rgs.record.map fun r => { r with
            endedAt := some s.mgu.seconds, outcome := some o, brine := some (drawValues s.acc.draw) } }
        mgu := { s.mgu with
          fault := s.mgu.offered kind x.index (detailBytes (stepByte s.rgs.run.step) code)
          changes := (s.runFailed kind o code).mgu.changes } } := by
  rw [runFailed_offer h, offerFault_eq]
  generalize (offerFault _ _ _ _).mgu.changes = c
  rw [runEnded_eq h]
  rfl

theorem faultOffered_runFailed {x : TankId} (h : s.rgs.run.tank = some x) (kind : FaultKind) (o : RunOutcome)
    (code : Byte) :
    FaultOffered kind x.index (detailBytes (stepByte s.rgs.run.step) code) s (s.runFailed kind o code) := by
  have ended := runEnded_eq h .exhausted 0 o
  rw [runFailed_offer h]
  exact faultOffered_offerFault kind x.index _ (by rw [ended]) (by rw [ended])

/-- A run abandoned, its fault offered and its outcome decided. -/
def State.abandoned (code : Byte) (s : State) : State := dropTank (s.runFailed .rgsAbandoned .abandoned code)

theorem abandoned_eq {x : TankId} (h : s.rgs.run.tank = some x) (code : Byte) : s.abandoned code =
    let y := { s.tank x with st := .exhausted, remaining := 0, lastOutcome := some .abandoned }
    { s with
      drain := (stopStep s).drain
      acc := { (stopStep s).acc with draw := { s.acc.draw with isOpen := false } }
      slt := s.drawEnded.slt
      rgs := { s.rgs with
        tankA := if x = .a then y else s.rgs.tankA
        tankB := if x = .b then y else s.rgs.tankB
        run := { s.rgs.run with tank := none }
        record := s.rgs.record.map fun r => { r with
          endedAt := some s.mgu.seconds, outcome := some .abandoned, brine := some (drawValues s.acc.draw) } }
      mgu := { s.mgu with
        fault := s.mgu.offered .rgsAbandoned x.index (detailBytes (stepByte s.rgs.run.step) code)
        changes := (s.abandoned code).mgu.changes } } := by
  have changes : (s.abandoned code).mgu.changes = (s.runFailed .rgsAbandoned .abandoned code).mgu.changes := rfl
  have failed := runFailed_eq h .rgsAbandoned .abandoned code
  rw [changes, State.abandoned]
  generalize s.runFailed .rgsAbandoned .abandoned code = v at failed ⊢
  rw [failed]
  rfl

theorem faultOffered_abandoned {x : TankId} (h : s.rgs.run.tank = some x) (code : Byte) :
    FaultOffered .rgsAbandoned x.index (detailBytes (stepByte s.rgs.run.step) code) s (s.abandoned code) :=
  (faultOffered_runFailed h .rgsAbandoned .abandoned code).reach (reach_dropTank .same)

/-! ### PARKING entered, and the line given back before it -/

/-- PARKING entered, the rotor moving toward SERVICE. -/
theorem startParking_eq (h : s.answer .regenRotor .service = .moving) : startParking k s = { s with
    regenRotor := (startParking k s).regenRotor
    rgs := { s.rgs with seq := .parking, run := { s.rgs.run with step := none } }
    mgu := { s.mgu with changes := (startParking k s).mgu.changes } } := by
  rw [startParking_moving h]
  rfl

theorem target_startParking (h : s.answer .regenRotor .service = .moving) :
    (startParking k s).regenRotor.run.target = some .service := by
  rw [startParking_moving h]
  exact target_actRequest (a := .regenRotor) h

/-- The line given back by the regeneration, and the rotor asked toward SERVICE. -/
def State.parked (k : Grant) (s : State) : State := startParking k (drainRelease k .regen s)

theorem released_moving (hw : s.noneWaits) (h : s.answer .regenRotor .service = .moving) :
    (drainRelease k .regen s).answer .regenRotor .service = .moving := by
  rw [drainRelease_eq .regen hw]
  exact h

theorem parked_eq (hw : s.noneWaits) (h : s.answer .regenRotor .service = .moving) : s.parked k = { s with
    regenRotor := (s.parked k).regenRotor
    drain := if s.drain.holder = some .regen then { s.drain with holder := none, allowance := 0, kind := none }
      else s.drain
    acc := { s.acc with allowCarry := (s.parked k).acc.allowCarry }
    rgs := { s.rgs with seq := .parking, run := { s.rgs.run with step := none } }
    mgu := { s.mgu with changes := (s.parked k).mgu.changes } } := by
  have parked : s.parked k = _ := startParking_eq (k := k) (released_moving (k := k) hw h)
  rw [← drainRelease_drain (k := k) .regen hw, parked]
  generalize startParking k _ = t
  generalize hv : drainRelease k .regen s = v
  rw [drainRelease_eq .regen hw] at hv
  rw [← hv]

theorem target_parked (hw : s.noneWaits) (h : s.answer .regenRotor .service = .moving) :
    (s.parked k).regenRotor.run.target = some .service := target_startParking (released_moving hw h)

theorem flagSet_parked (hw : s.noneWaits) (h : s.answer .regenRotor .service = .moving) :
    (s.parked k).flagSet .regen := by
  rw [State.parked, startParking_moving (released_moving hw h), flagSet_actRequest]
  exact flagSet_raise _ _

theorem reach_parked (hk : SafeGrant k) (s : State) : Reach s (s.parked k) :=
  reach_startParking _ hk (reach_drainRelease _ _ hk .same)

/-- A run abandoned at its hold limit (R113). -/
theorem rgsAbandon_eq (hq : s.rgs.seq = .held) :
    rgsAbandon k s = (s.abandoned (toByte (seqCode (s.rgs.run.interrupted.getD .held)))).parked k := by
  have still : stopStep s = s := stopStep_idle (by rw [hq]; exact nofun)
  rw [State.abandoned, State.runFailed, State.runEnded, State.drawEnded, still]
  rfl

/-! ### A backwash abandoned (R143) -/

/-- A backwash abandoned, its fault offered. -/
def State.bwAbandoned (s : State) : State := offerFlt (bwRecordEnd .abandoned s)

/-- The fault detail of a backwash abandoned. -/
def BwRun.abandonDetail (r : BwRun) : Vector Byte 4 :=
  detailBytes (stepByte r.step) (toByte (seqCode (r.interrupted.getD .held)))

theorem bwAbandoned_offer {i : Fin 4} (h : s.flt.run.stage = some i) : s.bwAbandoned =
    offerFault .fltAbandoned i.val s.flt.run.abandonDetail (bwRecordEnd .abandoned s) := by
  unfold State.bwAbandoned offerFlt
  simp only [show (bwRecordEnd .abandoned s).flt.run = s.flt.run from rfl, h]
  rfl

theorem bwAbandoned_eq {i : Fin 4} (h : s.flt.run.stage = some i) : s.bwAbandoned = { s with
    flt := { s.flt with record := s.flt.record.map fun r =>
      { r with endedAt := some s.mgu.seconds, outcome := some .abandoned } }
    mgu := { s.mgu with
      fault := s.mgu.offered .fltAbandoned i.val s.flt.run.abandonDetail
      changes := s.bwAbandoned.mgu.changes } } := by
  rw [bwAbandoned_offer h, offerFault_eq]
  rfl

/-- The line given back by the backwash, and the rotor asked toward SERVICE. -/
def State.bwParked (k : Grant) (s : State) : State := startBwParking k true (drainRelease k .backwash s)

theorem bwParked_moving (hw : s.noneWaits) (h : s.answer .filterRotor .service = .moving) : s.bwParked k =
    actRequest .filterRotor .service (setFlt .parking
      (setBwRun { s.flt.run with step := none, decided := true } (drainRelease k .backwash s))) := by
  have released := drainRelease_eq (k := k) .backwash hw
  have answer : (drainRelease k .backwash s).answer .filterRotor .service = .moving := by rw [released]; exact h
  have run : (drainRelease k .backwash s).flt.run = s.flt.run := by rw [released]
  rw [State.bwParked, startBwParking_moving answer, run]

theorem bwParked_eq (hw : s.noneWaits) (h : s.answer .filterRotor .service = .moving) : s.bwParked k = { s with
    filterRotor := (s.bwParked k).filterRotor
    drain := if s.drain.holder = some .backwash then { s.drain with holder := none, allowance := 0, kind := none }
      else s.drain
    acc := { s.acc with allowCarry := (s.bwParked k).acc.allowCarry }
    flt := { s.flt with st := .parking, run := { s.flt.run with step := none, decided := true } }
    mgu := { s.mgu with changes := (s.bwParked k).mgu.changes } } := by
  rw [bwParked_moving hw h, ← drainRelease_drain (k := k) .backwash hw]
  generalize hv : drainRelease k .backwash s = v
  rw [drainRelease_eq .backwash hw] at hv
  rw [← hv]
  rfl

theorem target_bwParked (hw : s.noneWaits) (h : s.answer .filterRotor .service = .moving) :
    (s.bwParked k).filterRotor.run.target = some .service := by
  rw [bwParked_moving hw h]
  refine target_actRequest (a := .filterRotor) ?_
  rw [drainRelease_eq .backwash hw]
  exact h

/-- The requester that has given back the line does not hold it. -/
theorem holder_freed (r : Requester) (d : Drain) : (if d.holder = some r then
    { d with holder := none, allowance := 0, kind := none } else d).holder ≠ some r := by
  split
  · exact nofun
  · assumption

end Sys2Proof.Machine

namespace Sys2Proof.Proofs
open Sys2Proof Sys2Proof.Machine

/-- Settles O25: the run abandoned and parked is one change of the state, with the fault offered between. -/
theorem aRunHeldToItsLimitIsAbandoned : Obligations.ARunHeldToItsLimitIsAbandoned := by
  unfold Obligations.ARunHeldToItsLimitIsAbandoned
  refine ⟨fun x s held due tank waits moving => ?regen, fun i s held due stage waits moving => ?backwash,
    fun s => ⟨fun other => ?regenLeft, fun other => ?backwashLeft⟩⟩
  case regen =>
    let v := s.abandoned (toByte (seqCode (s.rgs.run.interrupted.getD .held)))
    have ends : regenHoldEvent s = v.parked onGrant :=
      (if_pos (by rw [State.regenHoldDue, held, due]; rfl)).trans (rgsAbandon_eq held)
    have v_eq : v = _ := abandoned_eq tank _
    have drain : v.drain = s.drain := by rw [v_eq, stopStep_idle (by rw [held]; exact nofun)]
    have waits' : v.noneWaits := by rw [State.noneWaits, drain]; exact waits
    have moving' : v.answer .regenRotor .service = .moving := by rw [v_eq]; exact moving
    have t_eq := parked_eq (k := onGrant) waits' moving'
    refine ⟨_, congrArg Host.Outcome.next ends, ?_⟩
    refine ⟨?tank, ?other, ?_, ?_, ?_, ?_, ?holder, ?_, target_parked waits' moving', ?valid, fun first => ?fault⟩
    case holder => rw [t_eq]; exact holder_freed .regen v.drain
    case valid => rw [t_eq, v_eq]; exact offered_valid ..
    case fault =>
      rw [t_eq, v_eq]
      dsimp only
      rw [offered_first first]
      exact ⟨rfl, rfl, rfl⟩
    case tank => rw [t_eq, v_eq]; cases x <;> rfl
    case other => rw [t_eq, v_eq]; cases x <;> rfl
    all_goals rw [t_eq, v_eq]
  case backwash =>
    let v := s.bwAbandoned
    have ends : bwHoldEvent s = v.bwParked onGrant := if_pos (by rw [State.bwHoldDue, held, due]; rfl)
    have v_eq : v = _ := bwAbandoned_eq stage
    have waits' : v.noneWaits := by rw [v_eq]; exact waits
    have moving' : v.answer .filterRotor .service = .moving := by rw [v_eq]; exact moving
    have t_eq := bwParked_eq (k := onGrant) waits' moving'
    refine ⟨_, congrArg Host.Outcome.next ends, ?_⟩
    refine ⟨?_, ?_, ?_, ?_, ?bwHolder, target_bwParked waits' moving', ?bwValid, fun first => ?bwFault⟩
    case bwHolder => rw [t_eq]; exact holder_freed .backwash v.drain
    case bwValid => rw [t_eq, v_eq]; exact offered_valid ..
    case bwFault =>
      rw [t_eq, v_eq]
      dsimp only
      rw [offered_first first]
      exact ⟨rfl, rfl, rfl⟩
    all_goals rw [t_eq, v_eq]
  case regenLeft =>
    exact congrArg Host.Outcome.next (if_neg (by rw [State.regenHoldDue, beq_false_of_ne other]; exact nofun))
  case backwashLeft =>
    exact congrArg Host.Outcome.next (if_neg (by rw [State.bwHoldDue, beq_false_of_ne other]; exact nofun))

end Sys2Proof.Proofs
end

section
/-! PROOFS. A swap sought at the end of a run, and CANCEL_REGEN. -/

namespace Sys2Proof.Machine

variable {s t u : State} {k : Grant}

/-! ### A swap sought at the end of a run (R101, R102) -/

theorem tankPos_inj {x y : TankId} (h : x.pos = y.pos) : x = y := by cases x <;> cases y <;> first | rfl | cases h

/-- With the sequencer IDLE and no selector move in flight, the tank in service holds no more than the reserve and the
other one stands by with more. -/
structure State.Seeks (s : State) (y : TankId) : Prop where
  serves : s.confirmed = some y.pos
  idle : s.rgs.seq = .idle
  still : s.rgs.move = .none
  low : (s.tank y).remaining ≤ s.reserve
  standby : (s.tank y.other).st = .standby
  high : s.reserve < (s.tank y.other).remaining

theorem swapReady_iff (x : TankId) : s.swapReady x = true ↔
    s.rgs.seq = .idle ∧ s.rgs.move = .none ∧ (s.tank x).st = .standby ∧ s.reserve < (s.tank x).remaining := by
  simp [State.swapReady, and_assoc]

theorem swapSeek_sought {y : TankId} (h : s.Seeks y) : swapSeek k s = startSwap k y.other s := by
  obtain ⟨serves, idle, still, low, standby, high⟩ := h
  rw [swapSeek, (serviceTank_iff s y).2 serves]
  exact (if_pos low).trans (if_pos ((swapReady_iff _).2 ⟨idle, still, standby, high⟩))

theorem swapSeek_unsought (h : ∀ y, ¬ s.Seeks y) : swapSeek k s = s := by
  unfold swapSeek seekAtNotice
  split
  · rename_i y serves
    split
    · rename_i low
      refine if_neg fun ready => h y ?_
      obtain ⟨idle, still, standby, high⟩ := (swapReady_iff _).1 ready
      exact ⟨(serviceTank_iff s y).1 serves, idle, still, low, standby, high⟩
    · rfl
  · rfl

/-- A refused request leaves the actuator. -/
theorem actRequest_refused {a : Actr} {p : Pos} (h : s.answer a p = .faulted ∨ s.answer a p = .disabled) :
    actRequest a p s = s := by
  have same : (requestRun (s.act a).conf p (s.act a).run).1 = (s.act a).run := by
    unfold State.answer at h
    rcases requestRun_cases (s.act a).conf p (s.act a).run with
      ⟨-, e⟩ | ⟨-, -, e⟩ | ⟨-, -, e⟩ | ⟨-, -, e⟩ | ⟨-, -, e⟩ | ⟨-, -, e⟩ <;> rw [e] at h ⊢
    all_goals exact h.elim nofun nofun
  rw [actRequest, same]
  exact setAct_act_again a s

theorem startSwap_moving {y : TankId} (h : s.answer .selector y.pos = .moving) :
    startSwap k y s = actRequest .selector y.pos (setMove (.swap y) s) := by simp only [startSwap, h]

theorem startSwap_refused {y : TankId}
    (h : s.answer .selector y.pos = .faulted ∨ s.answer .selector y.pos = .disabled) : startSwap k y s = setMove .none s := by
  have same : actRequest .selector y.pos (setMove (.swap y) s) = setMove (.swap y) s := actRequest_refused h
  rcases h with h | h <;> (simp only [startSwap, h]; rw [same]; rfl)

theorem target_startSwap {y : TankId} (h : s.answer .selector y.pos = .moving) :
    (startSwap k y s).rgs.move = .swap y ∧ (startSwap k y s).selector.run.target = some y.pos := by
  rw [startSwap_moving h, actRequest_rgs]
  exact ⟨rfl, target_actRequest (s := setMove (.swap y) s) (a := .selector) h⟩

/-- A swap sought but not completed at once moves the SELECTOR and the move in flight alone. -/
theorem swapSeek_eq (h : ∀ y, s.Seeks y → s.answer .selector y.other.pos ≠ .completed) : swapSeek k s = { s with
    selector := (swapSeek k s).selector, rgs := { s.rgs with move := (swapSeek k s).rgs.move } } := by
  by_cases sought : ∃ y, s.Seeks y
  · obtain ⟨y, seeks⟩ := sought
    rw [swapSeek_sought seeks]
    cases answer : s.answer .selector y.other.pos with
    | moving => rw [startSwap_moving answer]; rfl
    | completed => exact absurd answer (h y seeks)
    | faulted => rw [startSwap_refused (.inl answer)]; rfl
    | disabled => rw [startSwap_refused (.inr answer)]; rfl
  · rw [swapSeek_unsought (not_exists.1 sought)]

/-! ### CANCEL_REGEN in QUEUED (R114) -/

theorem keepTank_eq {x : TankId} (h : s.rgs.run.tank = some x) (q : TankState) (o : RunOutcome) :
    keepTank q o s = endTank q (s.tank x).remaining o s := by simp only [keepTank, h]

/-- A queued run cancelled, before a swap is sought: the request withdrawn, the tank in the state given. -/
def State.cancelled (q : TankState) (s : State) : State :=
  toIdle (keepTank q .cancelled { s with drain := { s.drain with waitRegen := false } })

theorem cancelled_eq {x : TankId} (h : s.rgs.run.tank = some x) (q : TankState) : s.cancelled q =
    let y := { s.tank x with st := q, lastOutcome := some .cancelled }
    { s with
      drain := { s.drain with waitRegen := false }
      rgs := { s.rgs with
        tankA := if x = .a then y else s.rgs.tankA
        tankB := if x = .b then y else s.rgs.tankB
        seq := .idle, run := RegenRun.empty
        record := s.rgs.record.map fun r => { r with endedAt := some s.mgu.seconds, outcome := some .cancelled } }
      mgu := { s.mgu with changes := (s.cancelled q).mgu.changes } } := by
  let w : State := { s with drain := { s.drain with waitRegen := false } }
  have ended : keepTank q .cancelled w = _ := (keepTank_eq (s := w) h q .cancelled).trans
    (endTank_eq (s := w) (show w.rgs.run.tank = some x from h) ..)
  unfold State.cancelled
  generalize hv : keepTank q .cancelled w = v at ended ⊢
  rw [ended]
  rfl

theorem cancelQueued_eq {q : TankState} (hp : s.rgs.run.prior = some q) (hd : s.drain.holder ≠ some .regen) :
    cancelQueued k s = swapSeek k (s.cancelled q) := by
  rw [cancelQueued, drainRelease_withdrawn hd]
  simp only [hp]
  rfl

/-! ### CANCEL_REGEN in POSITIONING, RUNNING or HELD (R114) -/

theorem stopStep_settings (s : State) : (stopStep s).acc.settings = s.acc.settings := by
  unfold stopStep allowanceReport setAllowance
  repeat' split
  all_goals rfl

/-- A run cancelled with its tank as given. -/
def State.runCancelled (k : Grant) (q : TankState) (n : Nat) (s : State) : State :=
  startParking k (dropTank (s.runEnded q n .cancelled))

/-- The tank is EXHAUSTED once a draw has begun, and judged by the reserve before. -/
theorem cancelRun_cases {x : TankId} (h : s.rgs.run.tank = some x) : ∃ q n, cancelRun k s = s.runCancelled k q n
    ∧ (s.rgs.run.drawBegun = true → q = .exhausted ∧ n = 0)
    ∧ (s.rgs.run.drawBegun = false → n = (s.tank x).remaining
        ∧ q = if s.acc.settings.reserve < (s.tank x).remaining then .standby else .exhausted) := by
  have ended := drawEnded_eq s
  have tank : s.drawEnded.rgs.run.tank = some x := by rw [ended]; exact h
  have begun : s.drawEnded.rgs.run.drawBegun = s.rgs.run.drawBegun := by rw [ended]
  have cancels : cancelRun k s = startParking k (dropTank (if s.rgs.run.drawBegun = true
      then exhaustTank .cancelled s.drawEnded
      else keepTank (if s.drawEnded.reserve < (s.drawEnded.tank x).remaining then .standby else .exhausted) .cancelled
        s.drawEnded)) := by
    rw [← begun]
    unfold State.drawEnded at tank ⊢
    simp only [cancelRun, tank]
  have reserve : s.drawEnded.reserve = s.acc.settings.reserve := by
    rw [ended]
    exact congrArg Softener.reserve (stopStep_settings s)
  have remaining : s.drawEnded.tank x = s.tank x := by rw [ended]; cases x <;> rfl
  cases drawn : s.rgs.run.drawBegun with
  | true =>
    refine ⟨.exhausted, 0, ?_, fun _ => ⟨rfl, rfl⟩, nofun⟩
    rw [cancels, if_pos drawn]
    rfl
  | false =>
    refine ⟨_, _, ?_, nofun, fun _ => ⟨rfl, rfl⟩⟩
    rw [cancels, if_neg (by rw [drawn]; exact nofun), keepTank_eq tank, reserve, remaining]
    rfl

theorem runCancelled_eq {x : TankId} (h : s.rgs.run.tank = some x) (hr : s.answer .regenRotor .service = .moving)
    (q : TankState) (n : Nat) : s.runCancelled k q n =
      let y := { s.tank x with st := q, remaining := n, lastOutcome := some .cancelled }
      { s with
        regenRotor := (s.runCancelled k q n).regenRotor
        drain := (stopStep s).drain
        acc := { (stopStep s).acc with draw := { s.acc.draw with isOpen := false } }
        slt := s.drawEnded.slt
        rgs := { s.rgs with
          tankA := if x = .a then y else s.rgs.tankA
          tankB := if x = .b then y else s.rgs.tankB
          seq := .parking, run := { s.rgs.run with tank := none, step := none }
          record := s.rgs.record.map fun r => { r with
            endedAt := some s.mgu.seconds, outcome := some .cancelled, brine := some (drawValues s.acc.draw) } }
        mgu := { s.mgu with changes := (s.runCancelled k q n).mgu.changes } } := by
  have ended := runEnded_eq h q n .cancelled
  have moving : (dropTank (s.runEnded q n .cancelled)).answer .regenRotor .service = .moving := by rw [ended]; exact hr
  have parked : s.runCancelled k q n = _ := startParking_eq (k := k) moving
  unfold State.runCancelled at parked ⊢
  generalize startParking k _ = t at parked ⊢
  rw [ended] at parked
  exact parked

theorem target_runCancelled {x : TankId} (h : s.rgs.run.tank = some x) (hr : s.answer .regenRotor .service = .moving)
    (q : TankState) (n : Nat) : (s.runCancelled k q n).regenRotor.run.target = some .service := by
  refine target_startParking ?_
  rw [runEnded_eq h]
  exact hr

end Sys2Proof.Machine

namespace Sys2Proof.Proofs
open Sys2Proof Sys2Proof.Machine

/-- Settles O26: in QUEUED the swap is sought from the run cancelled; in the phases after it the run is ended and
parked. -/
theorem cancelRegenIsTakenBySequencerState : Obligations.CancelRegenIsTakenBySequencerState := by
  unfold Obligations.CancelRegenIsTakenBySequencerState
  intro tag x s takes
  refine ⟨fun stands => ?refused, fun p queued tank prior unheld => ?queued, fun phase tank moving => ?running⟩
  case refused =>
    refine exec_status (h := cancelRegenCmd) takes rfl (st := .wrongState) ?_
    rcases stands with idle | parking
    · simp only [cancelRegenCmd, idle]
    · simp only [cancelRegenCmd, parking]
  case queued =>
    intro st sought
    let v := s.cancelled p
    have v_eq : v = _ := cancelled_eq tank p
    have taken : exec (.cancelRegen tag) s = .next (pushReply tag [0] (swapSeek onGrant v)) := by
      rw [← cancelQueued_eq prior unheld]
      exact exec_effect (h := cancelRegenCmd) (st := .ok) takes rfl (by simp only [cancelRegenCmd, queued])
    have remaining (y : TankId) : (v.tank y).remaining = (s.tank y).remaining := by
      rw [v_eq]
      cases x <;> cases y <;> rfl
    have states (y : TankId) : (v.tank y).st = st y := by rw [v_eq]; cases x <;> cases y <;> rfl
    have idle : v.rgs.seq = .idle := rfl
    have outside : v.confirmed = s.confirmed ∧ v.rgs.move = s.rgs.move ∧ v.reserve = s.acc.settings.reserve
        ∧ v.selector = s.selector := by rw [v_eq]; exact ⟨rfl, rfl, rfl, rfl⟩
    obtain ⟨confirmed, move, reserve, selector⟩ := outside
    have seeks (y : TankId) : v.Seeks y ↔ sought y := by
      constructor
      · rintro ⟨serves, -, still, low, standby, high⟩
        rw [confirmed] at serves
        rw [move] at still
        rw [remaining, reserve] at low high
        rw [states] at standby
        exact ⟨serves, still, low, standby, high⟩
      · rintro ⟨serves, still, low, standby, high⟩
        rw [← confirmed] at serves
        rw [← move] at still
        rw [← reserve, ← remaining] at low high
        rw [← states] at standby
        exact ⟨serves, idle, still, low, standby, high⟩
    have answer (q : Pos) : v.answer .selector q = s.answer .selector q := by rw [v_eq]; rfl
    have reached : Reach s (swapSeek onGrant v) := by
      rw [← cancelQueued_eq prior unheld]
      exact reach_cancelQueued _ reach_onGrant .same
    refine ⟨_, taken, ?replies, fun uncompleted => ?ended, fun unsought => ?still, fun y seek starts => ?moving,
      fun y seek refuses => ?refuses⟩
    case replies =>
      obtain ⟨-, -, -, -, -, -, mgu⟩ := reach_parts reached
      exact congrArg (fun m : Mgu => m.replies ++ [⟨tag, [0]⟩]) mgu
    case ended =>
      have t_eq : swapSeek onGrant v = _ := swapSeek_eq fun y seek => by
        rw [answer]
        exact uncompleted y ((seeks y).1 seek)
      rw [t_eq, v_eq]
      refine ⟨rfl, rfl, ?_, ?_, rfl, rfl⟩ <;> cases x <;> rfl
    case still =>
      rw [swapSeek_unsought fun y seek => unsought y ((seeks y).1 seek)]
      exact ⟨move, selector⟩
    case moving =>
      rw [swapSeek_sought ((seeks y).2 seek)]
      exact target_startSwap ((answer _).trans starts)
    case refuses =>
      rw [swapSeek_sought ((seeks y).2 seek), startSwap_refused (by rw [answer]; exact refuses)]
      rfl
  case running =>
    obtain ⟨q, n, cancels, begun, unbegun⟩ := cancelRun_cases (k := onGrant) tank
    have taken : exec (.cancelRegen tag) s = .next (pushReply tag [1] (s.runCancelled onGrant q n)) := by
      rw [← cancels]
      refine exec_effect (h := cancelRegenCmd) (st := .accepted) takes rfl ?_
      rcases phase with phase | phase | phase <;> simp only [cancelRegenCmd, phase]
    have t_eq := runCancelled_eq (k := onGrant) tank moving q n
    have cancelled : (s.runCancelled onGrant q n).tank x =
        { s.tank x with st := q, remaining := n, lastOutcome := some .cancelled } := by rw [t_eq]; cases x <;> rfl
    refine ⟨_, taken, ?_, ?_, fun drawn => ?drawn, fun undrawn => ?undrawn, ?_, target_runCancelled tank moving q n,
      ?holder, ?_⟩
    case drawn =>
      obtain ⟨rfl, rfl⟩ := begun drawn
      exact cancelled
    case undrawn =>
      obtain ⟨rfl, rfl⟩ := unbegun undrawn
      exact cancelled
    case holder =>
      have held : (stopStep s).drain.holder = s.drain.holder := by rw [stopStep_drain_eq]
      rw [t_eq]
      exact held
    all_goals rw [t_eq]; rfl

end Sys2Proof.Proofs
end

section
/-! PROOFS. A fault or a refusal of a rotor ends its run. -/

namespace Sys2Proof.Machine

variable {s t u v : State} {k : Grant}

/-! ### A fault of an actuator (R65, R66, R69) -/

/-- The command of a fault of the moving actuator that is due: the last attempt timed out, or a stall away from its
target. -/
def State.Fails (s : State) (a : Actr) (c : Instr) (kind : FaultKind) : Prop := ∃ p n, (s.act a).run.st = .moving p n
  ∧ ((c = .travelTimeout a ∧ (s.act a).run.travel = some 0 ∧ (s.act a).conf.retry < n ∧ kind = .actNoResponse)
    ∨ (c = .stall a ∧ (s.act a).run.stallSeen = true ∧ (s.act a).run.recognised ≠ some p ∧ kind = .actStall))

/-- A fault due is ACT's fault and then its owner's notice of it. -/
theorem exec_of_fails {a : Actr} {c : Instr} {kind : FaultKind} (h : s.Fails a c kind) :
    ∃ code q d1 d2, exec c s = .next (notifyFault a code (actFault a q kind d1 d2 s)) := by
  obtain ⟨p, n, moving, ⟨rfl, expired, last, rfl⟩ | ⟨rfl, seen, away, rfl⟩⟩ := h
  · have due := (timeoutDue_moving moving).trans (if_pos expired)
    exact ⟨_, _, _, _, congrArg Host.Outcome.next (timeoutEvent_fault due last)⟩
  · have due := (stallDue_moving moving).trans (if_pos ⟨seen, away⟩)
    exact ⟨_, _, _, _, congrArg Host.Outcome.next (stallEvent_due due)⟩

theorem actFault_eq (a : Actr) (q : ActState) (kind : FaultKind) (d1 d2 : Byte) (s : State) :
    actFault a q kind d1 d2 s =
      let v := setAct a ((actFault a q kind d1 d2 s).act a) s
      { v with mgu := { s.mgu with
        fault := s.mgu.offered kind a.index (detailBytes d1 d2)
        changes := (actFault a q kind d1 d2 s).mgu.changes } } := by
  dsimp only
  rw [actFault_act]
  unfold actFault
  rw [offerFault_eq]
  cases a <;> rfl

theorem actFault_regenRotor (q : ActState) (kind : FaultKind) (d1 d2 : Byte) (s : State) :
    actFault .regenRotor q kind d1 d2 s = { s with
      regenRotor := (actFault .regenRotor q kind d1 d2 s).regenRotor
      mgu := { s.mgu with
        fault := s.mgu.offered kind 2 (detailBytes d1 d2)
        changes := (actFault .regenRotor q kind d1 d2 s).mgu.changes } } := actFault_eq ..

theorem actFault_filterRotor (q : ActState) (kind : FaultKind) (d1 d2 : Byte) (s : State) :
    actFault .filterRotor q kind d1 d2 s = { s with
      filterRotor := (actFault .filterRotor q kind d1 d2 s).filterRotor
      mgu := { s.mgu with
        fault := s.mgu.offered kind 3 (detailBytes d1 d2)
        changes := (actFault .filterRotor q kind d1 d2 s).mgu.changes } } := actFault_eq ..

/-! ### A regeneration ended FAULTED (R115) -/

theorem other_of_ne {x y : TankId} (h : y ≠ x) : y.other = x := by
  cases x <;> cases y <;> first | rfl | exact absurd rfl h

/-- A run whose tank does not serve ends FAULTED with the line given back and no swap sought. -/
theorem rgsFault_idle {x : TankId} (ht : s.rgs.run.tank = some x) (hd : s.drain.holder = some .regen) (hw : s.noneWaits)
    (hc : s.confirmed ≠ some x.pos) (code : Byte) :
    rgsFault k code s = toIdle (drainFreed (s.runFailed .rgsFaulted .faulted code)) := by
  let v := s.runFailed .rgsFaulted .faulted code
  have v_eq : v = _ := runFailed_eq ht .rgsFaulted .faulted code
  have line := stopStep_drain_eq s
  have holder : v.drain.holder = some .regen := by rw [v_eq]; dsimp only; rw [line]; exact hd
  have waits : v.noneWaits := by rw [v_eq, State.noneWaits]; dsimp only; rw [line]; exact hw
  have confirmed : (toIdle (drainFreed v)).confirmed = s.confirmed := by rw [drainFreed_eq, v_eq]; rfl
  have ended : ((toIdle (drainFreed v)).tank x).st = .exhausted := by rw [drainFreed_eq, v_eq]; cases x <;> rfl
  have released : rgsFault k code s = swapSeek k (toIdle (drainFreed v)) :=
    congrArg (fun u => swapSeek k (toIdle u)) (drainRelease_held holder waits)
  refine released.trans (swapSeek_unsought fun y seek => ?_)
  have other : y.other = x := other_of_ne (by rintro rfl; exact hc (confirmed.symm.trans seek.serves))
  have standby := seek.standby
  rw [other, ended] at standby
  cases standby

theorem rgsFault_eq {x : TankId} (ht : s.rgs.run.tank = some x) (hd : s.drain.holder = some .regen) (hw : s.noneWaits)
    (hc : s.confirmed ≠ some x.pos) (code : Byte) : rgsFault k code s =
      let y := { s.tank x with st := .exhausted, remaining := 0, lastOutcome := some .faulted }
      { s with
        drain := { s.drain with holder := none, allowance := 0, kind := none }
        acc := { (stopStep s).acc with
          draw := { s.acc.draw with isOpen := false }, allowCarry := (rgsFault k code s).acc.allowCarry }
        slt := s.drawEnded.slt
        rgs := { s.rgs with
          tankA := if x = .a then y else s.rgs.tankA
          tankB := if x = .b then y else s.rgs.tankB
          seq := .idle, run := RegenRun.empty
          record := s.rgs.record.map fun r => { r with
            endedAt := some s.mgu.seconds, outcome := some .faulted, brine := some (drawValues s.acc.draw) } }
        mgu := { s.mgu with
          fault := s.mgu.offered .rgsFaulted x.index (detailBytes (stepByte s.rgs.run.step) code)
          changes := (rgsFault k code s).mgu.changes } } := by
  have line := stopStep_drain_eq s
  rw [rgsFault_idle ht hd hw hc, drainFreed_eq]
  generalize (drainFreed _).acc.allowCarry = n
  have failed := runFailed_eq ht .rgsFaulted .faulted code
  generalize s.runFailed .rgsFaulted .faulted code = v at failed ⊢
  rw [failed]
  dsimp only
  rw [line]
  rfl

theorem flagSet_rgsFault {x : TankId} (ht : s.rgs.run.tank = some x) (hd : s.drain.holder = some .regen)
    (hw : s.noneWaits) (hc : s.confirmed ≠ some x.pos) (code : Byte) : (rgsFault k code s).flagSet .regen := by
  rw [rgsFault_idle ht hd hw hc]
  exact flagSet_raise _ _

theorem flagSet_tank_rgsFault (hk : SafeGrant k) {x : TankId} (ht : s.rgs.run.tank = some x)
    (hx : (s.tank x).st ≠ .exhausted) (code : Byte) : (rgsFault k code s).flagSet .tank := by
  have ended := drawEnded_eq s
  have tank : s.drawEnded.rgs.run.tank = some x := by rw [ended]; exact ht
  have same : s.drawEnded.tank x = s.tank x := by rw [ended]; cases x <;> rfl
  have set : (s.runEnded .exhausted 0 .faulted).flagSet .tank :=
    flagSet_endTank tank 0 .faulted (by rw [same]; exact hx)
  exact reach_flagSet (reach_releaseAndFinish _ hk (reach_offerRgs _ _ .same)) _ set

theorem faultOffered_rgsFault (hk : SafeGrant k) {x : TankId} (ht : s.rgs.run.tank = some x) (code : Byte) :
    FaultOffered .rgsFaulted x.index (detailBytes (stepByte s.rgs.run.step) code) s (rgsFault k code s) :=
  (faultOffered_runFailed ht .rgsFaulted .faulted code).reach (reach_releaseAndFinish _ hk .same)

/-- A rotor that fails with the outcome not decided ends the run FAULTED. -/
theorem rgsRotorFailed_fault {x : TankId}
    (h : s.rgs.seq = .positioning ∨ s.rgs.seq = .running ∨ s.rgs.seq = .held ∨ s.rgs.seq = .parking)
    (ht : s.rgs.run.tank = some x) (code : Byte) : rgsRotorFailed k code s = rgsFault k code s := by
  rcases h with h | h | h | h <;> simp [rgsRotorFailed, h, ht]

/-- A rotor that fails on its way to SERVICE, with the outcome decided and no tank serving, makes the sequencer IDLE. -/
theorem rgsRotorFailed_idle (hq : s.rgs.seq = .parking) (ht : s.rgs.run.tank = none) (hd : s.drain.holder ≠ some .regen)
    (hw : s.noneWaits) (hc : ∀ y : TankId, s.confirmed ≠ some y.pos) (code : Byte) :
    rgsRotorFailed k code s = toIdle s := by
  have finishes : rgsRotorFailed k code s = releaseAndFinish k s := by simp [rgsRotorFailed, hq, ht]
  rw [finishes, releaseAndFinish, drainRelease_noneWaits .regen hw, if_neg hd]
  exact swapSeek_unsought fun y seek => hc y seek.serves

/-! ### A backwash ended FAULTED (R143, R144) -/

theorem bwFault_eq (hw : s.noneWaits) : bwFault k s = { s with
    drain := (bwFault k s).drain
    acc := (bwFault k s).acc
    flt := { s.flt with
      st := .idle, run := BwRun.empty
      record := s.flt.record.map fun r => { r with endedAt := some s.mgu.seconds, outcome := some .faulted } }
    mgu := { s.mgu with changes := (bwFault k s).mgu.changes } } := by
  have stopped := stopBwStep_eq s
  have waits : (bwRecordEnd .faulted (stopBwStep s)).noneWaits := by
    rw [State.noneWaits, show (bwRecordEnd .faulted (stopBwStep s)).drain = _ from stopBwStep_drain_eq s]
    exact hw
  have released := drainRelease_eq (k := k) .backwash waits
  have ended : bwFault k s = bwIdle (drainRelease k .backwash (bwRecordEnd .faulted (stopBwStep s))) := rfl
  rw [ended]
  generalize drainRelease k .backwash (bwRecordEnd .faulted (stopBwStep s)) = v at released ⊢
  generalize stopBwStep s = z at stopped released
  rw [released, stopped]
  rfl

theorem bwFault_drain (hd : s.drain.holder = some .backwash) (hw : s.noneWaits) :
    (bwFault k s).drain = { s.drain with holder := none, allowance := 0, kind := none } := by
  have line : (bwRecordEnd .faulted (stopBwStep s)).drain = _ := stopBwStep_drain_eq s
  have released := drainRelease_drain (k := k) (s := bwRecordEnd .faulted (stopBwStep s)) .backwash
    (by rw [State.noneWaits, line]; exact hw)
  rw [line, if_pos hd] at released
  exact released

theorem flagSet_bwFault (s : State) : (bwFault k s).flagSet .filter := flagSet_raise _ _

/-- A rotor that fails with the outcome not decided ends the backwash FAULTED. -/
theorem bwRotorFailed_fault (h : s.flt.st = .positioning ∨ s.flt.st = .running ∨ s.flt.st = .held ∨ s.flt.st = .parking)
    (hd : s.flt.st ≠ .parking ∨ s.flt.run.decided = false) : bwRotorFailed k s = bwFault k s := by
  rcases h with h | h | h | h <;> rcases hd with hd | hd <;> simp_all [bwRotorFailed]

theorem bwRotorFailed_idle (h : s.flt.st = .parking) (hd : s.flt.run.decided = true) : bwRotorFailed k s = bwIdle s := by
  simp [bwRotorFailed, h, hd]

/-! ### A rotor that refuses the first step (R108, R115, R141, R144) -/

theorem rgsRotorAsk_refused {p : Pos} (h : s.answer .regenRotor p = .faulted ∨ s.answer .regenRotor p = .disabled) :
    rgsRotorAsk k p s = rgsRotorFailed k (refusalCode (s.answer .regenRotor p)) s := by
  unfold rgsRotorAsk
  rw [actRequest_refused h]
  rcases h with h | h <;> simp only [h]

theorem bwRotorAsk_refused {p : Pos} (h : s.answer .filterRotor p = .faulted ∨ s.answer .filterRotor p = .disabled) :
    bwRotorAsk k p s = bwRotorFailed k s := by
  unfold bwRotorAsk
  rw [actRequest_refused h]
  rcases h with h | h <;> simp only [h]

/-- The regeneration granted the line, at its first step. -/
def State.regenFirst (s : State) (i : Fin 8) : State :=
  setSeq .positioning (setRegenRun (s.rgs.run.atStep i) (s.granting .regen).regenStarted)

theorem regenFirst_eq (s : State) (i : Fin 8) : s.regenFirst i = { s with
    drain := { s.drain with waitRegen := false, holder := some .regen }
    acc := { s.acc with draw := { isOpen := true, saltDg := 0, volume := 0, lastConc := none, measured := true } }
    rgs := { s.rgs with
      snapshot := s.rgs.program, seq := .positioning, run := s.rgs.run.atStep i
      record := s.rgs.record.map fun r => { r with startedAt := some s.mgu.seconds } }
    mgu := { s.mgu with changes := (s.regenFirst i).mgu.changes } } := rfl

/-- The backwash granted the line, at its first step. -/
def State.backwashFirst (s : State) (i : Fin 4) : State :=
  setFlt .positioning (setBwRun { s.flt.run with step := some i, elapsed := 0 } (s.granting .backwash).backwashStarted)

theorem backwashFirst_eq (s : State) (i : Fin 4) : s.backwashFirst i = { s with
    drain := { s.drain with waitBackwash := false, holder := some .backwash }
    flt := { s.flt with
      snapshot := s.flt.program, st := .positioning, run := { s.flt.run with step := some i, elapsed := 0 }
      record := s.flt.record.map fun r => { r with startedAt := some s.mgu.seconds } }
    mgu := { s.mgu with changes := (s.backwashFirst i).mgu.changes } } := rfl

theorem takeStep_refused {i : Fin 8} {a : Answer} (hs : s.supplied = true)
    (ha : s.answer .regenRotor (regenPos s.rgs.snapshot[i].pos) = a) (hr : a = .faulted ∨ a = .disabled) :
    takeStep k i s = rgsFault k (refusalCode a) (setSeq .positioning (setRegenRun (s.rgs.run.atStep i) s)) := by
  subst ha
  unfold takeStep enterPositioning
  exact (if_pos hs).trans (rgsRotorAsk_refused hr)

theorem takeBwStep_refused {i : Fin 4} {a : Answer} (hs : s.supplied = true)
    (ha : s.answer .filterRotor (backwashPos s.flt.snapshot[i].pos) = a) (hr : a = .faulted ∨ a = .disabled) :
    takeBwStep k i s = bwFault k
      (setFlt .positioning (setBwRun { s.flt.run with step := some i, elapsed := 0 } s)) := by
  subst ha
  unfold takeBwStep enterBwPositioning
  exact (if_pos hs).trans (bwRotorAsk_refused hr)

theorem drainGrantEvent_regenRefused {i : Fin 8} {a : Answer} (hm : s.lkg.main = .opened) (hh : s.drain.holder = none)
    (hw : s.drain.waitRegen = true) (hq : s.rgs.seq = .queued) (hf : s.link.fieldFresh = true)
    (hi : firstStep s.rgs.program 0 = some i) (ha : s.answer .regenRotor (regenPos s.rgs.program[i].pos) = a)
    (hr : a = .faulted ∨ a = .disabled) :
    drainGrantEvent s = rgsFault (granted 15) (refusalCode a) (s.regenFirst i) :=
  have next : s.drain.nextWaiting = some .regen := by simp [Drain.nextWaiting, hw]
  (drainRegrant_due hm hh next).trans ((rgsGranted_step (s := s.granting .regen) hq hi).trans
    (takeStep_refused (supplied_of_mainOpen hm hf) ha hr))

theorem drainGrantEvent_backwashRefused {i : Fin 4} {a : Answer} (hm : s.lkg.main = .opened)
    (hh : s.drain.holder = none) (hw : s.drain.waitRegen = false) (hw' : s.drain.waitBackwash = true)
    (hq : s.flt.st = .queued) (hf : s.link.fieldFresh = true) (hi : firstBwStep s.flt.program 0 = some i)
    (ha : s.answer .filterRotor (backwashPos s.flt.program[i].pos) = a) (hr : a = .faulted ∨ a = .disabled) :
    drainGrantEvent s = bwFault (granted 15) (s.backwashFirst i) :=
  have next : s.drain.nextWaiting = some .backwash := by simp [Drain.nextWaiting, hw, hw']
  (drainRegrant_due hm hh next).trans ((fltGranted_step (s := s.granting .backwash) hq hi).trans
    (takeBwStep_refused (supplied_of_mainOpen hm hf) ha hr))

/-! ### The commands of a rotor's fault or refusal, each one change of the state -/

/-- What was offered from a state is offered from one of the same record and seconds. -/
theorem FaultOffered.of_same {kind : FaultKind} {n : Nat} {d : Vector Byte 4} (h : FaultOffered kind n d u t)
    (hf : u.mgu.fault = s.mgu.fault) (hs : u.mgu.seconds = s.mgu.seconds) : FaultOffered kind n d s t :=
  ⟨h.valid, by rw [← hf, ← hs]; exact h.first, by rw [← hf]; exact h.later⟩

/-- A fault of the REGEN_ROTOR with the outcome not decided: RGS's fault is offered beside ACT's. -/
theorem exec_regenFault {x : TankId} {c : Instr} {kind : FaultKind} (fails : s.Fails .regenRotor c kind)
    (phase : s.rgs.seq = .positioning ∨ s.rgs.seq = .running ∨ s.rgs.seq = .held ∨ s.rgs.seq = .parking)
    (tank : s.rgs.run.tank = some x) (held : s.drain.holder = some .regen) (waits : s.noneWaits)
    (apart : s.confirmed ≠ some x.pos) : ∃ t d, exec c s = .next t
      ∧ t = (let y := { s.tank x with st := .exhausted, remaining := 0, lastOutcome := some .faulted }
        { s with
          regenRotor := t.regenRotor
          drain := { s.drain with holder := none, allowance := 0, kind := none }
          acc := t.acc
          slt := t.slt
          rgs := { s.rgs with
            tankA := if x = .a then y else s.rgs.tankA
            tankB := if x = .b then y else s.rgs.tankB
            seq := .idle, run := RegenRun.empty
            record := s.rgs.record.map fun r => { r with
              endedAt := some s.mgu.seconds, outcome := some .faulted, brine := some (drawValues s.acc.draw) } }
          mgu := { s.mgu with
            fault := { s.mgu.offered kind 2 d with lost := true }, changes := t.mgu.changes } })
      ∧ t.acc.draw = { s.acc.draw with isOpen := false } ∧ (s.rgs.seq = .running → t.acc.phase = .none)
      ∧ t.slt.store = (if 0 < s.acc.draw.volume then s.slt.store - s.acc.draw.saltDg / 10 else s.slt.store)
      ∧ t.flagSet .regen ∧ ((s.tank x).st ≠ .exhausted → t.flagSet .tank) := by
  obtain ⟨code, q, d1, d2, taken⟩ := exec_of_fails fails
  have u_eq := actFault_regenRotor q kind d1 d2 s
  generalize actFault .regenRotor q kind d1 d2 s = u at taken u_eq
  have parts : u.rgs = s.rgs ∧ u.drain = s.drain ∧ u.confirmed = s.confirmed ∧ u.acc.draw = s.acc.draw
      ∧ u.slt = s.slt ∧ u.tank x = s.tank x := by rw [u_eq]; exact ⟨rfl, rfl, rfl, rfl, rfl, rfl⟩
  obtain ⟨rgs, drain, confirmed, draw, slt, same⟩ := parts
  have tank' : u.rgs.run.tank = some x := by rw [rgs]; exact tank
  have held' : u.drain.holder = some .regen := by rw [drain]; exact held
  have waits' : u.noneWaits := by rw [State.noneWaits, drain]; exact waits
  have apart' : u.confirmed ≠ some x.pos := by rw [confirmed]; exact apart
  have fails : rgsRotorFailed onGrant code u = rgsFault onGrant code u :=
    rgsRotorFailed_fault (by rw [rgs]; exact phase) tank' code
  have t_eq := rgsFault_eq (k := onGrant) tank' held' waits' apart' code
  refine ⟨_, detailBytes d1 d2, taken.trans (congrArg Host.Outcome.next fails), ?whole, ?_, fun running => ?running,
    ?store, flagSet_rgsFault tank' held' waits' apart' code,
    fun left => flagSet_tank_rgsFault reach_onGrant tank' (by rw [same]; exact left) code⟩
  case whole =>
    have lost := offered_later (m := u.mgu) (by rw [u_eq]; exact offered_valid ..) .rgsFaulted x.index
      (detailBytes (stepByte u.rgs.run.step) code)
    generalize rgsFault onGrant code u = t at t_eq ⊢
    rw [lost] at t_eq
    refine t_eq.trans ?_
    rw [t_eq, u_eq]
    rfl
  case running =>
    rw [t_eq]
    exact (stopStep_running (by rw [rgs]; exact running)).1
  case store =>
    rw [t_eq, ← draw, ← slt]
    exact drawEnded_store u
  all_goals rw [t_eq, draw]

/-- A fault of the REGEN_ROTOR on its way to SERVICE, with the outcome decided and no tank serving. -/
theorem exec_parkingFault {c : Instr} {kind : FaultKind} (fails : s.Fails .regenRotor c kind)
    (parking : s.rgs.seq = .parking) (none : s.rgs.run.tank = none) (unheld : s.drain.holder ≠ some .regen)
    (waits : s.noneWaits) (away : ∀ y : TankId, s.confirmed ≠ some y.pos) : ∃ t d, exec c s = .next t
      ∧ t = { s with
        regenRotor := t.regenRotor
        rgs := { s.rgs with seq := .idle, run := RegenRun.empty }
        mgu := { s.mgu with fault := s.mgu.offered kind 2 d, changes := t.mgu.changes } }
      ∧ t.flagSet .regen := by
  obtain ⟨code, q, d1, d2, taken⟩ := exec_of_fails fails
  have u_eq := actFault_regenRotor q kind d1 d2 s
  generalize actFault .regenRotor q kind d1 d2 s = u at taken u_eq
  have parts : u.rgs = s.rgs ∧ u.drain = s.drain ∧ u.confirmed = s.confirmed := by
    rw [u_eq]
    exact ⟨rfl, rfl, rfl⟩
  obtain ⟨rgs, drain, confirmed⟩ := parts
  have idle : rgsRotorFailed onGrant code u = toIdle u := by
    refine rgsRotorFailed_idle ?_ ?_ ?_ ?_ ?_ code
    · rw [rgs]; exact parking
    · rw [rgs]; exact none
    · rw [drain]; exact unheld
    · rw [State.noneWaits, drain]; exact waits
    · rw [confirmed]; exact away
  refine ⟨_, detailBytes d1 d2, taken.trans (congrArg Host.Outcome.next idle), ?_, flagSet_raise _ _⟩
  generalize hv : toIdle u = v
  rw [u_eq] at hv
  rw [← hv]
  rfl

/-- The REGEN_ROTOR refuses the first step at the grant. -/
theorem exec_regenRefused {i : Fin 8} {x : TankId} {a : Answer} (opened : s.lkg.main = .opened)
    (fresh : s.link.fieldFresh = true) (free : s.drain.holder = none) (asks : s.drain.waitRegen = true)
    (backwash : s.drain.waitBackwash = false) (test : s.drain.waitTest = false) (queued : s.rgs.seq = .queued)
    (tank : s.rgs.run.tank = some x) (apart : s.confirmed ≠ some x.pos) (first : firstStep s.rgs.program 0 = some i)
    (answer : s.answer .regenRotor (regenPos s.rgs.program[i].pos) = a) (refused : a = .faulted ∨ a = .disabled) :
    ∃ t, exec .drainGrant s = .next t
      ∧ t = (let y := { s.tank x with st := .exhausted, remaining := 0, lastOutcome := some .faulted }
        { s with
          drain := { s.drain with holder := none, allowance := 0, kind := none, waitRegen := false }
          acc := t.acc
          slt := t.slt
          rgs := { s.rgs with
            tankA := if x = .a then y else s.rgs.tankA
            tankB := if x = .b then y else s.rgs.tankB
            snapshot := s.rgs.program, seq := .idle, run := RegenRun.empty
            record := s.rgs.record.map fun r => { r with
              startedAt := some s.mgu.seconds, endedAt := some s.mgu.seconds, outcome := some .faulted
              brine := some { saltG := 0, mean := none, volume := 0, measured := true } } }
          mgu := { s.mgu with fault := t.mgu.fault, changes := t.mgu.changes } })
      ∧ t.flagSet .regen
      ∧ FaultOffered .rgsFaulted x.index (detailBytes (toByte i.val) (if a = .disabled then 3 else 2)) s t := by
  have taken := drainGrantEvent_regenRefused opened free asks queued fresh first answer refused
  have w_eq := regenFirst_eq s i
  generalize s.regenFirst i = w at taken w_eq
  have parts : w.rgs.run = s.rgs.run.atStep i ∧ w.drain.holder = some .regen ∧ w.noneWaits ∧ w.confirmed = s.confirmed
      ∧ w.mgu.fault = s.mgu.fault ∧ w.mgu.seconds = s.mgu.seconds := by
    rw [w_eq]
    exact ⟨rfl, rfl, ⟨rfl, backwash, test⟩, rfl, rfl, rfl⟩
  obtain ⟨run, held, waits, confirmed, fault, seconds⟩ := parts
  have tank' : w.rgs.run.tank = some x := by rw [run]; exact tank
  have apart' : w.confirmed ≠ some x.pos := by rw [confirmed]; exact apart
  have code : refusalCode a = if a = .disabled then 3 else 2 := by rcases refused with rfl | rfl <;> rfl
  have offered := (faultOffered_rgsFault (reach_granted 15) tank' (refusalCode a)).of_same fault seconds
  rw [run, code] at offered
  rw [code] at taken
  have flag := flagSet_rgsFault (k := granted 15) tank' held waits apart' (if a = .disabled then 3 else 2)
  have t_eq := rgsFault_eq (k := granted 15) tank' held waits apart' (if a = .disabled then 3 else 2)
  generalize rgsFault (granted 15) _ w = t at taken offered flag t_eq
  refine ⟨t, congrArg Host.Outcome.next taken, ?_, flag, offered⟩
  refine t_eq.trans ?_
  rw [t_eq, w_eq]
  dsimp only
  rw [Option.map_map]
  rfl

/-- A fault of the FILTER_ROTOR with the outcome not decided. -/
theorem exec_backwashFault {c : Instr} {kind : FaultKind} (fails : s.Fails .filterRotor c kind) (waits : s.noneWaits)
    (phase : s.flt.st = .positioning ∨ s.flt.st = .running ∨ s.flt.st = .held ∨ s.flt.st = .parking)
    (undecided : s.flt.st ≠ .parking ∨ s.flt.run.decided = false) : ∃ t d, exec c s = .next t
      ∧ t = { s with
        filterRotor := t.filterRotor
        drain := t.drain
        acc := t.acc
        flt := { s.flt with
          st := .idle, run := BwRun.empty
          record := s.flt.record.map fun r => { r with endedAt := some s.mgu.seconds, outcome := some .faulted } }
        mgu := { s.mgu with fault := s.mgu.offered kind 3 d, changes := t.mgu.changes } }
      ∧ (s.drain.holder = some .backwash → t.drain = { s.drain with holder := none, allowance := 0, kind := none })
      ∧ t.flagSet .filter := by
  obtain ⟨code, q, d1, d2, taken⟩ := exec_of_fails fails
  have u_eq := actFault_filterRotor q kind d1 d2 s
  generalize actFault .filterRotor q kind d1 d2 s = u at taken u_eq
  have parts : u.flt = s.flt ∧ u.drain = s.drain := by rw [u_eq]; exact ⟨rfl, rfl⟩
  obtain ⟨flt, drain⟩ := parts
  have waits' : u.noneWaits := by rw [State.noneWaits, drain]; exact waits
  have ends : bwRotorFailed onGrant u = bwFault onGrant u := by
    rw [← flt] at phase undecided
    exact bwRotorFailed_fault phase undecided
  have freed (held : s.drain.holder = some .backwash) : (bwFault onGrant u).drain =
      { s.drain with holder := none, allowance := 0, kind := none } := by
    rw [bwFault_drain (by rw [drain]; exact held) waits', drain]
  have t_eq := bwFault_eq (k := onGrant) waits'
  refine ⟨_, detailBytes d1 d2, taken.trans (congrArg Host.Outcome.next ends), ?_, freed, flagSet_bwFault u⟩
  generalize bwFault onGrant u = t at t_eq
  refine t_eq.trans ?_
  rw [t_eq, u_eq]

/-- A fault of the FILTER_ROTOR on its way to SERVICE with the outcome decided. -/
theorem exec_backwashParkingFault {c : Instr} {kind : FaultKind} (fails : s.Fails .filterRotor c kind)
    (parking : s.flt.st = .parking) (decided : s.flt.run.decided = true) : ∃ t d, exec c s = .next t
      ∧ t = { s with
        filterRotor := t.filterRotor
        flt := { s.flt with st := .idle, run := BwRun.empty }
        mgu := { s.mgu with fault := s.mgu.offered kind 3 d, changes := t.mgu.changes } }
      ∧ t.flagSet .filter := by
  obtain ⟨code, q, d1, d2, taken⟩ := exec_of_fails fails
  have u_eq := actFault_filterRotor q kind d1 d2 s
  generalize actFault .filterRotor q kind d1 d2 s = u at taken u_eq
  have flt : u.flt = s.flt := by rw [u_eq]
  have idle : bwRotorFailed onGrant u = bwIdle u :=
    bwRotorFailed_idle (by rw [flt]; exact parking) (by rw [flt]; exact decided)
  refine ⟨_, detailBytes d1 d2, taken.trans (congrArg Host.Outcome.next idle), ?_, flagSet_raise _ _⟩
  generalize hv : bwIdle u = v
  rw [u_eq] at hv
  rw [← hv]
  rfl

/-- The FILTER_ROTOR refuses the first step at the grant. -/
theorem exec_backwashRefused {i : Fin 4} {a : Answer} (opened : s.lkg.main = .opened)
    (fresh : s.link.fieldFresh = true) (free : s.drain.holder = none) (regen : s.drain.waitRegen = false)
    (asks : s.drain.waitBackwash = true) (test : s.drain.waitTest = false) (queued : s.flt.st = .queued)
    (first : firstBwStep s.flt.program 0 = some i)
    (answer : s.answer .filterRotor (backwashPos s.flt.program[i].pos) = a) (refused : a = .faulted ∨ a = .disabled) :
    ∃ t, exec .drainGrant s = .next t
      ∧ t = { s with
        drain := { s.drain with holder := none, allowance := 0, kind := none, waitBackwash := false }
        acc := t.acc
        flt := { s.flt with
          st := .idle, run := BwRun.empty, snapshot := s.flt.program
          record := s.flt.record.map fun r => { r with
            startedAt := some s.mgu.seconds, endedAt := some s.mgu.seconds, outcome := some .faulted } }
        mgu := { s.mgu with changes := t.mgu.changes } }
      ∧ t.flagSet .filter := by
  have taken := drainGrantEvent_backwashRefused opened free regen asks queued fresh first answer refused
  have w_eq := backwashFirst_eq s i
  generalize s.backwashFirst i = w at taken w_eq
  have parts : w.drain.holder = some .backwash ∧ w.noneWaits := by rw [w_eq]; exact ⟨rfl, regen, rfl, test⟩
  obtain ⟨held, waits⟩ := parts
  have line := bwFault_drain (k := granted 15) held waits
  have t_eq := bwFault_eq (k := granted 15) waits
  refine ⟨_, congrArg Host.Outcome.next taken, ?_, flagSet_bwFault w⟩
  generalize bwFault (granted 15) w = t at line t_eq
  rw [line] at t_eq
  refine t_eq.trans ?_
  rw [t_eq, w_eq]
  dsimp only
  rw [Option.map_map]
  rfl

end Sys2Proof.Machine
end

section
/-! PROOFS. The SELECTOR at the tank of the run abandons it. -/

namespace Sys2Proof.Machine

variable {s t u : State} {k : Grant}

/-! ### The SELECTOR at the tank of the run (R100, R101, R116) -/

/-- The SELECTOR at its position: by an arrival with no move of RGS in flight, or by an adoption. -/
theorem exec_selReached {p : Pos} {c : Instr} (hm : s.rgs.move = .none) (he : s.selector.conf.enabled = true)
    (hr : s.selector.run.recognised = some p) (h : (c = .arrival .selector ∧ s.selector.run.target = some p)
      ∨ (c = .adoption .selector ∧ s.selector.run.st = .unknown ∧ s.selector.run.adoptSeen = true)) :
    exec c s = .next (selReached onGrant s.confirmed p (enterPosition .selector p s)) := by
  rcases h with ⟨rfl, target⟩ | ⟨rfl, unknown, seen⟩
  · have due : arrivalDue (s.act .selector) = some p := (arrivalDue_target target).trans (if_pos hr)
    have event : arrivalEvent .selector s = selDone onGrant s.confirmed p (enterPosition .selector p s) := by
      simp only [arrivalEvent, due, notifyDone]
    exact congrArg Host.Outcome.next (event.trans (if_pos hm))
  · have due : adoptionDue (s.act .selector) = some p := by
      unfold adoptionDue
      rw [if_pos (by simp [State.act, he, seen, unknown])]
      exact hr
    exact congrArg Host.Outcome.next (adoptionEvent_due due)

/-- Nothing but the tank records and the change summary has moved. -/
def TanksOnly (s t : State) : Prop := t = { s with
  rgs := { s.rgs with tankA := t.rgs.tankA, tankB := t.rgs.tankB }, mgu := { s.mgu with changes := t.mgu.changes } }

theorem TanksOnly.trans (h : TanksOnly s t) (h' : TanksOnly t u) : TanksOnly s u := Eq.trans h' (by rw [h])

theorem tanksOnly_setTank (x : TankId) (y : Tank) (s : State) : TanksOnly s (setTank x y s) := by
  rw [TanksOnly, setTank_eq]

theorem tanksOnly_tankLeft (x : TankId) (s : State) : TanksOnly s (tankLeft x s) := by
  unfold tankLeft
  dsimp only
  split
  · exact tanksOnly_setTank ..
  · rfl

theorem tanksOnly_tankReached (x : TankId) (s : State) : TanksOnly s (tankReached x s) := by
  unfold tankReached
  dsimp only
  split
  · exact tanksOnly_setTank ..
  · rfl

theorem judgeTanks_eq (old : Option Pos) (p : Pos) (s : State) : judgeTanks old p s = { s with
    rgs := { s.rgs with tankA := (judgeTanks old p s).rgs.tankA, tankB := (judgeTanks old p s).rgs.tankB }
    mgu := { s.mgu with changes := (judgeTanks old p s).mgu.changes } } := by
  suffices TanksOnly s (judgeTanks old p s) from this
  unfold judgeTanks
  split
  · rfl
  · cases old.bind tankOfPos with
    | none =>
      cases tankOfPos p with
      | none => rfl
      | some y => exact tanksOnly_tankReached y s
    | some x =>
      cases tankOfPos p with
      | none => exact tanksOnly_tankLeft x s
      | some y => exact (tanksOnly_tankLeft x s).trans (tanksOnly_tankReached y _)

/-- The tank left and the tank reached are judged. -/
theorem judgeTanks_left (x : TankId) (s : State) :
    judgeTanks (some x.other.pos) x.pos s = tankReached x (tankLeft x.other s) := by cases x <;> rfl

/-- With no tank left, the tank reached alone is judged. -/
theorem judgeTanks_entered {old : Option Pos} {x : TankId} (h : ∀ y : TankId, old ≠ some y.pos) (s : State) :
    judgeTanks old x.pos s = tankReached x s := by
  have none : old.bind tankOfPos = none := by
    cases old with
    | none => rfl
    | some p => cases p <;> first | rfl | exact absurd rfl (h .a) | exact absurd rfl (h .b)
  rw [judgeTanks, if_neg (h x), none]
  cases x <;> rfl

theorem tankReached_other (x : TankId) (s : State) : (tankReached x s).tank x.other = s.tank x.other := by
  unfold tankReached
  dsimp only
  split
  · exact setTank_tank_other _ _ _ _ (by cases x <;> nofun)
  · rfl

/-- A tank EXHAUSTED with nothing remaining is so when reached. -/
theorem tankReached_self {x : TankId} (hr : (s.tank x).remaining = 0) (hs : (s.tank x).st = .exhausted) :
    (tankReached x s).tank x = s.tank x := by
  unfold tankReached
  dsimp only
  split
  · rw [setTank_tank_self]
    generalize s.tank x = y at hr hs ⊢
    obtain ⟨nominal, remaining, st, seconds, outcome⟩ := y
    dsimp only at hr hs
    subst hr hs
    rfl
  · rfl

/-- The tank left as judged by the reserve, when it is charged. -/
def State.leftTank (s : State) (old : Option Pos) (y : TankId) : Tank :=
  if old = some y.pos ∧ (s.tank y).charged = true then
    { s.tank y with st := if s.acc.settings.reserve < (s.tank y).remaining then .standby else .exhausted }
  else s.tank y

theorem tankLeft_self (y : TankId) (s : State) : (tankLeft y s).tank y = s.leftTank (some y.pos) y := by
  by_cases charged : (s.tank y).charged = true
  · have judged : s.leftTank (some y.pos) y = _ := if_pos ⟨rfl, charged⟩
    have left : tankLeft y s = setTank y _ s := if_pos charged
    rw [left, setTank_tank_self, judged]
    rfl
  · have judged : s.leftTank (some y.pos) y = s.tank y := if_neg fun both => charged both.2
    have left : tankLeft y s = s := if_neg charged
    rw [left, judged]

theorem tankLeft_other (x : TankId) (s : State) : (tankLeft x.other s).tank x = s.tank x := by
  unfold tankLeft
  dsimp only
  split
  · exact setTank_tank_other _ _ _ _ (by cases x <;> nofun)
  · rfl

/-- The tank reached is EXHAUSTED with nothing remaining and stays so; the other one is judged as left. -/
theorem tank_judgeTanks {x : TankId} (old : Option Pos) (hr : (s.tank x).remaining = 0)
    (hs : (s.tank x).st = .exhausted) : (judgeTanks old x.pos s).tank x = s.tank x
      ∧ (judgeTanks old x.pos s).tank x.other = s.leftTank old x.other := by
  by_cases stays : old = some x.pos
  · subst stays
    rw [judgeTanks, if_pos rfl, State.leftTank, if_neg fun both => absurd both.1 (by cases x <;> nofun)]
    exact ⟨rfl, rfl⟩
  · by_cases left : old = some x.other.pos
    · subst left
      have kept := tankLeft_other x s
      rw [judgeTanks_left, tankReached_other, tankLeft_self, tankReached_self (by rw [kept]; exact hr)
        (by rw [kept]; exact hs), kept]
      exact ⟨rfl, rfl⟩
    · have entered : ∀ y : TankId, old ≠ some y.pos := fun y => by
        by_cases same : y = x
        · rw [same]; exact stays
        · rw [← other_of_ne (Ne.symm same)]; exact left
      rw [judgeTanks_entered entered, tankReached_other, tankReached_self hr hs, State.leftTank,
        if_neg fun both => left both.1]
      exact ⟨rfl, rfl⟩

/-- The queued run of the tank reached abandoned, its request withdrawn, before a swap is sought. -/
def State.queueAbandoned (old : Option Pos) (x : TankId) (s : State) : State :=
  let v := judgeTanks old x.pos (dropTank (exhaustTank .abandoned s))
  toIdle { v with drain := { v.drain with waitRegen := false } }

theorem runTankReached_queued {x : TankId} (h : s.rgs.run.tank = some x) (old : Option Pos) (hq : s.rgs.seq = .queued)
    (hd : s.drain.holder ≠ some .regen) : runTankReached k old x.pos s = swapSeek k (s.queueAbandoned old x) := by
  have ended : exhaustTank .abandoned s = _ := endTank_eq h ..
  have judged := judgeTanks_eq old x.pos (dropTank (exhaustTank .abandoned s))
  have line : (judgeTanks old x.pos (dropTank (exhaustTank .abandoned s))).drain = s.drain := by
    rw [judged, ended]
    rfl
  rw [runTankReached, if_pos hq, finish, drainRelease_withdrawn (by rw [line]; exact hd)]
  rfl

theorem queueAbandoned_eq {x : TankId} (h : s.rgs.run.tank = some x) (old : Option Pos) : s.queueAbandoned old x =
    { s with
      drain := { s.drain with waitRegen := false }
      rgs := { s.rgs with
        tankA := (s.queueAbandoned old x).rgs.tankA
        tankB := (s.queueAbandoned old x).rgs.tankB
        seq := .idle, run := RegenRun.empty
        record := s.rgs.record.map fun r => { r with endedAt := some s.mgu.seconds, outcome := some .abandoned } }
      mgu := { s.mgu with changes := (s.queueAbandoned old x).mgu.changes } } := by
  have ended : exhaustTank .abandoned s = _ := endTank_eq h ..
  have judged := judgeTanks_eq old x.pos (dropTank (exhaustTank .abandoned s))
  unfold State.queueAbandoned
  generalize judgeTanks _ _ _ = v at judged ⊢
  generalize exhaustTank .abandoned s = w at ended judged
  rw [judged, ended]
  rfl

theorem tank_queueAbandoned {x : TankId} (h : s.rgs.run.tank = some x) (old : Option Pos) :
    (s.queueAbandoned old x).tank x =
        { s.tank x with st := .exhausted, remaining := 0, lastOutcome := some .abandoned }
      ∧ (s.queueAbandoned old x).tank x.other = s.leftTank old x.other := by
  have ended : dropTank (exhaustTank .abandoned s) = _ := congrArg dropTank (endTank_eq h ..)
  have judged (y : TankId) : (s.queueAbandoned old x).tank y =
    (judgeTanks old x.pos (dropTank (exhaustTank .abandoned s))).tank y := by cases y <;> rfl
  have tank : (dropTank (exhaustTank .abandoned s)).tank x =
      { s.tank x with st := .exhausted, remaining := 0, lastOutcome := some .abandoned } := by
    rw [ended]; cases x <;> rfl
  have left : (dropTank (exhaustTank .abandoned s)).leftTank old x.other = s.leftTank old x.other := by
    rw [ended]; cases x <;> rfl
  obtain ⟨reached, other⟩ := tank_judgeTanks (s := dropTank (exhaustTank .abandoned s)) (x := x) old
    (by rw [tank]) (by rw [tank])
  rw [judged, judged, reached, other, tank, left]
  exact ⟨rfl, rfl⟩

/-- A swap is sought from the tank reached alone, by the other one as judged. -/
theorem seeks_queueAbandoned {x : TankId} (h : s.rgs.run.tank = some x) (hc : s.confirmed = some x.pos)
    (hm : s.rgs.move = .none) (old : Option Pos) (y : TankId) : (s.queueAbandoned old x).Seeks y ↔
      y = x ∧ (s.leftTank old x.other).st = .standby ∧ s.acc.settings.reserve < (s.leftTank old x.other).remaining := by
  obtain ⟨ended, judged⟩ := tank_queueAbandoned h old
  have parts : (s.queueAbandoned old x).confirmed = s.confirmed ∧ (s.queueAbandoned old x).rgs.move = s.rgs.move
      ∧ (s.queueAbandoned old x).reserve = s.acc.settings.reserve := by
    rw [queueAbandoned_eq h]
    exact ⟨rfl, rfl, rfl⟩
  obtain ⟨confirmed, move, reserve⟩ := parts
  rw [← judged, ← reserve]
  constructor
  · rintro ⟨serves, -, -, -, standby, high⟩
    obtain rfl : y = x := tankPos_inj (Option.some.inj (serves.symm.trans (confirmed.trans hc)))
    exact ⟨rfl, standby, high⟩
  · rintro ⟨rfl, standby, high⟩
    exact ⟨confirmed.trans hc, rfl, move.trans hm, by rw [ended]; exact Nat.zero_le _, standby, high⟩

/-- The run of the tank reached abandoned in a phase after QUEUED, before the rotor is asked toward SERVICE. -/
def State.reachAbandoned (old : Option Pos) (x : TankId) (s : State) : State :=
  judgeTanks old x.pos (s.abandoned (toByte (seqCode s.rgs.seq)))

theorem runTankReached_parked (old : Option Pos) (x : TankId) (hq : s.rgs.seq ≠ .queued) :
    runTankReached k old x.pos s = (s.reachAbandoned old x).parked k := if_neg hq

theorem reachAbandoned_eq {x : TankId} (h : s.rgs.run.tank = some x) (old : Option Pos) : s.reachAbandoned old x =
    { s with
      drain := (stopStep s).drain
      acc := { (stopStep s).acc with draw := { s.acc.draw with isOpen := false } }
      slt := s.drawEnded.slt
      rgs := { s.rgs with
        tankA := (s.reachAbandoned old x).rgs.tankA
        tankB := (s.reachAbandoned old x).rgs.tankB
        run := { s.rgs.run with tank := none }
        record := s.rgs.record.map fun r => { r with
          endedAt := some s.mgu.seconds, outcome := some .abandoned, brine := some (drawValues s.acc.draw) } }
      mgu := { s.mgu with
        fault := s.mgu.offered .rgsAbandoned x.index
          (detailBytes (stepByte s.rgs.run.step) (toByte (seqCode s.rgs.seq)))
        changes := (s.reachAbandoned old x).mgu.changes } } := by
  have ended := abandoned_eq h (toByte (seqCode s.rgs.seq))
  have judged := judgeTanks_eq old x.pos (s.abandoned (toByte (seqCode s.rgs.seq)))
  unfold State.reachAbandoned
  generalize judgeTanks _ _ _ = v at judged ⊢
  generalize s.abandoned _ = w at ended judged
  rw [judged, ended]

theorem tank_reachAbandoned {x : TankId} (h : s.rgs.run.tank = some x) (old : Option Pos) :
    (s.reachAbandoned old x).tank x =
        { s.tank x with st := .exhausted, remaining := 0, lastOutcome := some .abandoned }
      ∧ (s.reachAbandoned old x).tank x.other = s.leftTank old x.other := by
  let w := s.abandoned (toByte (seqCode s.rgs.seq))
  have w_eq : w = _ := abandoned_eq h _
  have tank : w.tank x = { s.tank x with st := .exhausted, remaining := 0, lastOutcome := some .abandoned } := by
    rw [w_eq]; cases x <;> rfl
  have settings : w.acc.settings = s.acc.settings := by rw [w_eq]; exact stopStep_settings s
  have other : w.tank x.other = s.tank x.other := by rw [w_eq]; cases x <;> rfl
  have left : w.leftTank old x.other = s.leftTank old x.other := by
    rw [State.leftTank, State.leftTank, other, settings]
  obtain ⟨reached, judged⟩ := tank_judgeTanks (s := w) (x := x) old (by rw [tank]) (by rw [tank])
  rw [tank] at reached
  rw [left] at judged
  exact ⟨reached, judged⟩

theorem faultOffered_reachAbandoned {x : TankId} (h : s.rgs.run.tank = some x) (old : Option Pos) :
    FaultOffered .rgsAbandoned x.index (detailBytes (stepByte s.rgs.run.step) (toByte (seqCode s.rgs.seq))) s
      (s.reachAbandoned old x) :=
  (faultOffered_abandoned h _).reach (reach_judgeTanks _ _ .same)

theorem selReached_runTank {x : TankId} (h : s.rgs.run.tank = some x) (old : Option Pos) :
    selReached k old x.pos s = runTankReached k old x.pos s := by
  have runs : s.isRunTank x.pos = true := by rw [State.isRunTank, h]; cases x <;> rfl
  exact if_pos runs

/-- The SELECTOR entered at a position that it recognises moves toward another one when asked. -/
theorem answer_enterAt {c : ActuatorRec} {r : ActuatorRun} {p q : Pos} (he : c.enabled = true)
    (hr : r.recognised = some p) (hq : p ≠ q) : (requestRun c q (r.enterAt p)).2 = .moving := by
  have away : (r.enterAt p).recognised ≠ some q := by
    rw [show (r.enterAt p).recognised = some p from hr]
    exact fun same => hq (Option.some.inj same)
  unfold requestRun startMove
  rw [if_pos he, if_neg away]
  exact congrArg Prod.snd (if_neg hq)

/-! ### The commands that find the SELECTOR at the tank of the run, each one change of the state -/

/-- The command at which the SELECTOR is at the tank of the run: an arrival with no move of RGS in flight, or an
adoption. -/
structure State.ReachesRun (s : State) (x : TankId) (c : Instr) : Prop where
  tank : s.rgs.run.tank = some x
  still : s.rgs.move = .none
  enabled : s.selector.conf.enabled = true
  recognised : s.selector.run.recognised = some x.pos
  event : (c = .arrival .selector ∧ s.selector.run.target = some x.pos)
    ∨ (c = .adoption .selector ∧ s.selector.run.st = .unknown ∧ s.selector.run.adoptSeen = true)

/-- The SELECTOR entered at the tank of the run. -/
def State.selectorAt (s : State) (x : TankId) : State := enterPosition .selector x.pos s

theorem selectorAt_eq (s : State) (x : TankId) : s.selectorAt x =
    { s with selector := { s.selector with run := s.selector.run.enterAt x.pos } } := rfl

theorem State.ReachesRun.exec {x : TankId} {c : Instr} (h : s.ReachesRun x c) :
    exec c s = .next (runTankReached onGrant s.confirmed x.pos (s.selectorAt x)) := by
  have runs : (s.selectorAt x).rgs.run.tank = some x := h.tank
  exact (exec_selReached h.still h.enabled h.recognised h.event).trans
    (congrArg Host.Outcome.next (selReached_runTank runs s.confirmed))

theorem State.ReachesRun.confirmed {x : TankId} {c : Instr} (h : s.ReachesRun x c) (after : Reach (s.selectorAt x) t) :
    t.confirmed = some x.pos := (confirmed_of_enterPosition (a := .selector) h.recognised after).1

/-- In QUEUED: the request withdrawn, and a swap sought of the tank left. -/
theorem exec_reachesRun_queued {x : TankId} {c : Instr} (h : s.ReachesRun x c) (queued : s.rgs.seq = .queued)
    (unheld : s.drain.holder ≠ some .regen) : ∃ t, exec c s = .next t
      ∧ t = { s with
        selector := t.selector
        drain := { s.drain with waitRegen := false }
        rgs := { s.rgs with
          tankA := t.rgs.tankA, tankB := t.rgs.tankB, seq := .idle, run := RegenRun.empty, move := t.rgs.move
          record := s.rgs.record.map fun r => { r with endedAt := some s.mgu.seconds, outcome := some .abandoned } }
        mgu := { s.mgu with changes := t.mgu.changes } }
      ∧ t.confirmed = some x.pos
      ∧ t.tank x = { s.tank x with st := .exhausted, remaining := 0, lastOutcome := some .abandoned }
      ∧ t.tank x.other = s.leftTank s.confirmed x.other ∧ t.flagSet .regen
      ∧ ((s.leftTank s.confirmed x.other).st = .standby
          ∧ s.acc.settings.reserve < (s.leftTank s.confirmed x.other).remaining →
          t.rgs.move = .swap x.other ∧ t.selector.run.target = some x.other.pos)
      ∧ (¬ ((s.leftTank s.confirmed x.other).st = .standby
          ∧ s.acc.settings.reserve < (s.leftTank s.confirmed x.other).remaining) →
          t.rgs.move = .none ∧ t.selector.run.st = .at x.pos) := by
  have taken := h.exec
  have u_eq := selectorAt_eq s x
  have tank : (s.selectorAt x).rgs.run.tank = some x := h.tank
  rw [runTankReached_queued tank s.confirmed queued unheld] at taken
  have reached : Reach (s.selectorAt x) (swapSeek onGrant ((s.selectorAt x).queueAbandoned s.confirmed x)) := by
    rw [← runTankReached_queued tank s.confirmed queued unheld]
    exact reach_runTankReached _ _ _ reach_onGrant .same
  have confirmed := h.confirmed reached
  have v_eq := queueAbandoned_eq tank s.confirmed
  obtain ⟨ended, judged⟩ := tank_queueAbandoned tank s.confirmed
  have seeks := seeks_queueAbandoned tank rfl h.still s.confirmed
  have flag : ((s.selectorAt x).queueAbandoned s.confirmed x).flagSet .regen := flagSet_raise _ _
  have left : (s.selectorAt x).leftTank s.confirmed x.other = s.leftTank s.confirmed x.other := by cases x <;> rfl
  have same : (s.selectorAt x).tank x = s.tank x := by cases x <;> rfl
  rw [left] at judged seeks
  rw [same] at ended
  generalize (s.selectorAt x).queueAbandoned s.confirmed x = v at taken confirmed v_eq ended judged seeks flag
  have answer : v.answer .selector x.other.pos = .moving := by
    rw [v_eq]
    exact answer_enterAt h.enabled h.recognised (by cases x <;> nofun)
  have t_eq : swapSeek onGrant v = _ := swapSeek_eq fun y seek => by
    rw [((seeks y).1 seek).1, answer]
    nofun
  refine ⟨_, taken, ?whole, confirmed, ?ended, ?judged, reach_flagSet (reach_swapSeek _ reach_onGrant .same) _ flag,
    fun seek => ?sought, fun unsought => ?unsought⟩
  case ended => rw [t_eq]; exact ended
  case judged => rw [t_eq]; exact judged
  case sought =>
    rw [swapSeek_sought ((seeks x).2 ⟨rfl, seek⟩)]
    exact target_startSwap answer
  case unsought =>
    rw [swapSeek_unsought fun y seek => unsought ((seeks y).1 seek).2, v_eq]
    exact ⟨h.still, rfl⟩
  case whole =>
    generalize swapSeek onGrant v = t at t_eq
    refine t_eq.trans ?_
    rw [t_eq, v_eq]
    rfl

/-- In a later phase: the line given back, the fault offered and the rotor asked toward SERVICE. -/
theorem exec_reachesRun_parked {x : TankId} {c : Instr} (h : s.ReachesRun x c) (queued : s.rgs.seq ≠ .queued)
    (held : s.drain.holder = some .regen) (waits : s.noneWaits) (moving : s.answer .regenRotor .service = .moving) :
    ∃ t, exec c s = .next t
      ∧ t = { s with
        selector := { s.selector with run := s.selector.run.enterAt x.pos }
        regenRotor := t.regenRotor
        drain := { s.drain with holder := none, allowance := 0, kind := none }
        acc := t.acc
        slt := t.slt
        rgs := { s.rgs with
          tankA := t.rgs.tankA, tankB := t.rgs.tankB, seq := .parking
          run := { s.rgs.run with tank := none, step := none }
          record := s.rgs.record.map fun r => { r with
            endedAt := some s.mgu.seconds, outcome := some .abandoned, brine := some (drawValues s.acc.draw) } }
        mgu := { s.mgu with fault := t.mgu.fault, changes := t.mgu.changes } }
      ∧ t.tank x = { s.tank x with st := .exhausted, remaining := 0, lastOutcome := some .abandoned }
      ∧ t.tank x.other = s.leftTank s.confirmed x.other ∧ t.acc.draw.isOpen = false
      ∧ t.regenRotor.run.target = some .service ∧ t.flagSet .regen
      ∧ FaultOffered .rgsAbandoned x.index (detailBytes (stepByte s.rgs.run.step) (toByte (seqCode s.rgs.seq))) s t := by
  have taken := h.exec
  have tank : (s.selectorAt x).rgs.run.tank = some x := h.tank
  rw [runTankReached_parked (s := s.selectorAt x) s.confirmed x queued] at taken
  have v_eq := reachAbandoned_eq tank s.confirmed
  have offered := faultOffered_reachAbandoned tank s.confirmed
  obtain ⟨ended, judged⟩ := tank_reachAbandoned tank s.confirmed
  have left : (s.selectorAt x).leftTank s.confirmed x.other = s.leftTank s.confirmed x.other := by cases x <;> rfl
  have same : (s.selectorAt x).tank x = s.tank x := by cases x <;> rfl
  rw [left] at judged
  rw [same] at ended
  generalize (s.selectorAt x).reachAbandoned s.confirmed x = v at taken v_eq offered ended judged
  have line : v.drain = _ := (congrArg State.drain v_eq).trans (stopStep_drain_eq (s.selectorAt x))
  have waits' : v.noneWaits := by rw [State.noneWaits, line]; exact waits
  have moving' : v.answer .regenRotor .service = .moving := by rw [v_eq]; exact moving
  have holds : v.drain.holder = some .regen := by rw [line]; exact held
  have t_eq := parked_eq (k := onGrant) waits' moving'
  rw [if_pos holds] at t_eq
  refine ⟨_, taken, ?whole, ?ended, ?judged, ?closed, target_parked waits' moving', flagSet_parked waits' moving',
    (offered.reach (reach_parked reach_onGrant v)).of_same rfl rfl⟩
  case ended => rw [t_eq]; exact ended
  case judged => rw [t_eq]; exact judged
  case closed => rw [t_eq, v_eq]
  case whole =>
    generalize v.parked onGrant = t at t_eq
    refine t_eq.trans ?_
    rw [t_eq, line, v_eq]
    rfl

end Sys2Proof.Machine

namespace Sys2Proof.Proofs
open Sys2Proof Sys2Proof.Machine

/-- Settles O33: a rotor's fault or refusal and the SELECTOR at the tank each end the run in one change of the state,
read here field by field. -/
theorem rotorFaultsAndTheSelectorEndARun : Obligations.RotorFaultsAndTheSelectorEndARun := by
  unfold Obligations.RotorFaultsAndTheSelectorEndARun
  refine ⟨fun x c kind s fails phase tank held waits apart => ?regen,
    fun c kind s fails parking none unheld waits away => ?decided,
    fun i x s opened fresh free asks backwash test queued tank apart enabled first refused => ?regenRefused,
    fun c kind s fails waits phase => ?backwash,
    fun i s opened fresh free regen asks test queued enabled first refused => ?backwashRefused,
    fun c x s => ?selector⟩
  case regen =>
    obtain ⟨t, d, taken, t_eq, draw, running, store, flag, tankFlag⟩ :=
      exec_regenFault fails phase tank held waits apart
    refine ⟨t, taken, ?tank, ?other, ?_, ?_, ?_, ?_, draw, running, store, ?_, flag, tankFlag, ?_, ?_,
      fun invalid => ?first, fun valid => ?later⟩
    case tank => rw [t_eq]; cases x <;> rfl
    case other => rw [t_eq]; cases x <;> rfl
    case first => rw [t_eq, offered_first invalid]; exact ⟨rfl, rfl, rfl⟩
    case later => rw [t_eq, offered_later valid]
    all_goals rw [t_eq]
  case decided =>
    obtain ⟨t, d, taken, t_eq, flag⟩ := exec_parkingFault fails parking none unheld waits away
    refine ⟨t, taken, ?_, ?_, flag, fun invalid => ?decidedFault⟩
    case decidedFault => rw [t_eq, offered_first invalid]; exact ⟨rfl, rfl⟩
    all_goals rw [t_eq]
  case regenRefused =>
    have firstStep := firstStep_some (Nat.zero_le _) enabled fun j _ hj => first j hj
    obtain ⟨t, taken, t_eq, flag, offered⟩ :=
      exec_regenRefused opened fresh free asks backwash test queued tank apart firstStep rfl refused
    refine ⟨t, taken, ?refusedTank, ?refusedOther, ?_, ?_, ?_, ?_, flag, ?_, offered.first, offered.later⟩
    case refusedTank => rw [t_eq]; cases x <;> rfl
    case refusedOther => rw [t_eq]; cases x <;> rfl
    all_goals rw [t_eq]
  case backwash =>
    by_cases decided : s.flt.st = .parking ∧ s.flt.run.decided = true
    · obtain ⟨parking, decided⟩ := decided
      obtain ⟨t, d, taken, t_eq, flag⟩ := exec_backwashParkingFault fails parking decided
      refine ⟨t, taken, flag, ?_, ?_, fun invalid => ?parkingFault, fun undecided => ?parkingUndecided,
        fun _ _ => ⟨?_, ?_⟩⟩
      case parkingFault => rw [t_eq, offered_first invalid]; exact ⟨rfl, rfl, rfl⟩
      case parkingUndecided =>
        rw [parking, decided] at undecided
        exact undecided.elim (absurd rfl) nofun
      all_goals rw [t_eq]
    · have undecided : s.flt.st ≠ .parking ∨ s.flt.run.decided = false := by
        rw [← Bool.not_eq_true]
        exact not_and_or.1 decided
      obtain ⟨t, d, taken, t_eq, freed, flag⟩ := exec_backwashFault fails waits phase undecided
      refine ⟨t, taken, flag, ?_, ?_, fun invalid => ?fault, fun _ held => ⟨?_, freed held⟩,
        fun parking run => absurd ⟨parking, run⟩ decided⟩
      case fault => rw [t_eq, offered_first invalid]; exact ⟨rfl, rfl, rfl⟩
      all_goals rw [t_eq]
  case backwashRefused =>
    have firstStep := firstBwStep_some (Nat.zero_le _) enabled fun j _ hj => first j hj
    obtain ⟨t, taken, t_eq, flag⟩ := exec_backwashRefused opened fresh free regen asks test queued firstStep rfl refused
    refine ⟨t, taken, flag, ?_, ?_, ?_⟩
    all_goals rw [t_eq]
  case selector =>
    intro other back tank still enabled recognised event
    have reaches : s.ReachesRun x c := ⟨tank, still, enabled, recognised, event⟩
    refine ⟨fun queued unheld => ?queued, fun phase held waits moving => ?parked⟩
    case queued =>
      obtain ⟨t, taken, t_eq, confirmed, ended, judged, flag, sought, unsought⟩ :=
        exec_reachesRun_queued reaches queued unheld
      refine ⟨t, taken, confirmed, ended, judged, ?_, ?_, flag, ?_, ?_, ?_, sought, unsought⟩
      all_goals rw [t_eq]
    case parked =>
      have unqueued : s.rgs.seq ≠ .queued := by rcases phase with phase | phase | phase | phase <;> rw [phase] <;> nofun
      obtain ⟨t, taken, t_eq, ended, judged, closed, target, flag, offered⟩ :=
        exec_reachesRun_parked reaches unqueued held waits moving
      refine ⟨t, taken, ?confirmed, ?position, ended, judged, ?_, ?_, ?still, ?_, closed, ?_, target, flag, fun invalid => ?abandoned,
        offered.later⟩
      case confirmed => rw [t_eq]; rfl
      case position => rw [t_eq]; rfl
      case still => rw [t_eq]; exact still
      case abandoned =>
        obtain ⟨fault, kind, source, seconds, detail⟩ := offered.first invalid
        refine ⟨fault, kind, source, seconds, detail.trans ?_⟩
        cases s.rgs.run.step <;> rcases phase with phase | phase | phase | phase <;> rw [phase] <;> rfl
      all_goals rw [t_eq]

end Sys2Proof.Proofs
end

section
/-! PROOFS. An abort of the decay test that takes a RUNNING regeneration's allowance with it. -/

namespace Sys2Proof.Machine

/-- A decay test in SETTLE beside a regeneration that is RUNNING, with the drain line and an allowance of 1, under an OPEN
main; MAIN is enabled and stands at no known position. No run reaches it: `State.holderLaw` has a test past WAITING hold
the line. -/
def testBesideRegen : State := { State.reset with
  main := { Actuator.reset with conf := { Actuator.reset.conf with enabled := true } }
  drain := { Drain.reset with holder := some .regen, allowance := 1, kind := some .regen }
  rgs := { Rgs.reset with seq := .running }
  lkg := { Lkg.reset with main := .opened, test := { Lkg.reset.test with st := .settle } } }

/-- MAIN asked toward OPEN leaves OPEN for OPENING, the regeneration is held, and its allowance given up (R77, R112). -/
theorem testBesideRegen_allowance : (abortTest onGrant testBesideRegen).drain.allowance = 0 := by decide

end Sys2Proof.Machine

namespace Sys2Proof.Proofs
open Sys2Proof Sys2Proof.Machine

/-- Refutes O51: its last part has ABORT_LEAK_TEST leave the drain line in every state with a test past WAITING, also where
the main is OPEN and a step RUNNING, which the main's leaving OPEN holds. From `testBesideRegen` the allowance goes from 1
to 0. -/
theorem not_bypassAndAbortCommandsAreTaken : ¬ Obligations.BypassAndAbortCommandsAreTaken := by
  unfold Obligations.BypassAndAbortCommandsAreTaken
  intro h
  have takes : testBesideRegen.takesRequests := by decide
  obtain ⟨-, -, -, -, -, aborts⟩ := h 0 testBesideRegen takes
  obtain ⟨t, taken, -, -, -, -, drain, -⟩ := aborts (.inr (.inl rfl)) (by decide)
  have run : exec (.abortLeakTest 0) testBesideRegen =
      .next (pushReply 0 [Status.accepted.byte] (abortTest onGrant testBesideRegen)) :=
    exec_effect takes (h := abortTestCmd) rfl rfl
  have next : t = pushReply 0 [Status.accepted.byte] (abortTest onGrant testBesideRegen) := by
    injection taken.symm.trans run
  rw [next, pushReply_drain] at drain
  exact absurd (testBesideRegen_allowance.symm.trans (congrArg Drain.allowance drain)) (by decide)

end Sys2Proof.Proofs
end

section
/-! PROOFS. A refill that has settled, salt and filters replaced. -/

namespace Sys2Proof.Machine

variable {s : State}

/-! ### The change flag of SLT (R130) -/

theorem flagSet_setSalt_iff (x : Salt) (s : State) : (setSalt x s).flagSet .salt = true ↔
    s.flagSet .salt = true ∨ x.store ≠ s.slt.store ∨ x.saltLow ≠ s.slt.saltLow ∨ x.bridge ≠ s.slt.bridge
      ∨ x.refillShort ≠ s.slt.refillShort := by
  rw [setSalt, flagSet_raiseIf, Bool.or_eq_true_iff, decide_eq_true_iff]
  rfl

/-! ### A settled refill (R128) -/

theorem settlingDue_iff (s : State) :
    settlingDue s = true ↔ s.slt.refill.phase = .settling ∧ s.slt.refill.timer = some 0 := by
  simp [settlingDue]

theorem refillVerdict_samples (minRise m n : Nat) : refillVerdict minRise (some m) (some n) =
    if m + minRise ≤ n then .pass else .lowRise :=
  if_congr (by omega) rfl rfl

theorem refillVerdict_unchecked (minRise : Nat) {a b : Option Nat} (h : a = none ∨ b = none) :
    refillVerdict minRise a b = .unchecked := by
  rcases h with rfl | rfl
  · rfl
  · cases a <;> rfl

/-- SLT after the judgement of a settled refill. -/
theorem settle600_slt (s : State) : (settle600 s).slt =
    let v := refillVerdict s.slt.settings.minRise s.slt.refill.startSample (levelSample s)
    { s.slt with
      refillShort := refillShortAfter v s.slt.refillShort
      refill := { s.slt.refill with phase := .none, endSample := levelSample s, timer := none, result := some v } } :=
  setSalt_slt ..

/-- The judgement of a settled refill raises SALT when it changes REFILL_SHORT (R127, R128). -/
theorem flagSet_settle600 (h : (settle600 s).slt.refillShort ≠ s.slt.refillShort) : (settle600 s).flagSet .salt := by
  rw [settle600_slt] at h
  exact (flagSet_setSalt_iff _ s).2 (.inr (.inr (.inr (.inr h))))

/-! ### SALT_REFILLED (R121) -/

/-- SLT after SALT_REFILLED: the store filled up, no count of weak draws, and SALT_LOW of the two. -/
theorem saltRefilled_slt (m : Nat) (s : State) : (saltRefilled m s).slt =
    let x : Salt :=
      { s.slt with store := min s.slt.settings.capacity (s.slt.store + m), bridgeCount := 0, bridge := false }
    { x with
      storeCause := storeCause x, levelCause := levelCause x s.trackers[brineLevel]
      saltLow := storeCause x || levelCause x s.trackers[brineLevel]
      levelState := s.trackers[brineLevel].run.st, levelEst := s.trackers[brineLevel].run.est } := by
  simp only [saltRefilled, judgeSalt, setBridgeCount, setSalt_slt, setSalt_trackers]
  rfl

theorem saltMoved_saltRefilled (m : Nat) (s : State) : SaltMoved s (saltRefilled m s) :=
  ((saltMoved_setSalt ..).trans (saltMoved_setSalt ..)).trans (saltMoved_setSalt ..)

/-- Each of the three acts of SALT_REFILLED raises SALT for what it changes, and none of them lowers it. -/
theorem flagSet_saltRefilled {m : Nat} (h : (saltRefilled m s).slt.store ≠ s.slt.store
    ∨ (saltRefilled m s).slt.bridge ≠ s.slt.bridge ∨ (saltRefilled m s).slt.saltLow ≠ s.slt.saltLow) :
    (saltRefilled m s).flagSet .salt := by
  rw [saltRefilled_slt] at h
  simp only [saltRefilled, judgeSalt, setBridgeCount, flagSet_setSalt_iff, setSalt_slt, setSalt_trackers]
  rcases h with store | bridge | low
  · exact .inl (.inl (.inr (.inl store)))
  · exact .inl (.inr (.inr (.inr (.inl bridge))))
  · exact .inr (.inr (.inl low))

/-! ### FILTER_REPLACED (R138) -/

/-- A stage that has a new filter: its counters since replacement, persistence count and DUE set back, and of a media kind
those since backwash too. -/
def Stage.replaced (x : Stage) : Stage :=
  { x with
    volRep := 0, secRep := 0, dpCount := 0, due := false
    volBw := if x.conf.kind = .media then 0 else x.volBw, secBw := if x.conf.kind = .media then 0 else x.secBw }

theorem Stage.replaced_eq (x : Stage) : x.replaced =
    { (if x.conf.kind = .media then clearBwCounters x else x) with volRep := 0, secRep := 0, dpCount := 0, due := false } := by
  unfold Stage.replaced clearBwCounters
  split <;> rfl

theorem filterReplacedTaken_replaced (i : Fin 4) (s : State) : filterReplacedTaken i s =
    let s1 := raiseIf s.flt.stages[i].due .filter (setStage i s.flt.stages[i].replaced s)
    if recIsMedia s.flt.stages[i].conf then
      { setFouled false s1 with flt := { (setFouled false s1).flt with demand := none, watch := false } }
    else s1 := by
  rw [Stage.replaced_eq]
  rfl

/-- FILTER_REPLACED moves its stage and, of the media stage, the demand, the watch and MEDIA_FOULED. -/
theorem filterReplacedTaken_eq (i : Fin 4) (s : State) : filterReplacedTaken i s =
    let media := recIsMedia s.flt.stages[i].conf
    { s with
      flt := { s.flt with
        stages := s.flt.stages.set i s.flt.stages[i].replaced
        demand := if media then none else s.flt.demand
        watch := if media then false else s.flt.watch
        fouled := if media then false else s.flt.fouled }
      mgu := { s.mgu with changes := (filterReplacedTaken i s).mgu.changes } } := by
  rw [filterReplacedTaken_replaced]
  dsimp only
  split
  · rw [setFouled, raiseIf_eq, raiseIf_eq]
    rfl
  · rw [raiseIf_eq]
    rfl

theorem flagSet_setFouled_iff (b : Bool) (s : State) : (setFouled b s).flagSet .filter = true ↔
    s.flagSet .filter = true ∨ b ≠ s.flt.fouled := by
  rw [setFouled, flagSet_raiseIf, Bool.or_eq_true_iff, bne_iff_ne]
  rfl

/-- FILTER_REPLACED raises FILTER when it clears DUE or MEDIA_FOULED (R137, R138, R142). -/
theorem flagSet_filterReplacedTaken {i : Fin 4}
    (h : s.flt.stages[i].due = true ∨ (filterReplacedTaken i s).flt.fouled ≠ s.flt.fouled) :
    (filterReplacedTaken i s).flagSet .filter := by
  have raised : s.flt.stages[i].due = true →
      (raiseIf s.flt.stages[i].due .filter (setStage i s.flt.stages[i].replaced s)).flagSet .filter = true := fun due => by
    rw [flagSet_raiseIf, due, Bool.or_true]
  rw [filterReplacedTaken_eq] at h
  rw [filterReplacedTaken_replaced]
  dsimp only at h ⊢
  split
  · rename_i media
    rw [if_pos media] at h
    refine (flagSet_setFouled_iff false _).2 (h.imp raised fun cleared => ?_)
    rwa [raiseIf_flt]
  · rename_i plain
    rw [if_neg plain] at h
    exact raised (h.resolve_right (absurd rfl))

theorem stageBusy_iff (s : State) (i : Fin 4) : s.stageBusy i = true ↔ s.flt.st ≠ .idle ∧ s.flt.run.stage = some i := by
  simp [State.stageBusy]

theorem filterReplacedCmd_stage (i : Fin 4) (s : State) : filterReplacedCmd i.val s =
    checked (firstFailing [(s.stageBusy i, .busy)]) (filterReplacedTaken i) s :=
  dif_pos i.isLt

theorem filterReplacedCmd_outside {i : Nat} (h : 3 < i) : filterReplacedCmd i s = status .badIndex s :=
  dif_neg (by omega)

end Sys2Proof.Machine

namespace Sys2Proof.Proofs
open Sys2Proof Sys2Proof.Machine

/-- Settles O27: the event due is the judgement of the two samples, and one not due changes nothing. -/
theorem aSettledRefillIsJudged : Obligations.ASettledRefillIsJudged := by
  unfold Obligations.ASettledRefillIsJudged
  refine ⟨fun s phase timer => ?due, fun s early => ?early⟩
  case early =>
    have undue : ¬ settlingDue s = true := fun due =>
      ((settlingDue_iff s).1 due).elim fun phase timer => early.elim (absurd phase) (absurd timer)
    exact congrArg Host.Outcome.next (if_neg undue)
  case due =>
    refine ⟨settle600 s, congrArg Host.Outcome.next (if_pos ((settlingDue_iff s).2 ⟨phase, timer⟩)),
      ?_, ?_, ?_, ?_, ?_, fun m n start level => ?samples, fun missing => ?unchecked, flagSet_settle600, saltMoved_setSalt ..⟩
    case samples =>
      have verdict := refillVerdict_samples s.slt.settings.minRise m n
      rw [settle600_slt, start, show levelSample s = some n from level]
      refine ⟨fun rise => ?_, fun low => ?_⟩
      · rw [verdict, if_pos rise]
        exact ⟨rfl, rfl⟩
      · rw [verdict, if_neg (Nat.not_le.2 low)]
        exact ⟨rfl, rfl⟩
    case unchecked =>
      rw [settle600_slt, refillVerdict_unchecked s.slt.settings.minRise (b := levelSample s) missing]
      exact ⟨rfl, rfl⟩
    all_goals rw [settle600_slt]
    rfl

/-- Settles O7: each command is one change of its block behind its checks. -/
theorem saltRefilledAndFilterReplacedAreTaken : Obligations.SaltRefilledAndFilterReplacedAreTaken := by
  unfold Obligations.SaltRefilledAndFilterReplacedAreTaken
  intro tag s hs
  refine ⟨fun m within => ?salt, fun m above => ?mass, fun i free => ?filter, fun i running stage => ?busy,
    fun i outside => ?index⟩
  case mass =>
    exact exec_refused (h := saltRefilledCmd m) hs rfl rfl (if_pos (decide_eq_true above))
  case busy =>
    exact exec_refused (c := .filterReplaced tag i.val) hs rfl (filterReplacedCmd_stage i s)
      (if_pos ((stageBusy_iff s i).2 ⟨running, stage⟩))
  case index =>
    exact exec_status (c := .filterReplaced tag i) hs rfl (filterReplacedCmd_outside outside)
  case salt =>
    have passed : firstFailing [(decide (500000 < m), .range)] = none :=
      if_neg (mt of_decide_eq_true (Nat.not_lt.2 within))
    have whole : pushReply tag [0] (saltRefilled m s) = { s with
        slt := (saltRefilled m s).slt
        mgu := { s.mgu with
          replies := s.mgu.replies ++ [{ tag := tag, body := [0] }], changes := (saltRefilled m s).mgu.changes } } := by
      rw [saltMoved_saltRefilled m s]
      rfl
    refine ⟨_, exec_stored (h := saltRefilledCmd m) hs rfl rfl passed rfl, ?_, ?_, ?_, ?_, ?_, ?_, ?_, ?_,
      flagSet_saltRefilled, whole⟩
    all_goals rw [pushReply_slt, saltRefilled_slt]
    rw [Bool.or_eq_true_iff, levelCause_iff]
    exact or_congr_left decide_eq_true_iff
  case filter =>
    have ready : ¬ s.stageBusy i = true := fun busy =>
      ((stageBusy_iff s i).1 busy).elim fun running stage => free.elim running (absurd stage)
    refine ⟨_, exec_stored (c := .filterReplaced tag i.val) hs rfl (filterReplacedCmd_stage i s)
      (if_neg ready) rfl,
      ?stage, fun j other => ?others, fun media => ?media, fun plain => ?plain, flagSet_filterReplacedTaken, ?whole⟩
    case whole =>
      rw [filterReplacedTaken_eq]
      rfl
    all_goals rw [pushReply_flt, filterReplacedTaken_eq]
    case stage => exact Vector.getElem_set_self i.isLt
    case others => exact Vector.getElem_set_ne i.isLt j.isLt fun same => other (Fin.ext same.symm)
    case media =>
      rw [(recIsMedia_iff _).2 media]
      exact ⟨rfl, rfl, rfl⟩
    case plain =>
      rw [Bool.eq_false_of_not_eq_true (mt (recIsMedia_iff _).1 plain)]
      exact ⟨rfl, rfl, rfl⟩

end Sys2Proof.Proofs
end

section
/-! PROOFS. What FLT's evaluations judge by and move is left alone by the accounts and by what they bring about. -/

namespace Sys2Proof.Machine

variable {k : Grant}

/-- FLT with blanked what an inlet result and a grant move of it: the counters of volume and seconds, and the backwash's
run with its record and marks. The restoration of a completed backwash alone moves more (R142). -/
def State.judged (s : State) : Flt :=
  { s.flt with
    stages := Vector.ofFn fun i => { s.flt.stages[i] with volRep := 0, secRep := 0, volBw := 0, secBw := 0 }
    snapshot := Vector.replicate 4 BackwashStep.reset, st := .idle, run := BwRun.empty, record := none
    queueDue := false, holdDue := false }

/-- What a requester does at its grant leaves what FLT judges by. -/
structure Grant.Unjudging (k : Grant) : Prop where
  eq : ∀ r s, (k r s).judged = s.judged

/-! ### Updates of other parts and of the run -/

section

variable (s : State)

@[simp] theorem judged_outside (li la ch pr tr a1 a2 a3 a4 d ac r x l m c p) :
    State.judged ⟨li, la, ch, pr, tr, a1, a2, a3, a4, d, ac, r, x, s.flt, l, m, c, p⟩ = s.judged := rfl

@[simp] theorem judged_raise (f : Flag) : (raise f s).judged = s.judged := rfl

@[simp] theorem judged_raiseIf (b : Bool) (f : Flag) : (raiseIf b f s).judged = s.judged := by cases b <;> rfl

@[simp] theorem judged_offerFault (q : FaultKind) (n : Nat) (d : Vector Byte 4) :
    (offerFault q n d s).judged = s.judged := by
  unfold offerFault
  split <;> rfl

@[simp] theorem judged_actRequest (a : Actr) (p : Pos) : (actRequest a p s).judged = s.judged := by cases a <;> rfl

@[simp] theorem judged_setFlt (q : SeqState) : (setFlt q s).judged = s.judged := rfl

@[simp] theorem judged_setBwRun (r : BwRun) : (setBwRun r s).judged = s.judged := rfl

@[simp] theorem judged_bwRecordEnd (o : RunOutcome) : (bwRecordEnd o s).judged = s.judged := rfl

@[simp] theorem judged_setTank (t : TankId) (x : Tank) : (setTank t x s).judged = s.judged := by
  rw [setTank_eq, judged_outside]

@[simp] theorem judged_setSalt (x : Salt) : (setSalt x s).judged = s.judged := judged_raiseIf ..

@[simp] theorem judged_allowanceReport (r : Requester) (a : Option Nat) :
    (allowanceReport r a s).judged = s.judged := by
  rw [allowanceReport_eq, judged_outside]

@[simp] theorem judged_setMain (m : MainState) : (setMain m s).judged = s.judged := judged_raiseIf ..

@[simp] theorem judged_testIdle : (testIdle s).judged = s.judged := rfl

@[simp] theorem judged_setResult (r : TestResult) : (setResult r s).judged = s.judged := rfl

@[simp] theorem judged_fltIncrement (dv : Nat) : (fltIncrement dv s).judged = s.judged := by
  have stage (x : Stage) : { stageVolume dv x with volRep := 0, secRep := 0, volBw := 0, secBw := 0 } =
      { x with volRep := 0, secRep := 0, volBw := 0, secBw := 0 } := by
    unfold stageVolume
    split <;> rfl
  simp [fltIncrement, State.judged, stage]

end

/-! ### DRA -/

@[simp] theorem judged_drainFreed (s : State) : (drainFreed s).judged = s.judged := by
  rw [drainFreed_eq, judged_outside]

@[simp] theorem judged_drainRegrant (hk : k.Unjudging) (s : State) : (drainRegrant k s).judged = s.judged := by
  unfold drainRegrant grantTo
  split
  · split
    · rw [hk.eq, judged_outside]
    · rfl
  · rfl

@[simp] theorem judged_drainRequest (hk : k.Unjudging) (r : Requester) (s : State) :
    (drainRequest k r s).judged = s.judged := by
  rcases drainRequest_cases k r s with ⟨-, e⟩ | ⟨-, e⟩ | ⟨-, -, e⟩ | ⟨-, e⟩ <;> rw [e]
  · rw [grantTo, hk.eq, judged_outside]
  · rw [judged_outside]

@[simp] theorem judged_drainRelease (hk : k.Unjudging) (r : Requester) (s : State) :
    (drainRelease k r s).judged = s.judged := by
  unfold drainRelease
  split
  · rw [judged_drainRegrant hk, judged_drainFreed]
  · split <;> rfl

/-! ### RGS -/

@[simp] theorem judged_stopStep (s : State) : (stopStep s).judged = s.judged := by rw [stopStep_eq, judged_outside]

@[simp] theorem judged_closeDraw (warm : Bool) (s : State) : (closeDraw warm s).judged = s.judged := by
  rw [closeDraw_eq, judged_outside]

@[simp] theorem judged_endTank (q : TankState) (n : Nat) (o : RunOutcome) (s : State) :
    (endTank q n o s).judged = s.judged := by
  unfold endTank
  split
  · exact judged_setTank ..
  · rfl

@[simp] theorem judged_keepTank (q : TankState) (o : RunOutcome) (s : State) :
    (keepTank q o s).judged = s.judged := by
  unfold keepTank
  split
  · exact judged_endTank ..
  · rfl

@[simp] theorem judged_offerRgs (q : FaultKind) (d : Byte) (s : State) : (offerRgs q d s).judged = s.judged := by
  unfold offerRgs
  split
  · exact judged_offerFault ..
  · rfl

@[simp] theorem judged_judgeTanks (old : Option Pos) (p : Pos) (s : State) :
    (judgeTanks old p s).judged = s.judged := by
  rw [judgeTanks_eq, judged_outside]

@[simp] theorem judged_rgsQueue (hk : k.Unjudging) (t : TankId) (trig : RegenTrigger) (q : TankState) (s : State) :
    (rgsQueue k t trig q s).judged = s.judged :=
  (judged_drainRequest hk ..).trans (judged_setTank ..)

@[simp] theorem judged_selMoveDone (hk : k.Unjudging) (s : State) : (selMoveDone k s).judged = s.judged := by
  unfold selMoveDone
  split
  case h_2 =>
    dsimp only
    split
    · rfl
    · exact judged_rgsQueue hk ..
  all_goals rfl

@[simp] theorem judged_selFailed (s : State) : (selFailed s).judged = s.judged := by
  unfold selFailed
  split <;> rfl

@[simp] theorem judged_startSwap (hk : k.Unjudging) (t : TankId) (s : State) :
    (startSwap k t s).judged = s.judged := by
  have asked : (actRequest .selector t.pos (setMove (.swap t) s)).judged = s.judged := judged_actRequest ..
  unfold startSwap
  dsimp only
  split <;> simp [hk, asked]

@[simp] theorem judged_seekAtNotice (hk : k.Unjudging) (t : TankId) (s : State) :
    (seekAtNotice k t s).judged = s.judged := by
  unfold seekAtNotice
  split
  · exact judged_startSwap hk ..
  · rfl

@[simp] theorem judged_finish (hk : k.Unjudging) (s : State) : (finish k s).judged = s.judged := by
  unfold finish swapSeek
  split
  · split
    · exact judged_seekAtNotice hk ..
    · rfl
  · rfl

@[simp] theorem judged_releaseAndFinish (hk : k.Unjudging) (s : State) :
    (releaseAndFinish k s).judged = s.judged :=
  (judged_finish hk _).trans (judged_drainRelease hk ..)

@[simp] theorem judged_parkDone (hk : k.Unjudging) (s : State) : (parkDone k s).judged = s.judged := by
  unfold parkDone
  split
  · rw [judged_releaseAndFinish hk, restoreTank_eq, judged_outside]
  · exact judged_releaseAndFinish hk s

@[simp] theorem judged_rgsFault (hk : k.Unjudging) (code : Byte) (s : State) :
    (rgsFault k code s).judged = s.judged := by
  simp [rgsFault, exhaustTank, hk]

@[simp] theorem judged_rgsRotorFailed (hk : k.Unjudging) (code : Byte) (s : State) :
    (rgsRotorFailed k code s).judged = s.judged := by
  unfold rgsRotorFailed
  split
  case h_6 =>
    split
    · exact judged_rgsFault hk ..
    · exact judged_releaseAndFinish hk s
  all_goals simp [hk]

@[simp] theorem judged_enterHeld (phase : SeqState) (s : State) : (enterHeld phase s).judged = s.judged :=
  judged_stopStep s

@[simp] theorem judged_startRunning (x : RegenStep) (s : State) : (startRunning x s).judged = s.judged := by
  unfold State.judged
  rw [startRunning_flt]

@[simp] theorem judged_rgsRotorDone (hk : k.Unjudging) (p : Pos) (s : State) :
    (rgsRotorDone k p s).judged = s.judged := by
  unfold rgsRotorDone
  (repeat' split) <;> simp [hk]

@[simp] theorem judged_askStep (hk : k.Unjudging) (s : State) : (askStep k s).judged = s.judged := by
  unfold askStep rgsRotorAsk
  dsimp only
  (repeat' split) <;> simp [hk]

@[simp] theorem judged_takeStep (hk : k.Unjudging) (i : Fin 8) (s : State) : (takeStep k i s).judged = s.judged := by
  unfold takeStep enterPositioning
  split
  · exact judged_askStep hk _
  · exact judged_enterHeld ..

theorem judged_rgsGranted (hk : k.Unjudging) (s : State) : (rgsGranted k s).judged = s.judged := by
  have started : s.regenStarted.judged = s.judged := rfl
  unfold rgsGranted
  dsimp only
  split
  · split
    · exact (judged_takeStep hk ..).trans started
    · simp only [judged_finish hk, judged_closeDraw, judged_keepTank]
      exact (judged_drainRelease hk ..).trans started
  · exact judged_drainRelease hk ..

/-! ### FLT -/

@[simp] theorem judged_stopBwStep (s : State) : (stopBwStep s).judged = s.judged := by
  rw [stopBwStep_eq, judged_outside]

@[simp] theorem judged_enterBwHeld (phase : SeqState) (s : State) : (enterBwHeld phase s).judged = s.judged :=
  judged_stopBwStep s

@[simp] theorem judged_bwRotorFailed (hk : k.Unjudging) (s : State) : (bwRotorFailed k s).judged = s.judged := by
  have fault : (bwFault k s).judged = s.judged :=
    (judged_drainRelease hk .backwash (bwRecordEnd .faulted (stopBwStep s))).trans (judged_stopBwStep s)
  unfold bwRotorFailed
  split
  case h_6 =>
    split
    · rfl
    · exact fault
  case h_1 => rfl
  case h_2 => rfl
  all_goals exact fault

/-- The rotor asked toward a step's position comes to no end of the run. -/
theorem judged_askBwStep (hk : k.Unjudging) {s : State} (h : s.flt.st = .positioning) :
    (askBwStep k s).judged = s.judged := by
  have done (p : Pos) : (bwRotorDone k p (actRequest .filterRotor p s)).judged = s.judged := by
    unfold bwRotorDone
    rw [actRequest_flt, h]
    dsimp only
    (repeat' split) <;> simp
  unfold askBwStep bwRotorAsk
  dsimp only
  (repeat' split) <;> simp [hk, done]

theorem judged_takeBwStep (hk : k.Unjudging) (i : Fin 4) (s : State) : (takeBwStep k i s).judged = s.judged := by
  unfold takeBwStep enterBwPositioning
  split
  · exact judged_askBwStep hk rfl
  · exact judged_enterBwHeld ..

theorem judged_fltGranted (hk : k.Unjudging) (s : State) : (fltGranted k s).judged = s.judged := by
  unfold fltGranted
  dsimp only
  split
  · split
    · exact judged_takeBwStep hk ..
    · have ended (u : State) : (bwIdle (bwRecordEnd .cancelled u)).judged = u.judged := rfl
      exact (ended _).trans (judged_drainRelease hk .backwash s.backwashStarted)
  · exact judged_drainRelease hk ..

/-! ### LKG -/

@[simp] theorem judged_setMainShut (m : MainState) (s : State) : (setMainShut m s).judged = s.judged := by
  by_cases h : s.lkg.main = .opened
  · have held : (heldRuns (setMain m s)).judged = (setMain m s).judged := by
      rw [heldRuns_eq, State.judged, Flt.held]
      split <;> rfl
    rw [setMainShut_opened h, held, judged_setMain]
  · rw [setMainShut_shut h, judged_setMain]

@[simp] theorem judged_testRelease (hk : k.Unjudging) (s : State) : (testRelease k s).judged = s.judged :=
  (judged_testIdle _).trans (judged_drainRelease hk ..)

@[simp] theorem judged_testStop (hk : k.Unjudging) (r : TestResult) (s : State) :
    (testStop k r s).judged = s.judged := by
  unfold testStop
  split <;> simp [hk]

@[simp] theorem judged_mainRefused (hk : k.Unjudging) (a : Answer) (s : State) :
    (mainRefused k a s).judged = s.judged := by
  unfold mainRefused testValve
  (repeat' split) <;> simp [hk]

@[simp] theorem judged_closeMainFor (hk : k.Unjudging) (r : CloseReason) (s : State) :
    (closeMainFor k r s).judged = s.judged := by
  unfold closeMainFor
  dsimp only
  split <;> simp [hk]

theorem judged_testGranted (hk : k.Unjudging) (s : State) : (testGranted k s).judged = s.judged := by
  have closed (u : State) : (testClosed u).judged = u.judged := by
    unfold testClosed
    split <;> rfl
  unfold testGranted
  split
  · rw [closed]
    exact judged_closeMainFor hk ..
  · exact judged_drainRelease hk ..

theorem unjudging_granted (n : Nat) : (granted n).Unjudging := by
  induction n with
  | zero => exact ⟨fun r s => by cases r <;> rfl⟩
  | succ n ih =>
    refine ⟨fun r s => ?_⟩
    cases r with
    | regen => exact judged_rgsGranted ih s
    | backwash => exact judged_fltGranted ih s
    | test => exact judged_testGranted ih s

theorem unjudging_onGrant : onGrant.Unjudging := unjudging_granted 16

theorem judged_latchSet (hk : k.Unjudging) (c : LatchCause) (s : State) : (latchSet k c s).judged = s.judged := by
  have closed (u : State) : (latchClose k u).judged = u.judged := by
    unfold latchClose
    split <;> simp [hk]
  unfold latchSet
  dsimp only
  (repeat' split) <;> simp [hk, closed]

theorem judged_lkgIncrement (hk : k.Unjudging) (dv aVol : Nat) (s : State) :
    (lkgIncrement k dv aVol s).judged = s.judged := by
  have drawn : (drawIncrement (netVolume dv aVol) s).judged = s.judged := by rw [drawIncrement_eq, judged_outside]
  refine List.foldlRecOn (motive := fun t : State => t.judged = s.judged) _ _ drawn fun t ht i _ => ?_
  have tripped : (tripRule k i t).judged = t.judged := by
    unfold tripRule
    dsimp only
    split
    · exact judged_latchSet hk ..
    · rfl
  unfold judgeEventRule
  dsimp only
  split
  · exact tripped.trans ht
  · exact ht

/-! ### An accounted result -/

theorem judged_charged (r : ChanResult) (s : State) : (s.charged r).judged = s.judged := by
  have treated : (s.treated r).judged = s.judged := by
    rw [State.treated, metered_eq]
    rfl
  have slipped (x : Nat) (u : State) : (addSlip x u).judged = u.judged := by rw [addSlip_eq, judged_outside]
  rw [← treated, charged_eq]
  unfold charge chargeTank
  dsimp only
  split
  · split
    · rw [slipped, judged_setTank]
    · exact slipped ..
  · split
    · rfl
    · exact slipped ..

theorem judged_giveNotices (n : Option (TankId × Bool × Bool)) (s : State) : (giveNotices n s).judged = s.judged := by
  have seek := judged_seekAtNotice unjudging_onGrant
  unfold giveNotices exhaustionNotice reserveNotice
  dsimp only
  (repeat' split) <;> simp [seek]

theorem judged_inletResult (r : ChanResult) (s : State) : (inletResult r s).judged = s.judged := by
  unfold inletResult
  dsimp only
  rw [judged_giveNotices, judged_fltIncrement, judged_lkgIncrement unjudging_onGrant]
  exact judged_charged r s

theorem judged_brineResult (r : ChanResult) (s : State) : (brineResult r s).judged = s.judged := by
  have stage : (rgsIncrement (s.brineVolume r.z) (brineStage r.z s)).judged = s.judged := by
    rw [rgsIncrement_eq, brineStage_eq]
    rfl
  unfold brineResult brineIncrement refillIncrement
  dsimp only
  split
  · exact stage
  · exact stage
  · split <;> exact stage

/-- An accounted result leaves what FLT judges by, and the trackers. -/
theorem judged_accounted (ch : Fin 8) (c : Channel) (r : ChanResult) (s : State) :
    (s.accounted ch c r).judged = s.judged := by
  have closed : (s.closing ch c).judged = s.judged := by rw [closing_eq, judged_outside]
  unfold State.accounted toBrine toInlet
  (repeat' split) <;> simp [judged_brineResult, judged_inletResult, closed]

end Sys2Proof.Machine
end

section
/-! PROOFS. The evaluations of the filter stages, what they move and what they tell. -/

namespace Sys2Proof.Machine

variable {s t u : State} {i j : Fin 4}

/-! ### A stage DUE, a demand (R137, R140) -/

theorem markDue_due (he : s.flt.stages[i].conf.enabled = true) (hd : s.flt.stages[i].due = false) :
    markDue i s = raise .filter (setStage i { s.flt.stages[i] with due := true } s) := by
  rw [markDue, he, hd]
  rfl

theorem reached_iff {limit : Option Nat} {unit n : Nat} :
    reached limit unit n = true ↔ ∃ l, limit = some l ∧ l * unit ≤ n := by
  cases limit <;> simp [reached]

theorem stageDueNow_iff (x : Stage) : stageDueNow x = true ↔ x.conf.enabled = true ∧ x.due = false
    ∧ ((∃ l, x.conf.volumeLimit = some l ∧ l ≤ x.volRep) ∨ ∃ d, x.conf.dayLimit = some d ∧ d * 86400 ≤ x.secRep) := by
  simp [stageDueNow, limitReached, reached_iff, and_assoc]

theorem mediaStage_none (h : ∀ j : Fin 4, s.flt.stages[j].conf.enabled = false) : s.mediaStage = none :=
  find_finRange_none fun j media => by
    rw [recIsMedia_iff, h j] at media
    exact nomatch media.1

/-- A demand set while it is clear raises FILTER, and moves the demand and the mark of the queue alone. -/
theorem setDemand_clear (c : BwTrigger) (h : s.flt.demand = none) : ∃ q, setDemand c s =
    raise .filter { s with flt := { s.flt with demand := some c, queueDue := q } } := by
  rw [setDemand, h]
  exact ⟨_, rfl⟩

theorem setDemand_set (c : BwTrigger) (h : s.flt.demand ≠ none) : setDemand c s = s :=
  if_neg (by simpa using h)

/-! ### What an evaluation tells (R137, R140, R142) -/

/-- `t` is `s` with FLT moved alone, a change of DUE, of the demand or of MEDIA_FOULED raising FILTER. -/
structure FltTold (s t : State) : Prop where
  only : t = { s with flt := t.flt, mgu := { s.mgu with changes := t.mgu.changes } }
  reach : Reach s t
  told : t.flagSet .filter = true ∨ (∀ j : Fin 4, t.flt.stages[j].due = s.flt.stages[j].due)
    ∧ t.flt.demand = s.flt.demand ∧ t.flt.fouled = s.flt.fouled

theorem FltTold.refl (s : State) : FltTold s s := ⟨rfl, .same, .inr ⟨fun _ => rfl, rfl, rfl⟩⟩

theorem FltTold.trans (h : FltTold s u) (g : FltTold u t) : FltTold s t := by
  refine ⟨?_, h.reach.trans g.reach, ?_⟩
  · rw [g.only, h.only]
  · rcases g.told with flag | ⟨due, demand, fouled⟩
    · exact .inl flag
    · rcases h.told with flag | ⟨due', demand', fouled'⟩
      · exact .inl (reach_flagSet g.reach _ flag)
      · exact .inr ⟨fun j => (due j).trans (due' j), demand.trans demand', fouled.trans fouled'⟩

theorem FltTold.records (h : FltTold s t) (j : Fin 4) : t.flt.stages[j].conf = s.flt.stages[j].conf := by
  have apart := congrArg (fun x : State => x.flt.stages[j].conf) (reach_apart h.reach)
  simpa [State.apart, Stage.still] using apart

theorem fltTold_raise (f : Flt) (h : Reach s { s with flt := f }) : FltTold s (raise .filter { s with flt := f }) :=
  ⟨rfl, reach_raise _ h, .inl (flagSet_raise ..)⟩

theorem fltTold_setStage {x : Stage} (hc : x.conf = s.flt.stages[i].conf) (hd : x.due = s.flt.stages[i].due) :
    FltTold s (setStage i x s) := by
  refine ⟨rfl, reach_setStage i .same hc, .inr ⟨fun j => ?_, rfl, rfl⟩⟩
  rw [setStage_flt, getElem_set_ite]
  split
  · subst j; exact hd
  · rfl

theorem fltTold_markDue (i : Fin 4) (s : State) : FltTold s (markDue i s) := by
  unfold markDue
  split
  · exact fltTold_raise _ (reach_setStage i .same rfl)
  · exact .refl s

theorem fltTold_setDemand (c : BwTrigger) (s : State) : FltTold s (setDemand c s) := by
  by_cases h : s.flt.demand = none
  · obtain ⟨q, e⟩ := setDemand_clear c h
    rw [e]
    exact fltTold_raise _ (Reach.same.flt ⟨rfl, fun _ => rfl⟩)
  · rw [setDemand_set c h]
    exact .refl s

theorem fltTold_judgeWatch (i : Fin 4) (high : Bool) (s : State) : FltTold s (judgeWatch i high s) := by
  have disarmed : FltTold s (setFouled high { s with flt := { s.flt with watch := false } }) := by
    unfold setFouled raiseIf
    split
    · exact fltTold_raise _ (Reach.same.flt ⟨rfl, fun _ => rfl⟩)
    · rename_i same
      exact ⟨rfl, Reach.same.flt ⟨rfl, fun _ => rfl⟩, .inr ⟨fun _ => rfl, rfl, by simpa using same⟩⟩
  unfold judgeWatch
  dsimp only
  split
  · split
    · exact disarmed.trans (fltTold_markDue ..)
    · exact disarmed
  · exact .refl s

theorem fltTold_persisted (i : Fin 4) (s : State) : FltTold s (persisted i s) := by
  unfold persisted
  split
  · exact fltTold_markDue ..
  · split
    · exact .refl s
    · exact fltTold_setDemand ..

/-! ### When an evaluation is made (R136) -/

/-- The conditions of an evaluation between two pressures. -/
def State.Measures (s : State) (c : StageRec) (a b : PressureId) : Prop :=
  c.enabled = true ∧ c.up = some a ∧ c.down = some b ∧ s.trackers[flow].run.st = .locked ∧ c.qMin ≤ s.estimate flow
    ∧ s.trackers[pressureTracker a].run.st = .locked ∧ s.trackers[pressureTracker b].run.st = .locked
    ∧ s.lkg.main = .opened ∧ s.filterRotor.run.st = .at .service

/-- The normalised pressure drop. -/
def State.pressureDrop (s : State) (c : StageRec) (a b : PressureId) : Nat :=
  min 2000 ((s.estimate (pressureTracker a) - s.estimate (pressureTracker b)) * c.qRef / s.estimate flow)

theorem evaluation_iff {c : StageRec} {dp : Nat} : evaluation s c = some dp ↔ ∃ a b, s.Measures c a b
    ∧ c.dpLimit ≠ none ∧ dp = s.pressureDrop c a b := by
  unfold evaluation
  split
  · rename_i a b l up down limit
    have holds : (c.enabled && s.locked flow && decide (c.qMin ≤ s.estimate flow) && s.locked (pressureTracker a)
        && s.locked (pressureTracker b) && s.mainOpen && s.filterAtService) = true ↔ s.Measures c a b := by
      simp [State.Measures, State.locked, State.mainOpen, State.filterAtService, up, down, and_assoc]
    have only (a' b' : PressureId) (h : s.Measures c a' b') : a = a' ∧ b = b' :=
      ⟨Option.some.inj (up.symm.trans h.2.1), Option.some.inj (down.symm.trans h.2.2.1)⟩
    dsimp only
    split
    · rename_i all
      constructor
      · exact fun e => ⟨a, b, holds.1 all, by simp [limit], (Option.some.inj e).symm⟩
      · rintro ⟨a', b', made, -, rfl⟩
        obtain ⟨rfl, rfl⟩ := only a' b' made
        rfl
    · rename_i fails
      refine ⟨nofun, ?_⟩
      rintro ⟨a', b', made, -, -⟩
      obtain ⟨rfl, rfl⟩ := only a' b' made
      exact absurd (holds.2 made) fails
  · rename_i missing
    refine ⟨nofun, ?_⟩
    rintro ⟨a, b, ⟨-, up, down, -⟩, limit, -⟩
    obtain ⟨l, hl⟩ := Option.ne_none_iff_exists'.1 limit
    exact (missing a b l up down hl).elim

theorem evaluation_none {c : StageRec} (h : c.dpLimit = none ∨ ∀ a b, ¬ s.Measures c a b) : evaluation s c = none := by
  refine Option.eq_none_iff_forall_ne_some.2 fun dp e => ?_
  obtain ⟨a, b, made, limit, -⟩ := evaluation_iff.1 e
  exact h.elim limit fun never => never a b made

theorem FltTold.evaluation (h : FltTold s t) (c : StageRec) : evaluation t c = evaluation s c := by
  rw [h.only]
  rfl

/-! ### What an evaluation moves (R136, R142) -/

/-- The pressure drop is above the stage's limit. -/
def Stage.above (x : Stage) (dp : Nat) : Bool := decide (x.conf.dpLimit.getD 2000 < dp)

/-- The evaluation brings the persistence count to N. -/
def Stage.persists (x : Stage) (dp : Nat) : Bool := x.above dp && decide (x.dpCount + 1 = x.conf.persistence)

/-- A stage after an evaluation, DUE as given. -/
def Stage.evaluated (x : Stage) (dp : Nat) (due : Bool) : Stage :=
  { x with lastDp := some dp, dpCount := if x.above dp then min 255 (x.dpCount + 1) else 0, due := due }

/-- The drop taken at an evaluation of a stage, before what follows from it. -/
def State.dropTaken (s : State) (i : Fin 4) (dp : Nat) : State :=
  setStage i (s.flt.stages[i].evaluated dp s.flt.stages[i].due) s

theorem dropTaken_stage (i : Fin 4) (dp : Nat) (s : State) :
    (s.dropTaken i dp).flt.stages[i] = s.flt.stages[i].evaluated dp s.flt.stages[i].due :=
  Vector.getElem_set_self i.isLt

theorem fltTold_dropTaken (i : Fin 4) (dp : Nat) (s : State) : FltTold s (s.dropTaken i dp) :=
  fltTold_setStage rfl rfl

theorem evaluateStage_none (h : evaluation s s.flt.stages[i].conf = none) : evaluateStage i s = s := by
  simp only [evaluateStage, h]

theorem evaluateStage_some {dp : Nat} (h : evaluation s s.flt.stages[i].conf = some dp) : evaluateStage i s =
    let watched := judgeWatch i (s.flt.stages[i].above dp) (s.dropTaken i dp)
    if s.flt.stages[i].persists dp then persisted i watched else watched := by
  have persists (x : Stage) : (x.above dp = true ∧ x.dpCount + 1 = x.conf.persistence) = (x.persists dp = true) := by
    rw [Stage.persists, Bool.and_eq_true, decide_eq_true_eq]
  unfold evaluateStage
  dsimp only
  rw [h]
  simp only [← persists]
  rfl

theorem fltTold_evaluateStage (i : Fin 4) (s : State) : FltTold s (evaluateStage i s) := by
  cases h : evaluation s s.flt.stages[i].conf with
  | none =>
    rw [evaluateStage_none h]
    exact .refl s
  | some dp =>
    have watched := (fltTold_dropTaken i dp s).trans (fltTold_judgeWatch i (s.flt.stages[i].above dp) _)
    rw [evaluateStage_some h]
    dsimp only
    split
    · exact watched.trans (fltTold_persisted ..)
    · exact watched

theorem FltTold.mediaStage (h : FltTold s t) : t.mediaStage = s.mediaStage := by
  simp only [State.mediaStage, h.records]

theorem recIsMedia_mediaStage (h : s.mediaStage = some i) : recIsMedia s.flt.stages[i].conf = true :=
  List.find?_some (p := fun j : Fin 4 => recIsMedia s.flt.stages[j].conf) h

theorem markDue_flt (he : s.flt.stages[i].conf.enabled = true) : (markDue i s).flt =
    { s.flt with stages := s.flt.stages.set i { s.flt.stages[i] with due := true } } := by
  cases hd : s.flt.stages[i].due with
  | false => rw [markDue_due he hd]; rfl
  | true =>
    have same : { s.flt.stages[i] with due := true } = s.flt.stages[i] := by rw [← hd]
    rw [same, Fin.getElem_fin, Vector.set_getElem_self, markDue, hd]
    simp

/-- The watch judged at an evaluation of the media stage. -/
theorem judgeWatch_flt (hm : s.mediaStage = some i) (high : Bool) : (judgeWatch i high s).flt = { s.flt with
    stages := s.flt.stages.set i
      { s.flt.stages[i] with due := s.flt.stages[i].due || (s.flt.watch && high) }
    watch := false
    fouled := if s.flt.watch then high else s.flt.fouled } := by
  obtain ⟨enabled, -⟩ := (recIsMedia_iff _).1 (recIsMedia_mediaStage hm)
  have fouled (b : Bool) (u : State) : (setFouled b u).flt = { u.flt with fouled := b } := raiseIf_flt ..
  have same : s.flt.stages.set i s.flt.stages[i] = s.flt.stages := Vector.set_getElem_self i.isLt
  cases watch : s.flt.watch with
  | false =>
    rw [judgeWatch, if_neg fun c => Bool.false_ne_true (watch.symm.trans c.1), Bool.false_and, Bool.or_false, same,
      if_neg Bool.false_ne_true, ← watch]
  | true =>
    rw [judgeWatch, if_pos ⟨watch, hm⟩]
    cases high with
    | false =>
      rw [Bool.and_false, Bool.or_false, same]
      exact fouled ..
    | true =>
      have marked := markDue_flt (s := setFouled true { s with flt := { s.flt with watch := false } }) (i := i)
        (by rw [fouled]; exact enabled)
      rw [fouled] at marked
      rw [Bool.and_true, Bool.or_true]
      exact marked

/-- A cartridge's evaluation makes it DUE when it brings the count to N. -/
theorem evaluateStage_cartridge {dp : Nat} (h : evaluation s s.flt.stages[i].conf = some dp)
    (hk : s.flt.stages[i].conf.kind = .cartridge) : (evaluateStage i s).flt = { s.flt with
      stages := s.flt.stages.set i
        (s.flt.stages[i].evaluated dp (s.flt.stages[i].due || s.flt.stages[i].persists dp)) } := by
  obtain ⟨a, b, ⟨enabled, -⟩, -⟩ := evaluation_iff.1 h
  have stage := dropTaken_stage i dp s
  have plain : (s.dropTaken i dp).mediaStage ≠ some i := fun m => by
    have kind := ((recIsMedia_iff _).1 (recIsMedia_mediaStage m)).2
    rw [stage] at kind
    exact nomatch hk.symm.trans kind
  have watched : judgeWatch i (s.flt.stages[i].above dp) (s.dropTaken i dp) = s.dropTaken i dp :=
    if_neg fun c => plain c.2
  rw [evaluateStage_some h, watched]
  cases s.flt.stages[i].persists dp with
  | false =>
    rw [Bool.or_false]
    rfl
  | true =>
    have kind : (s.dropTaken i dp).flt.stages[i].conf.kind = .cartridge := by rw [stage]; exact hk
    have marked := markDue_flt (s := s.dropTaken i dp) (i := i) (by rw [stage]; exact enabled)
    simp only [if_true, persisted, kind, marked, Bool.or_true]
    rw [stage, State.dropTaken, setStage_flt, Vector.set_set]
    rfl

/-- A media stage that has reached N sets a clear demand unless MEDIA_FOULED is set. -/
theorem persisted_media (hk : s.flt.stages[i].conf.kind = .media) : ∃ q, (persisted i s).flt = { s.flt with
    demand := match s.flt.demand with
      | some d => some d
      | none => if s.flt.fouled then none else some .pressure
    queueDue := q } := by
  have taken : persisted i s = if s.flt.fouled then s else setDemand .pressure s := by simp only [persisted, hk]
  have kept (d : Option BwTrigger) (h : s.flt.demand = d) : s.flt = { s.flt with demand := d } := by rw [← h]
  rw [taken]
  cases demand : s.flt.demand with
  | some d =>
    rw [setDemand_set .pressure (by simp [demand]), ite_self]
    exact ⟨s.flt.queueDue, kept _ demand⟩
  | none =>
    obtain ⟨q, set⟩ := setDemand_clear .pressure demand
    dsimp only
    split
    · exact ⟨s.flt.queueDue, kept _ demand⟩
    · rw [set]
      exact ⟨q, rfl⟩

/-- The media stage's evaluation judges the watch, and then sets a clear demand when it brings the count to N. -/
theorem evaluateStage_media {dp : Nat} (h : evaluation s s.flt.stages[i].conf = some dp)
    (hm : s.mediaStage = some i) :
    let x := s.flt.stages[i]
    ∃ q, (evaluateStage i s).flt = { s.flt with
      stages := s.flt.stages.set i (x.evaluated dp (x.due || (s.flt.watch && x.above dp)))
      watch := false
      fouled := if s.flt.watch then x.above dp else s.flt.fouled
      demand := match s.flt.demand with
        | some d => some d
        | none => if x.persists dp && !s.flt.watch && !s.flt.fouled then some .pressure else none
      queueDue := q } := by
  intro x
  have told := fltTold_dropTaken i dp s
  have watched : (judgeWatch i (x.above dp) (s.dropTaken i dp)).flt = { s.flt with
      stages := s.flt.stages.set i (x.evaluated dp (x.due || (s.flt.watch && x.above dp)))
      watch := false
      fouled := if s.flt.watch then x.above dp else s.flt.fouled } := by
    rw [judgeWatch_flt (told.mediaStage.trans hm), dropTaken_stage, State.dropTaken, setStage_flt, Vector.set_set]
    rfl
  have kind : (judgeWatch i (x.above dp) (s.dropTaken i dp)).flt.stages[i].conf.kind = .media := by
    rw [(told.trans (fltTold_judgeWatch ..)).records]
    exact ((recIsMedia_iff _).1 (recIsMedia_mediaStage hm)).2
  rw [evaluateStage_some h]
  dsimp only
  cases persists : s.flt.stages[i].persists dp with
  | false =>
    refine ⟨s.flt.queueDue, ?_⟩
    rw [if_neg Bool.false_ne_true, watched]
    dsimp only
    congr 1
    cases s.flt.demand <;> rfl
  | true =>
    have high : x.above dp = true := (Bool.and_eq_true_iff.1 persists).1
    obtain ⟨q, e⟩ := persisted_media kind
    refine ⟨q, ?_⟩
    rw [if_pos rfl, e, watched, high]
    cases s.flt.watch <;> cases s.flt.fouled <;> rfl

/-- An evaluation moves its own stage's entry, whichever enabled stage is the media stage. -/
theorem evaluateStage_stages {dp : Nat} (h : evaluation s s.flt.stages[i].conf = some dp) :
    ∃ due, (evaluateStage i s).flt.stages = s.flt.stages.set i (s.flt.stages[i].evaluated dp due) := by
  cases hk : s.flt.stages[i].conf.kind with
  | cartridge => exact ⟨_, congrArg Flt.stages (evaluateStage_cartridge h hk)⟩
  | media =>
    by_cases hm : s.mediaStage = some i
    · obtain ⟨q, e⟩ := evaluateStage_media h hm
      exact ⟨_, congrArg Flt.stages e⟩
    · have watched : judgeWatch i (s.flt.stages[i].above dp) (s.dropTaken i dp) = s.dropTaken i dp :=
        if_neg fun c => hm ((fltTold_dropTaken i dp s).mediaStage.symm.trans c.2)
      obtain ⟨q, e⟩ := persisted_media (s := s.dropTaken i dp) (i := i) (by rw [dropTaken_stage]; exact hk)
      refine ⟨s.flt.stages[i].due, ?_⟩
      rw [evaluateStage_some h, watched]
      dsimp only
      split
      · rw [e]; rfl
      · rfl

/-! ### The evaluations of the four stages at an update of FLOW (R136) -/

/-- What the evaluations of other stages leave of stage `i`, and of the media stage's marks when it is the only one. -/
structure Passed (i : Fin 4) (s t : State) : Prop where
  told : FltTold s t
  stage : t.flt.stages[i] = s.flt.stages[i]
  marks : (∀ j : Fin 4, j ≠ i → ¬ (s.flt.stages[j].conf.enabled = true ∧ s.flt.stages[j].conf.kind = .media)) →
    t.flt.demand = s.flt.demand ∧ t.flt.watch = s.flt.watch ∧ t.flt.fouled = s.flt.fouled

theorem Passed.refl (i : Fin 4) (s : State) : Passed i s s := ⟨.refl s, rfl, fun _ => ⟨rfl, rfl, rfl⟩⟩

theorem Passed.trans (h : Passed i s u) (g : Passed i u t) : Passed i s t where
  told := h.told.trans g.told
  stage := g.stage.trans h.stage
  marks := fun alone => by
    obtain ⟨demand, watch, fouled⟩ := h.marks alone
    obtain ⟨demand', watch', fouled'⟩ := g.marks fun j hj => by rw [h.told.records]; exact alone j hj
    exact ⟨demand'.trans demand, watch'.trans watch, fouled'.trans fouled⟩

theorem passed_evaluateStage (h : j ≠ i) (s : State) : Passed i s (evaluateStage j s) := by
  cases made : evaluation s s.flt.stages[j].conf with
  | none =>
    rw [evaluateStage_none made]
    exact .refl i s
  | some dp =>
    refine ⟨fltTold_evaluateStage j s, ?_, fun alone => ?_⟩
    · obtain ⟨due, stages⟩ := evaluateStage_stages made
      rw [stages, getElem_set_ite, if_neg (Ne.symm h)]
    · obtain ⟨a, b, ⟨enabled, -⟩, -⟩ := evaluation_iff.1 made
      cases kind : s.flt.stages[j].conf.kind with
      | media => exact absurd ⟨enabled, kind⟩ (alone j h)
      | cartridge =>
        rw [evaluateStage_cartridge made kind]
        exact ⟨rfl, rfl, rfl⟩

theorem passed_foldl {l : List (Fin 4)} (h : i ∉ l) (s : State) :
    Passed i s (l.foldl (fun s j => evaluateStage j s) s) :=
  List.foldlRecOn (motive := Passed i s) _ _ (.refl i s) fun t ht j hj =>
    ht.trans (passed_evaluateStage (fun e : j = i => h (e ▸ hj)) t)

theorem fltFlowUpdate_at (i : Fin 4) (s : State) :
    ∃ u, Passed i s u ∧ Passed i (evaluateStage i u) (fltFlowUpdate s) := by
  obtain ⟨before, after, parts⟩ := List.append_of_mem (List.mem_finRange i)
  have nodup : (before ++ i :: after).Nodup := parts ▸ List.nodup_finRange 4
  have first : i ∉ before := fun h => (List.nodup_append'.1 nodup).2.2 h List.mem_cons_self
  have last : i ∉ after := (List.nodup_cons.1 (List.nodup_append'.1 nodup).2.1).1
  unfold fltFlowUpdate
  rw [parts, List.foldl_append, List.foldl_cons]
  exact ⟨_, passed_foldl first s, passed_foldl last _⟩

theorem fltTold_fltFlowUpdate (s : State) : FltTold s (fltFlowUpdate s) :=
  List.foldlRecOn (motive := FltTold s) _ _ (.refl s) fun t ht j _ => ht.trans (fltTold_evaluateStage j t)

theorem fltFlowUpdate_none (h : evaluation s s.flt.stages[i].conf = none) :
    (fltFlowUpdate s).flt.stages[i] = s.flt.stages[i] := by
  obtain ⟨u, before, after⟩ := fltFlowUpdate_at i s
  have none : evaluateStage i u = u := evaluateStage_none (by rw [before.stage, before.told.evaluation]; exact h)
  rw [after.stage, none, before.stage]

variable {dp : Nat}

/-- Each stage with an evaluation takes its drop and its count. -/
theorem fltFlowUpdate_stage (h : evaluation s s.flt.stages[i].conf = some dp) :
    ∃ due, (fltFlowUpdate s).flt.stages[i] = s.flt.stages[i].evaluated dp due := by
  obtain ⟨u, before, after⟩ := fltFlowUpdate_at i s
  obtain ⟨due, stages⟩ := evaluateStage_stages (s := u) (i := i) (dp := dp)
    (by rw [before.stage, before.told.evaluation]; exact h)
  refine ⟨due, ?_⟩
  rw [after.stage, stages, getElem_set_ite, if_pos rfl, before.stage]

theorem fltFlowUpdate_cartridge (h : evaluation s s.flt.stages[i].conf = some dp)
    (hk : s.flt.stages[i].conf.kind = .cartridge) :
    (fltFlowUpdate s).flt.stages[i].due = (s.flt.stages[i].due || s.flt.stages[i].persists dp) := by
  obtain ⟨u, before, after⟩ := fltFlowUpdate_at i s
  have moved := evaluateStage_cartridge (s := u) (i := i) (dp := dp)
    (by rw [before.stage, before.told.evaluation]; exact h) (by rw [before.stage]; exact hk)
  rw [after.stage, moved, getElem_set_ite, if_pos rfl, before.stage]
  rfl

/-- The only media stage, with an evaluation: DUE and the marks of FLT after the watch and the count. -/
theorem fltFlowUpdate_media (h : evaluation s s.flt.stages[i].conf = some dp)
    (hk : s.flt.stages[i].conf.kind = .media)
    (alone : ∀ j : Fin 4, j ≠ i → ¬ (s.flt.stages[j].conf.enabled = true ∧ s.flt.stages[j].conf.kind = .media)) :
    let x := s.flt.stages[i]
    (fltFlowUpdate s).flt.stages[i].due = (x.due || (s.flt.watch && x.above dp))
      ∧ (fltFlowUpdate s).flt.watch = false
      ∧ (fltFlowUpdate s).flt.fouled = (if s.flt.watch then x.above dp else s.flt.fouled)
      ∧ (fltFlowUpdate s).flt.demand = match s.flt.demand with
        | some d => some d
        | none => if x.persists dp && !s.flt.watch && !s.flt.fouled then some .pressure else none := by
  obtain ⟨a, b, ⟨enabled, -⟩, -⟩ := evaluation_iff.1 h
  have media : s.mediaStage = some i := mediaStage_first enabled hk fun j hj => alone j (Fin.ne_of_lt hj)
  obtain ⟨u, before, after⟩ := fltFlowUpdate_at i s
  obtain ⟨q, moved⟩ := evaluateStage_media (s := u) (i := i) (dp := dp)
    (by rw [before.stage, before.told.evaluation]; exact h) (before.told.mediaStage.trans media)
  obtain ⟨demand, watch, fouled⟩ := after.marks fun j hj => by
    rw [(before.told.trans (fltTold_evaluateStage i u)).records]
    exact alone j hj
  obtain ⟨demand', watch', fouled'⟩ := before.marks alone
  rw [after.stage, demand, watch, fouled, moved, demand', watch', fouled', before.stage]
  refine ⟨?_, rfl, rfl, rfl⟩
  rw [getElem_set_ite, if_pos rfl]
  rfl

end Sys2Proof.Machine
end

section
/-! PROOFS. The pressure-drop evaluations that a published result of FLOW's channel brings about. -/

namespace Sys2Proof.Machine

variable {s t : State} {ch : Fin 8}

/-! ### A demand that falls due (R140) -/

theorem demandDue_media {i : Fin 4} (hm : s.mediaStage = some i) (hc : s.flt.demand = none) : demandDue s =
    if reached s.flt.stages[i].conf.bwVolume 1 s.flt.stages[i].volBw then some .volume
    else if reached s.flt.stages[i].conf.bwDays 86400 s.flt.stages[i].secBw then some .days else none := by
  simp only [demandDue, hm, hc]
  rfl

theorem judgeDemand_undue (h : demandDue s = none) : judgeDemand s = s := by simp only [judgeDemand, h]

/-- A demand that is due is set, FILTER raised, and the mark of the queue judged. -/
theorem exec_backwashDemand_due {c : BwTrigger} (hc : s.flt.demand = none) (h : demandDue s = some c) :
    ∃ t, exec .backwashDemand s = .next t ∧ t.flt.demand = some c ∧ t.flagSet .filter
      ∧ t.flt.stages = s.flt.stages ∧ t.flt.st = s.flt.st ∧ t.flt.run = s.flt.run
      ∧ t = { s with flt := t.flt, mgu := { s.mgu with changes := t.mgu.changes } } := by
  obtain ⟨q, set⟩ := setDemand_clear c hc
  have judged : judgeDemand s = setDemand c s := by simp only [judgeDemand, h]
  exact ⟨_, congrArg Host.Outcome.next (judged.trans set), rfl, flagSet_raise .., rfl, rfl, rfl, rfl⟩

/-! ### What FLT judges by, field by field -/

theorem demand_of_judged (h : t.judged = s.judged) : t.flt.demand = s.flt.demand ∧ t.flt.watch = s.flt.watch
    ∧ t.flt.fouled = s.flt.fouled := by
  simp only [State.judged, Flt.mk.injEq] at h
  tauto

theorem stage_of_judged (h : t.judged = s.judged) (i : Fin 4) : t.flt.stages[i].conf = s.flt.stages[i].conf
    ∧ t.flt.stages[i].dpCount = s.flt.stages[i].dpCount ∧ t.flt.stages[i].due = s.flt.stages[i].due
    ∧ t.flt.stages[i].lastDp = s.flt.stages[i].lastDp := by
  have stage := congrArg (fun f : Flt => f.stages[i]) h
  simp only [State.judged, Fin.getElem_fin, Vector.getElem_ofFn, Stage.mk.injEq] at stage
  tauto

theorem FltTold.parts (h : FltTold s t) :
    t.lkg = s.lkg ∧ t.filterRotor = s.filterRotor ∧ t.trackers = s.trackers := by
  rw [h.only]
  exact ⟨rfl, rfl, rfl⟩

theorem blocks_of_offTracks (h : t.offTracks = s.offTracks) :
    t.flt = s.flt ∧ t.lkg = s.lkg ∧ t.filterRotor = s.filterRotor := by
  rw [eq_of_offTracks h]
  exact ⟨rfl, rfl, rfl⟩

/-! ### FLOW's part of a publication (R43, R53) -/

theorem aside_accounted (j : Fin 7) (ch : Fin 8) (c : Channel) (r : ChanResult) (s : State) :
    Aside j s (s.accounted ch c r) := by
  have closed : Aside j s (s.closing ch c) := by
    have calm : Aside j s (setChannel ch c s) := ⟨rfl, rfl, fun _ => id⟩
    exact calm.trans (.of_reach (reach_raiseIf _ _ .same))
  exact (closed.trans (aside_toInlet ..)).trans (aside_toBrine ..)

/-- The state that FLOW leaves of a published result, before the evaluations. -/
def State.flowTaken (s : State) (ch : Fin 8) (c : Channel) (r : ChanResult) : State :=
  trackerResult flow s.channels[ch].conf r (s.accounted ch c r)

theorem judged_flowTaken (ch : Fin 8) (c : Channel) (r : ChanResult) (s : State) :
    (s.flowTaken ch c r).judged = s.judged := by
  rw [← judged_accounted ch c r s, State.flowTaken, eq_of_offTracks (trackerResult_offTracks ..), judged_outside]

theorem flowTaken_tracker {j : Fin 7} (h : j ≠ flow) (c : Channel) (r : ChanResult) :
    (s.flowTaken ch c r).trackers[j] = s.trackers[j] :=
  ((aside_accounted j ch c r s).trans (aside_trackerResult h.symm ..)).tracker

/-- The trackers after FLOW find the evaluations made, and leave what they have moved. -/
theorem publication_flow (fed : s.trackers[flow].Fed ch) (c : Channel) (r : ChanResult) :
    let w := fltFlowUpdate (s.flowTaken ch c r)
    (publication ch c r s).offTracks = w.offTracks ∧ Aside flow w (publication ch c r s) := by
  have same := (aside_accounted flow ch c r s).tracker
  obtain ⟨enabled, source, takes⟩ := fed
  rw [← same] at enabled source takes
  have first : toTracker ch s.channels[ch].conf r flow (s.accounted ch c r) = fltFlowUpdate (s.flowTaken ch c r) := by
    rw [toTracker, if_pos ⟨enabled, source⟩]
    exact if_pos ⟨rfl, takes⟩
  have later {j : Fin 7} (h : j ≠ flow) (u : State) :
      (toTracker ch s.channels[ch].conf r j u).offTracks = u.offTracks := by
    unfold toTracker
    split
    · exact (congrArg _ (if_neg fun e => h e.1)).trans (trackerResult_offTracks ..)
    · rfl
  have all : publication ch c r s = ((List.finRange 6).map Fin.succ).foldl
      (fun u j => toTracker ch s.channels[ch].conf r j u) (fltFlowUpdate (s.flowTaken ch c r)) := by
    unfold publication deliver
    rw [List.finRange_succ, List.foldl_cons, ← first]
    rfl
  rw [all]
  refine ⟨?_, aside_foldl (by simp [flow, Fin.succ_ne_zero]) ..⟩
  rw [List.foldl_map]
  exact foldl_offTracks _ (fun u j => later (Fin.succ_ne_zero j) u) _ _

/-- The evaluations read FLOW, the main and the rotor as they stand after the publication, and the pressures as they
stood before it. -/
theorem measures_flowTaken (fed : s.trackers[flow].Fed ch) (c' : Channel) (r : ChanResult) (c : StageRec)
    (a b : PressureId) :
    let t := publication ch c' r s
    ((s.flowTaken ch c' r).Measures c a b ↔ c.enabled = true ∧ c.up = some a ∧ c.down = some b
      ∧ t.trackers[flow].run.st = .locked ∧ c.qMin ≤ t.estimate flow ∧ s.trackers[pressureTracker a].run.st = .locked
      ∧ s.trackers[pressureTracker b].run.st = .locked ∧ t.lkg.main = .opened ∧ t.filterRotor.run.st = .at .service)
    ∧ (s.flowTaken ch c' r).pressureDrop c a b = min 2000
        ((s.estimate (pressureTracker a) - s.estimate (pressureTracker b)) * c.qRef / t.estimate flow) := by
  obtain ⟨off, aside⟩ := publication_flow fed c' r
  obtain ⟨-, lkg', rotor'⟩ := blocks_of_offTracks off
  obtain ⟨lkg, rotor, trackers⟩ := (fltTold_fltFlowUpdate (s.flowTaken ch c' r)).parts
  have flowed := aside.tracker
  rw [trackers] at flowed
  have pressure (p : PressureId) : (s.flowTaken ch c' r).trackers[pressureTracker p] = s.trackers[pressureTracker p] :=
    flowTaken_tracker (by cases p <;> decide) c' r
  simp only [State.Measures, State.pressureDrop, State.estimate, lkg', lkg, rotor', rotor, flowed, pressure, and_self]

end Sys2Proof.Machine

namespace Sys2Proof.Proofs
open Sys2Proof Sys2Proof.Machine

/-- Settles O30: an event due is one change of FLT; a result's evaluations find FLT as it was, and each stage's leaves
the other stages'. -/
theorem stagesBecomeDueAndABackwashIsDemanded : Obligations.StagesBecomeDueAndABackwashIsDemanded := by
  unfold Obligations.StagesBecomeDueAndABackwashIsDemanded
  refine ⟨fun i s => ⟨fun enabled fresh limit => ?due, fun undue => ?undue⟩,
    fun i s enabled media first clear => ⟨fun l limit full => ?volume, fun d below limit full => ?days⟩,
    fun s undue => ?undemanded, fun ch timeout s i opened late full enabled source takes => ?evaluated⟩
  case due =>
    have now : stageDueNow s.flt.stages[i] = true := (stageDueNow_iff _).2 ⟨enabled, fresh, limit⟩
    exact congrArg Host.Outcome.next ((if_pos now).trans (markDue_due enabled fresh))
  case undue =>
    have later : ¬ stageDueNow s.flt.stages[i] = true := fun now => by
      obtain ⟨enabled, fresh, -⟩ := (stageDueNow_iff _).1 now
      exact undue.elim (fun off => nomatch enabled.symm.trans off) fun due => nomatch fresh.symm.trans due
    exact congrArg Host.Outcome.next (if_neg later)
  case volume =>
    refine exec_backwashDemand_due clear ?_
    rw [demandDue_media (mediaStage_first enabled media first) clear,
      if_pos (reached_iff.2 ⟨l, limit, by rwa [Nat.mul_one]⟩)]
  case days =>
    have unreached : ¬ reached s.flt.stages[i].conf.bwVolume 1 s.flt.stages[i].volBw = true := fun c => by
      obtain ⟨l, limit', full'⟩ := reached_iff.1 c
      exact Nat.not_lt.2 (by rwa [Nat.mul_one] at full') (below l limit')
    refine exec_backwashDemand_due clear ?_
    rw [demandDue_media (mediaStage_first enabled media first) clear, if_neg unreached,
      if_pos (reached_iff.2 ⟨d, limit, full⟩)]
  case undemanded =>
    refine congrArg Host.Outcome.next (judgeDemand_undue ?_)
    unfold demandDue
    rcases undue with set | none
    · exact if_neg (by simpa using set)
    · rw [mediaStage_none none, ite_self]
  case evaluated =>
    have fed : s.trackers[flow].Fed ch := ⟨enabled, source, (takesResults_iff _).2 takes⟩
    refine ⟨_, exec_publication ch timeout s (fun h => timedOut_iff.2 ⟨opened, late h⟩)
      fun h => windowFull_iff.2 ⟨opened, full h⟩, ?_⟩
    generalize publishedClose timeout s.channels[ch] = c
    generalize publishedResult timeout s.channels[ch] = r
    obtain ⟨off, aside⟩ := publication_flow fed c r
    obtain ⟨flt, -⟩ := blocks_of_offTracks off
    have measures := measures_flowTaken fed c r s.flt.stages[i].conf
    have told := (fltTold_fltFlowUpdate (s.flowTaken ch c r)).told
    obtain ⟨demand, watch, fouled⟩ := demand_of_judged (judged_flowTaken ch c r s)
    have stage := stage_of_judged (judged_flowTaken ch c r s)
    generalize s.flowTaken ch c r = v at *
    generalize publication ch c r s = t at *
    obtain ⟨conf, count, due, last⟩ := stage i
    have same : t.flt.stages[i] = (fltFlowUpdate v).flt.stages[i] := by rw [flt]
    intro y q made
    subst y
    rw [same]
    refine ⟨fun unmade => ?unmade, fun a b l made limit => ?made⟩
    case unmade =>
      have never : evaluation v v.flt.stages[i].conf = none := by
        rw [conf]
        exact evaluation_none (unmade.imp_right fun never a b m => never a b ((measures a b).1.1 m))
      rw [fltFlowUpdate_none never]
      exact ⟨last, count, due⟩
    case made =>
      have taken : evaluation v v.flt.stages[i].conf = some (v.pressureDrop s.flt.stages[i].conf a b) := by
        rw [conf]
        exact evaluation_iff.2 ⟨a, b, (measures a b).1.2 made, by rw [limit]; exact nofun, rfl⟩
      rw [(measures a b).2] at taken
      intro dp high reaches
      have above : v.flt.stages[i].above dp = high := by rw [Stage.above, conf, limit]; rfl
      have persists : v.flt.stages[i].persists dp = reaches := by rw [Stage.persists, above, count, conf]
      obtain ⟨marked, whole⟩ := fltFlowUpdate_stage taken
      refine ⟨?_, ?_, fun moved => ?_, fun cartridge => ?_, fun media alone => ?_⟩
      · rw [whole]; rfl
      · rw [whole, Stage.evaluated, above, count]
      · rcases told with flag | ⟨same, -, -⟩
        · exact aside.flags .filter flag
        · exact absurd ((same i).trans due) moved
      · rw [fltFlowUpdate_cartridge taken (by rw [conf]; exact cartridge), due, persists]
      · obtain ⟨due', watch', fouled', demand'⟩ := fltFlowUpdate_media taken (by rw [conf]; exact media) fun j hj => by
          rw [(stage j).1]
          exact alone j hj
        rw [due, watch, above] at due'
        rw [watch, fouled, above] at fouled'
        rw [watch, fouled, demand, persists] at demand'
        rw [flt]
        refine ⟨due', watch', fouled', demand', fun moved => ?_⟩
        rcases told with flag | ⟨-, kept, still⟩
        · exact aside.flags .filter flag
        · exact (moved.elim (· (kept.trans demand)) (· (still.trans fouled))).elim

end Sys2Proof.Proofs
end

section
/-! PROOFS. Writes of the filter stages. -/

namespace Sys2Proof.Machine

variable {s t u : State} {i : Fin 4} {c : StageContents}

/-! ### The checks of a stage's write (R133, R134) -/

/-- An optional number between two bounds, when it is given. -/
abbrev Within (lo hi : Nat) (o : Option Nat) : Prop := ∀ n, o = some n → lo ≤ n ∧ n ≤ hi

/-- The contents of a stage within the ranges of R133 and R134. -/
abbrev StageInRange (c : StageContents) : Prop :=
  let r := c.record
  Within 1 (2 ^ 40 - 1) r.volumeLimit ∧ Within 1 3650 r.dayLimit ∧ Within 0 2000 r.dpLimit
    ∧ (1 ≤ r.persistence ∧ r.persistence ≤ 255) ∧ (1 ≤ r.qRef ∧ r.qRef ≤ 6000) ∧ (1 ≤ r.qMin ∧ r.qMin ≤ 6000)
    ∧ (r.kind = .media → Within 1 (2 ^ 40 - 1) r.bwVolume ∧ Within 1 365 r.bwDays)
    ∧ Within 0 (2 ^ 40 - 1) c.volRep ∧ Within 0 (2 ^ 32 - 1) c.secRep ∧ Within 0 (2 ^ 40 - 1) c.volBw
    ∧ Within 0 (2 ^ 32 - 1) c.secBw

/-- A stage's record without a second media stage, or one pressure on both sides (R134). -/
abbrev StageAgrees (s : State) (i : Fin 4) (r : StageRec) : Prop :=
  (r.enabled = true → r.kind = .media → ∀ j : Fin 4, j ≠ i → s.flt.stages[j].conf.enabled = true →
      s.flt.stages[j].conf.kind ≠ .media) ∧ (r.up.isSome → r.up ≠ r.down)

theorem outside_eq_false_within {lo hi : Nat} {o : Option Nat} : outside lo hi o = false ↔ Within lo hi o :=
  outside_eq_false

theorem above_eq_false_within {hi : Nat} {o : Option Nat} : above hi o = false ↔ Within 0 hi o := by
  simp [above_eq_false, Within]

theorem stageRange_eq_false (c : StageContents) : stageRange c = false ↔ StageInRange c := by
  have media : (c.record.kind == .media && (outside 1 max40 c.record.bwVolume || outside 1 365 c.record.bwDays)) = false
      ↔ (c.record.kind = .media → Within 1 max40 c.record.bwVolume ∧ Within 1 365 c.record.bwDays) := by
    cases c.record.kind <;> simp [outside_eq_false_within]
  have tops : 2 ^ 40 - 1 = max40 ∧ 2 ^ 32 - 1 = max32 := ⟨rfl, rfl⟩
  simp only [stageRange, Bool.or_eq_false_iff, media, outside_eq_false_within, above_eq_false_within, notIn_eq_false,
    and_assoc, StageInRange, tops]

theorem stageConflict_eq_false (s : State) (i : Fin 4) (r : StageRec) :
    stageConflict s i r = false ↔ StageAgrees s i r := by
  have second : secondMedia s i r = false ↔ (r.enabled = true → r.kind = .media → ∀ j : Fin 4, j ≠ i →
      s.flt.stages[j].conf.enabled = true → s.flt.stages[j].conf.kind ≠ .media) := by
    rw [Bool.eq_false_iff, Ne, secondMedia, Bool.and_eq_true, recIsMedia_iff, List.any_eq_true]
    simp [recIsMedia_iff]
  have sides : (r.up.isSome && r.up == r.down) = false ↔ (r.up.isSome → r.up ≠ r.down) := by
    cases r.up.isSome <;> simp
  rw [stageConflict, Bool.or_eq_false_iff, second, sides]

theorem checkStage_eq (hr : StageInRange c) (ha : StageAgrees s i c.record) :
    checkStage s i c = if s.stageBusy i then some .busy else none := by
  rw [checkStage, (stageRange_eq_false c).2 hr, (stageConflict_eq_false s i _).2 ha]
  cases s.stageBusy i <;> rfl

theorem checkStage_range (hr : ¬ StageInRange c) : checkStage s i c = some .range := by
  rw [checkStage, Bool.eq_true_of_not_eq_false (mt (stageRange_eq_false c).1 hr)]
  rfl

theorem checkStage_conflict (hr : StageInRange c) (ha : ¬ StageAgrees s i c.record) :
    checkStage s i c = some .conflict := by
  rw [checkStage, (stageRange_eq_false c).2 hr,
    Bool.eq_true_of_not_eq_false (mt (stageConflict_eq_false s i _).1 ha)]
  rfl

theorem writeStageEntry_checked (i : Fin 4) (c : StageContents) (s : State) :
    writeStageEntry i.val (some c) s = checked (checkStage s i c) (writeStage i c) s :=
  dif_pos i.isLt

/-! ### What a stage's write leaves (R134, R137) -/

/-- `t` is `s` with the demand, the watch and MEDIA_FOULED moved alone, and no flag cleared. -/
structure Remarked (s t : State) : Prop where
  only : t = { s with
    flt := { s.flt with
      demand := t.flt.demand, watch := t.flt.watch, fouled := t.flt.fouled, queueDue := t.flt.queueDue }
    mgu := { s.mgu with changes := t.mgu.changes } }
  flags : ∀ f, s.flagSet f → t.flagSet f

theorem Remarked.refl (s : State) : Remarked s s := ⟨rfl, fun _ => id⟩

theorem Remarked.trans (h : Remarked s u) (g : Remarked u t) : Remarked s t := by
  refine ⟨?_, fun f => g.flags f ∘ h.flags f⟩
  rw [g.only, h.only]

theorem Remarked.setStage (h : Remarked s t) (i : Fin 4) (x : Stage) : Remarked (setStage i x s) (setStage i x t) := by
  refine ⟨?_, h.flags⟩
  rw [h.only]
  rfl

theorem setStage_setStage (i : Fin 4) (x y : Stage) (s : State) : setStage i x (setStage i y s) = setStage i x s := by
  unfold setStage
  rw [Vector.set_set]

theorem remarked_raiseIf (b : Bool) (f : Flag) (s : State) : Remarked s (raiseIf b f s) := by
  refine ⟨?_, reach_flagSet (reach_raiseIf _ _ .same)⟩
  unfold raiseIf
  split <;> rfl

theorem remarked_judgeDemand (s : State) : Remarked s (judgeDemand s) := by
  cases due : demandDue s with
  | none =>
    rw [judgeDemand_undue due]
    exact .refl s
  | some x =>
    have judged : judgeDemand s = setDemand x s := by simp only [judgeDemand, due]
    rw [judged]
    by_cases clear : s.flt.demand = none
    · obtain ⟨q, set⟩ := setDemand_clear x clear
      rw [set]
      exact ⟨rfl, reach_flagSet (reach_raise _ (Reach.same.flt ⟨rfl, fun _ => rfl⟩))⟩
    · rw [setDemand_set x clear]
      exact .refl s

/-- A stage that is a media stage no longer takes the marks of one with it. -/
def State.mediaDropped (s : State) : State :=
  { setFouled false s with flt := { (setFouled false s).flt with demand := none, watch := false } }

theorem remarked_mediaDropped (s : State) : Remarked s s.mediaDropped := by
  have flags := reach_flagSet (reach_setFouled false (.same (s := s)))
  refine ⟨?_, flags⟩
  unfold State.mediaDropped setFouled raiseIf
  split <;> rfl

/-- DUE after a write of a stage. -/
def dueOnWrite (c : StageContents) (x : Stage) (fouled : Bool) : Bool :=
  c.record.enabled && (limitReached (writtenStage c x) || (recIsMedia c.record && fouled))

theorem dueOnWrite_iff (c : StageContents) (x : Stage) (fouled : Bool) : dueOnWrite c x fouled = true ↔
    c.record.enabled = true ∧ ((∃ l, c.record.volumeLimit = some l ∧ l ≤ c.volRep.getD x.volRep)
      ∨ (∃ d, c.record.dayLimit = some d ∧ d * 86400 ≤ c.secRep.getD x.secRep)
      ∨ (c.record.kind = .media ∧ fouled = true)) := by
  obtain ⟨volume, days⟩ : (storedStage c.record).volumeLimit = c.record.volumeLimit
      ∧ (storedStage c.record).dayLimit = c.record.dayLimit := by
    unfold storedStage
    split <;> exact ⟨rfl, rfl⟩
  have reaches : limitReached (writtenStage c x) = true ↔
      (∃ l, c.record.volumeLimit = some l ∧ l ≤ c.volRep.getD x.volRep)
        ∨ ∃ d, c.record.dayLimit = some d ∧ d * 86400 ≤ c.secRep.getD x.secRep := by
    simp only [limitReached, writtenStage, volume, days, Bool.or_eq_true, reached_iff, Nat.mul_one]
  rw [dueOnWrite, Bool.and_eq_true, Bool.or_eq_true, Bool.and_eq_true, reaches, recIsMedia_iff, or_assoc]
  exact and_congr_right fun enabled => by simp only [enabled, true_and]

theorem storedStage_eq (r : StageRec) :
    storedStage r = if r.kind = .media then r else { r with bwVolume := none, bwDays := none } := by
  unfold storedStage
  cases h : r.kind <;> simp

theorem recIsMedia_storedStage (r : StageRec) : recIsMedia (storedStage r) = recIsMedia r := by
  unfold storedStage
  split <;> rfl

/-- DUE is judged by the record written and the counters given, MEDIA_FOULED counting for a media stage. -/
theorem dueAfresh_eq (h : t.flt.stages[i] = writtenStage c s.flt.stages[i])
    (fouled : recIsMedia c.record = true → t.flt.fouled = s.flt.fouled) :
    let x := s.flt.stages[i]
    dueAfresh i t = raiseIf (dueOnWrite c x s.flt.fouled != x.due) .filter
      (setStage i { writtenStage c x with due := dueOnWrite c x s.flt.fouled } t) := by
  intro x
  have media : recIsMedia (writtenStage c x).conf = recIsMedia c.record := recIsMedia_storedStage _
  have enabled : (writtenStage c x).conf.enabled = c.record.enabled := by
    rw [writtenStage, storedStage_eq]
    split <;> rfl
  have due : ((writtenStage c x).conf.enabled && (limitReached (writtenStage c x)
      || (recIsMedia (writtenStage c x).conf && t.flt.fouled))) = dueOnWrite c x s.flt.fouled := by
    rw [enabled, media, dueOnWrite]
    cases plain : recIsMedia c.record with
    | false => rfl
    | true => rw [fouled plain]
  unfold dueAfresh
  dsimp only
  rw [h, due]
  rfl

/-- A write of a stage moves its entry and the marks of the media stage, and tells a change of DUE. -/
theorem writeStage_spec (i : Fin 4) (c : StageContents) (s : State) :
    let x := s.flt.stages[i]
    let due := dueOnWrite c x s.flt.fouled
    Remarked (setStage i { writtenStage c x with due := due } s) (writeStage i c s)
      ∧ (due ≠ x.due → (writeStage i c s).flagSet .filter) := by
  intro x due
  have stored : (setStage i (writtenStage c x) s).flt.stages[i] = writtenStage c x := Vector.getElem_set_self i.isLt
  have media : recIsMedia (writtenStage c x).conf = recIsMedia c.record := recIsMedia_storedStage _
  have judged (w : State) : Remarked w (if recIsMedia w.flt.stages[i].conf then judgeDemand w else w) := by
    split
    · exact remarked_judgeDemand w
    · exact .refl w
  obtain ⟨u, marks, fouled, dued⟩ : ∃ u, Remarked (setStage i (writtenStage c x) s) u
      ∧ (recIsMedia c.record = true → u.flt.fouled = s.flt.fouled) ∧ Remarked (dueAfresh i u) (writeStage i c s) := by
    refine ⟨if recIsMedia x.conf && !recIsMedia (setStage i (writtenStage c x) s).flt.stages[i].conf then
      (setStage i (writtenStage c x) s).mediaDropped else setStage i (writtenStage c x) s, ?_, fun m => ?_, judged _⟩
    · split
      · exact remarked_mediaDropped _
      · exact .refl _
    · rw [stored, media, m, Bool.not_true, Bool.and_false]
      rfl
  have entry : u.flt.stages[i] = writtenStage c x := by
    rw [marks.only]
    exact stored
  rw [dueAfresh_eq entry fouled] at dued
  have again := marks.setStage i { writtenStage c x with due := due }
  rw [setStage_setStage] at again
  refine ⟨again.trans ((remarked_raiseIf ..).trans dued), fun moved => dued.flags .filter ?_⟩
  rw [flagSet_raiseIf, bne_iff_ne.2 moved, Bool.or_true]

end Sys2Proof.Machine
end

section
/-! PROOFS. Writes of the actuators. -/

namespace Sys2Proof.Machine

variable {s : State} {a : Actr} {c : ActuatorRec} {v : Vector Nat 6}

/-! ### The checks of an actuator's write (R18, R57) -/

/-- An actuator's record within the ranges of R18 and R57. -/
abbrev ActuatorInRange (a : Actr) (c : ActuatorRec) : Prop :=
  let top := (positions a).length
  c.slot ≤ 5 ∧ c.start ≤ 7 ∧ (2 ≤ c.width ∧ c.width ≤ 3) ∧ c.start + c.width ≤ 8
    ∧ c.stopCode < 2 ^ c.width ∧ (∀ k, k < top → perPos c.codes k < 2 ^ c.width)
    ∧ (c.kind = .switches → ∀ k, k < top → perPos c.switchLanes k ≤ 31)
    ∧ (c.kind = .encoder → c.encoderLane ≤ 31 ∧ ∀ k, k < top → perPos c.encoderValues k ≤ 255)
    ∧ Within 0 31 c.stallLane ∧ Within 0 3 c.preset ∧ (1 ≤ c.travel ∧ c.travel ≤ 255) ∧ c.retry ≤ 7
    ∧ (1 ≤ c.pause ∧ c.pause ≤ 60)

/-- A lane that serves as a switch (R57). -/
abbrev LevelLane (s : State) (n : Nat) : Prop :=
  (s.lane n).desc.enabled = true ∧ ((s.lane n).desc.kind = .level ∨ (s.lane n).desc.kind = .mark)

/-- The entries of a per-position field differ from one another. -/
abbrev EntriesApart (a : Actr) (v : Vector Nat 6) : Prop :=
  ∀ k l, k < l → l < (positions a).length → perPos v k ≠ perPos v l

/-- The switches of a record agree with the lane table and with one another (R57). -/
abbrev SwitchesAgree (s : State) (a : Actr) (c : ActuatorRec) : Prop :=
  c.kind = .switches → (∀ k, k < (positions a).length → LevelLane s (perPos c.switchLanes k))
    ∧ EntriesApart a c.switchLanes

/-- The encoder of a record agrees with the lane table, and its values with one another (R57). -/
abbrev EncoderAgrees (s : State) (a : Actr) (c : ActuatorRec) : Prop :=
  c.kind = .encoder → (s.lane c.encoderLane).desc.enabled = true ∧ (s.lane c.encoderLane).desc.kind = .value
    ∧ (s.lane c.encoderLane).desc.w = 8 ∧ EntriesApart a c.encoderValues

/-- The command field stands apart from those of the other enabled actuators (R18). -/
abbrev CommandApart (s : State) (a : Actr) (c : ActuatorRec) : Prop :=
  ∀ b : Actr, b ≠ a → (s.act b).conf.enabled = true → (s.act b).conf.slot = c.slot →
    c.start + c.width ≤ (s.act b).conf.start ∨ (s.act b).conf.start + (s.act b).conf.width ≤ c.start

/-- The stall lane is a switch of its own (R57). -/
abbrev StallAgrees (s : State) (a : Actr) (c : ActuatorRec) : Prop :=
  ∀ n, c.stallLane = some n → LevelLane s n
    ∧ (c.kind = .switches → ∀ k, k < (positions a).length → perPos c.switchLanes k ≠ n)

/-- A record that is not in conflict (R18, R57). -/
abbrev ActuatorAgrees (s : State) (a : Actr) (c : ActuatorRec) : Prop :=
  c.enabled = true → CommandApart s a c ∧ (∀ k, k < (positions a).length → perPos c.codes k ≠ c.stopCode)
    ∧ EntriesApart a c.codes ∧ SwitchesAgree s a c ∧ EncoderAgrees s a c ∧ StallAgrees s a c

theorem anyPos_eq_false {p : Nat → Bool} :
    anyPos a v p = false ↔ ∀ k, k < (positions a).length → p (perPos v k) = false := by
  simp [anyPos]

theorem hasRepeat_posEntries : hasRepeat (posEntries a v) = false ↔ EntriesApart a v := by
  have nodup : (posEntries a v).Nodup ↔ EntriesApart a v := by
    rw [List.Nodup, List.pairwise_iff_getElem]
    simp only [posEntries, List.length_map, List.length_range, List.getElem_map, List.getElem_range]
    exact ⟨fun h k l kl top => h k l (by omega) top kl, fun h k l _ top kl => h k l kl top⟩
  rw [hasRepeat, Bool.not_eq_false', decide_eq_true_eq, nodup]

theorem mem_posEntries {n : Nat} : n ∈ posEntries a v ↔ ∃ k, k < (positions a).length ∧ perPos v k = n := by
  simp [posEntries]

theorem hasRepeat_cons {n : Nat} : hasRepeat (n :: posEntries a v) = false ↔
    (∀ k, k < (positions a).length → perPos v k ≠ n) ∧ EntriesApart a v := by
  rw [← hasRepeat_posEntries]
  simp only [hasRepeat, List.nodup_cons, mem_posEntries, Bool.not_eq_false', decide_eq_true_eq, not_exists, not_and, Ne]

theorem levelLike_iff (n : Nat) : (s.lane n).desc.levelLike = true ↔ LevelLane s n := by
  simp [LaneDesc.levelLike]

theorem notLevel_eq_false (n : Nat) : notLevel s n = false ↔ LevelLane s n := by
  rw [notLevel, Bool.not_eq_false', levelLike_iff]

theorem actuatorRange_eq_false (a : Actr) (c : ActuatorRec) : actuatorRange a c = false ↔ ActuatorInRange a c := by
  have switches : (c.kind == .switches && anyPos a c.switchLanes fun n => decide (31 < n)) = false
      ↔ (c.kind = .switches → ∀ k, k < (positions a).length → perPos c.switchLanes k ≤ 31) := by
    cases c.kind <;> simp [anyPos_eq_false]
  have encoder : (c.kind == .encoder && (decide (31 < c.encoderLane)
        || anyPos a c.encoderValues fun n => decide (255 < n))) = false
      ↔ (c.kind = .encoder → c.encoderLane ≤ 31
        ∧ ∀ k, k < (positions a).length → perPos c.encoderValues k ≤ 255) := by
    cases c.kind <;> simp [anyPos_eq_false]
  simp only [actuatorRange, Bool.or_eq_false_iff, switches, encoder, anyPos_eq_false, above_eq_false_within,
    notIn_eq_false, decide_eq_false_iff_not, Nat.not_lt, Nat.not_le, and_assoc, ActuatorInRange]

theorem commandOverlap_eq_false : commandOverlap s a c = false ↔ CommandApart s a c := by
  have all (b : Actr) : b ∈ allActrs := by cases b <;> decide
  simp only [commandOverlap, List.any_eq_false, all, true_imp_iff, Bool.and_eq_true, bne_iff_ne, beq_iff_eq, not_and,
    Bool.not_eq_true, fieldsMeet_eq_false, and_imp]
  exact forall_congr' fun b => imp_congr_right fun _ => imp_congr_right fun _ => imp_congr_right fun _ => or_comm

theorem feedbackConflict_eq_false :
    feedbackConflict s a c = false ↔ SwitchesAgree s a c ∧ EncoderAgrees s a c := by
  unfold feedbackConflict
  cases kind : c.kind with
  | switches => simp [SwitchesAgree, EncoderAgrees, kind, anyPos_eq_false, notLevel_eq_false, hasRepeat_posEntries]
  | encoder => simp [SwitchesAgree, EncoderAgrees, kind, LaneDesc.is, hasRepeat_posEntries, and_assoc]

theorem stallConflict_eq_false : stallConflict s a c = false ↔ StallAgrees s a c := by
  unfold stallConflict
  cases lane : c.stallLane with
  | none => simp [StallAgrees, lane]
  | some n =>
    cases kind : c.kind with
    | switches => simp [StallAgrees, lane, kind, notLevel_eq_false, mem_posEntries]
    | encoder => simp [StallAgrees, lane, kind, notLevel_eq_false]

theorem actuatorConflict_eq_false (s : State) (a : Actr) (c : ActuatorRec) :
    actuatorConflict s a c = false ↔ ActuatorAgrees s a c := by
  unfold actuatorConflict
  cases enabled : c.enabled with
  | false => simp [ActuatorAgrees, enabled]
  | true =>
    rw [Bool.true_and]
    simp only [Bool.or_eq_false_iff, commandOverlap_eq_false, hasRepeat_cons, feedbackConflict_eq_false,
      stallConflict_eq_false, and_assoc, enabled, ActuatorAgrees, true_imp_iff]

theorem checkActuator_passed (hr : ActuatorInRange a c) (ha : ActuatorAgrees s a c) : checkActuator s a c = none := by
  rw [checkActuator, (actuatorRange_eq_false a c).2 hr, (actuatorConflict_eq_false s a c).2 ha]
  rfl

theorem checkActuator_range (hr : ¬ ActuatorInRange a c) : checkActuator s a c = some .range := by
  rw [checkActuator, Bool.eq_true_of_not_eq_false (mt (actuatorRange_eq_false a c).1 hr)]
  rfl

theorem checkActuator_conflict (hr : ActuatorInRange a c) (ha : ¬ ActuatorAgrees s a c) :
    checkActuator s a c = some .conflict := by
  rw [checkActuator, (actuatorRange_eq_false a c).2 hr,
    Bool.eq_true_of_not_eq_false (mt (actuatorConflict_eq_false s a c).1 ha)]
  rfl

theorem actuatorBusy_iff : actuatorBusy s a = true ↔
    ∃ p n, (s.act a).run.st = .moving p n ∨ (s.act a).run.st = .paused p n := by
  unfold actuatorBusy ActuatorRun.busy ActuatorRun.target
  cases (s.act a).run.st <;> simp

/-- An actuator in MOVING or PAUSED refuses the write before its contents are looked at. -/
theorem writeActuatorEntry_busy (hb : actuatorBusy s a = true) (o : Option ActuatorRec) :
    writeActuatorEntry a.index o s = status .busy s := by
  rw [writeActuatorEntry, ofIndex_index]
  exact if_pos hb

theorem writeActuatorEntry_checked (hb : ¬ actuatorBusy s a = true) (c : ActuatorRec) :
    writeActuatorEntry a.index (some c) s = checked (checkActuator s a c) (storeActuator a c) s := by
  rw [writeActuatorEntry, ofIndex_index]
  exact if_neg hb

/-! ### The owners' answers to a reset notice (R58, R115, R144, R148) -/

variable {k : Grant} {r : TestResult}

/-- SELECTOR has no run to answer for, and a rotor none while its sequencer is IDLE. -/
theorem notifyReset_idle (h : a = .selector ∨ (a = .regenRotor ∧ s.rgs.seq = .idle)
    ∨ (a = .filterRotor ∧ s.flt.st = .idle)) : notifyReset a s = s := by
  rcases h with rfl | ⟨rfl, idle⟩ | ⟨rfl, idle⟩
  · rfl
  · simp only [notifyReset, rgsRotorMoved, idle]
    rfl
  · simp only [notifyReset, bwRotorMoved, idle]
    rfl

/-- The line given back while the main is not OPEN is granted to nobody. -/
theorem drainRelease_shut (h : s.lkg.main ≠ .opened) (q : Requester) : ∃ d n,
    drainRelease k q s = { s with drain := d, acc := { s.acc with allowCarry := n } }
      ∧ (s.drain.holder = some q → d = { s.drain with holder := none, allowance := 0, kind := none }) := by
  by_cases holds : s.drain.holder = some q
  · have freed : drainRelease k q s = drainFreed s := by
      rw [drainRelease, if_pos holds]
      refine drainRegrant_idle (.inl ?_)
      rw [drainFreed_eq]
      exact h
    exact ⟨_, _, freed.trans (drainFreed_eq s), fun _ => rfl⟩
  · exact ⟨_, s.acc.allowCarry, drainRelease_withdrawn holds, fun c => absurd c holds⟩

/-- The test after an end by which it gets a result, unless it has one already, in REOPENING (R164). -/
def State.testEnded (s : State) (r : TestResult) : DecayTest := { s.lkg.test with
  st := .idle, timer := none
  record := s.lkg.test.record.map fun x => { x with
    endedAt := some s.mgu.seconds
    result := if s.lkg.test.st = .reopening then x.result else some r } }

/-- `t` is `s` with the test ended and the line it held given back. -/
structure TestStopped (r : TestResult) (s t : State) : Prop where
  act : t.main = s.main
  replies : t.mgu.replies = s.mgu.replies
  lkg : t.lkg = { s.lkg with test := s.testEnded r }
  flag : t.flagSet .test
  line : s.drain.holder = some .test → t.drain = { s.drain with holder := none, allowance := 0, kind := none }

/-- Any state with the drain line of `s`, and its test but for the end, is released into a stopped test. -/
theorem testStopped_release {u : State} (act : u.main = s.main) (replies : u.mgu.replies = s.mgu.replies)
    (drain : u.drain = s.drain) (lkg : (testIdle u).lkg = { s.lkg with test := s.testEnded r })
    (shut : u.lkg.main ≠ .opened) : TestStopped r s (testRelease k u) := by
  obtain ⟨d, n, e, line⟩ := drainRelease_shut (k := k) shut .test
  have eq : testRelease k u = testIdle { u with drain := d, acc := { u.acc with allowCarry := n } } :=
    congrArg testIdle e
  rw [eq]
  exact ⟨act, replies, lkg, flagSet_setTest .., fun holds => drain ▸ line (drain.symm ▸ holds)⟩

/-- A test past WAITING is ended while the main is not OPEN. -/
theorem testStopped_testStop (shut : s.lkg.main ≠ .opened) (runs : s.lkg.test.st ≠ .idle) :
    TestStopped r s (testStop k r s) := by
  by_cases reopening : s.lkg.test.st = .reopening
  · have eq : testStop k r s = testRelease k s := by simp only [testStop, reopening]
    rw [eq]
    refine testStopped_release rfl rfl rfl ?_ shut
    simp only [testIdle_lkg, State.testEnded, reopening, if_true]
  · have eq : testStop k r s = testRelease k (setResult r s) := by
      unfold testStop
      split
      · exact absurd ‹_› runs
      · exact absurd ‹_› reopening
      · rfl
    rw [eq]
    refine testStopped_release rfl rfl rfl ?_ shut
    simp only [testIdle_lkg, setResult_lkg, State.testEnded, reopening, if_false, Option.map_map]
    rfl

/-- Leaving OPEN moves no reply and no clock, and of the drain line the allowance at most. -/
theorem setMainShut_aside (m : MainState) (s : State) : (setMainShut m s).mgu.replies = s.mgu.replies
    ∧ (setMainShut m s).mgu.seconds = s.mgu.seconds ∧ ∃ n q, (setMainShut m s).drain =
      { s.drain with allowance := n, kind := q } := by
  have told : (setMain m s).mgu.replies = s.mgu.replies ∧ (setMain m s).mgu.seconds = s.mgu.seconds := by
    unfold setMain raiseIf
    split <;> exact ⟨rfl, rfl⟩
  by_cases h : s.lkg.main = .opened
  · rw [setMainShut_opened h, heldRuns_eq]
    exact ⟨told.1, told.2, _, _, by rw [← setMain_drain m s]⟩
  · rw [setMainShut_shut h]
    exact ⟨told.1, told.2, s.drain.allowance, s.drain.kind, setMain_drain m s⟩

theorem testPastWaiting_iff : s.testPastWaiting = true ↔ s.lkg.test.st ≠ .idle ∧ s.lkg.test.st ≠ .waiting := by
  simp [State.testPastWaiting]

/-- MAIN's reset notice finds the main valve state UNKNOWN, ends a test past WAITING and gives its line back. -/
theorem mainReset_spec (k : Grant) (s : State) :
    let t := mainReset k s
    t.main = s.main ∧ t.lkg.main = .unknown ∧ t.lkg.latch = s.lkg.latch ∧ t.mgu.replies = s.mgu.replies
      ∧ (s.lkg.test.st = .idle ∨ s.lkg.test.st = .waiting → t.lkg.test = s.lkg.test
        ∧ t.drain = { s.drain with allowance := t.drain.allowance, kind := t.drain.kind })
      ∧ (s.lkg.test.st ≠ .idle → s.lkg.test.st ≠ .waiting → s.drain.holder = some .test →
        t.lkg.test = s.testEnded .abortedValve
          ∧ t.drain = { s.drain with holder := none, allowance := 0, kind := none } ∧ t.flagSet .test) := by
  intro t
  have lkg := setMainShut_lkg .unknown s
  have main := setMainShut_main .unknown s
  obtain ⟨replies, seconds, n, q, drain⟩ := setMainShut_aside .unknown s
  have reset : t = testValve k (setMainShut .unknown s) := rfl
  generalize setMainShut .unknown s = u at *
  have st : u.lkg.test.st = s.lkg.test.st := by rw [lkg]
  by_cases past : s.lkg.test.st ≠ .idle ∧ s.lkg.test.st ≠ .waiting
  · obtain ⟨runs, begun⟩ := past
    have shut : u.lkg.main ≠ .opened := by rw [lkg]; exact nofun
    obtain ⟨main', replies', lkg', flag, line⟩ :=
      testStopped_testStop (k := k) (r := .abortedValve) shut (by rw [st]; exact runs)
    have stopped : t = testStop k .abortedValve u :=
      reset.trans (if_pos (testPastWaiting_iff.2 (by rw [st]; exact ⟨runs, begun⟩)))
    have ended : u.testEnded .abortedValve = s.testEnded .abortedValve := by
      unfold State.testEnded
      rw [lkg, seconds]
    rw [ended, lkg] at lkg'
    rw [drain] at line
    rw [stopped, lkg']
    exact ⟨main'.trans main, rfl, rfl, replies'.trans replies, fun c => (c.elim runs begun).elim,
      fun _ _ holds => ⟨rfl, line holds, flag⟩⟩
  · have kept : t = u := reset.trans (if_neg fun c => past (st ▸ testPastWaiting_iff.1 c))
    rw [kept, lkg]
    exact ⟨main, rfl, rfl, replies, fun _ => ⟨rfl, by rw [drain]⟩, fun a b => absurd ⟨a, b⟩ past⟩

end Sys2Proof.Machine

namespace Sys2Proof.Proofs
open Sys2Proof Sys2Proof.Machine

/-- Settles O48: each table's checks in their order, what an accepted write stores, and how the owner answers it. -/
theorem stagesAndActuatorsAreWritten : Obligations.StagesAndActuatorsAreWritten := by
  unfold Obligations.StagesAndActuatorsAreWritten
  intro within tag s hs
  refine ⟨fun i c => ⟨fun hr ha hb => ?stage, fun hr => ?stageRange, fun hr ha => ?stageConflict,
      fun hr ha hb => ?stageBusy⟩, fun i c hi => ?stageIndex,
    fun a c still => ⟨fun hr ha => ⟨fun idle => ?idle, fun main => ?main⟩, fun hr => ?actuatorRange,
      fun hr ha => ?actuatorConflict⟩, fun a p n c hb => ?actuatorBusy, fun i c hi => ?actuatorIndex⟩
  case stage =>
    have passed : checkStage s i c = none := by
      rw [checkStage_eq hr ha, if_neg (mt (stageBusy_iff s i).1 hb)]
    obtain ⟨marks, told⟩ := writeStage_spec i c s
    have whole := marks.only
    have entry : (writeStage i c s).flt.stages[i] =
        { writtenStage c s.flt.stages[i] with due := dueOnWrite c s.flt.stages[i] s.flt.fouled } := by
      rw [whole]
      exact Vector.getElem_set_self i.isLt
    have others (j : Fin 4) (h : j ≠ i) : (writeStage i c s).flt.stages[j] = s.flt.stages[j] := by
      rw [whole]
      exact (getElem_set_ite ..).trans (if_neg h)
    have due := dueOnWrite_iff c s.flt.stages[i] s.flt.fouled
    refine ⟨_, exec_stored hs rfl (writeStageEntry_checked i c s) passed rfl, ?_⟩
    generalize writeStage i c s = t at *
    have replied : (pushReply tag [0] t).flt.stages[i] = t.flt.stages[i] := rfl
    rw [replied, entry]
    refine ⟨storedStage_eq _, rfl, rfl, rfl, rfl, rfl, due, others, ?_, ?_, ?_, fun moved => told moved, ?_, ?_⟩
    all_goals
      rw [whole]
      rfl
  case stageRange => exact exec_refused hs rfl (writeStageEntry_checked i c s) (checkStage_range hr)
  case stageConflict => exact exec_refused hs rfl (writeStageEntry_checked i c s) (checkStage_conflict hr ha)
  case stageBusy =>
    refine exec_refused (st := .busy) hs rfl (writeStageEntry_checked i c s) ?_
    rw [checkStage_eq hr ha, if_pos ((stageBusy_iff s i).2 hb)]
  case stageIndex =>
    exact exec_status (h := writeStageEntry i c) (st := .badIndex) hs rfl (dif_neg (by omega))
  case actuatorIndex =>
    refine exec_status (h := writeActuatorEntry i c) (st := .badIndex) hs rfl ?_
    rw [writeActuatorEntry, ofIndex_none hi]
  case actuatorBusy =>
    exact exec_status (st := .busy) hs rfl (writeActuatorEntry_busy (actuatorBusy_iff.2 ⟨p, n, hb⟩) c)
  all_goals
    have free : ¬ actuatorBusy s a = true := fun b => by
      obtain ⟨p, n, st⟩ := actuatorBusy_iff.1 b
      exact st.elim (still p n).1 (still p n).2
    have taken := writeActuatorEntry_checked free c
  case idle =>
    refine exec_stored hs rfl taken (checkActuator_passed hr ha) (notifyReset_idle ?_)
    rw [setAct_rgs, setAct_flt]
    exact idle
  case main =>
    subst main
    obtain ⟨act, shut, latch, replies, idle, ended⟩ :=
      mainReset_spec onGrant (setAct .main { conf := storedActuator .main c, run := s.main.run.unread } s)
    exact ⟨_, exec_stored hs rfl taken (checkActuator_passed hr ha) rfl, act, shut, latch,
      congrArg (· ++ [_]) replies, idle, ended⟩
  case actuatorRange => exact exec_refused hs rfl taken (checkActuator_range hr)
  case actuatorConflict => exact exec_refused hs rfl taken (checkActuator_conflict hr ha)

end Sys2Proof.Proofs
end
